-- ==== Sys2Proof/Word.lean ====
section
/-! DEFINITION. The words of the VGN-5120: a register is 32 bits (R350), a byte 8 bits, and the wider values
of the manual (timestamps, table entries) are natural numbers read by bit field (R3). -/

namespace Sys2Proof

/-- One register of the address map (R350). -/
abbrev Word := BitVec 32

/-- One byte of a frame or of a memory. -/
abbrev Byte := BitVec 8

end Sys2Proof
end

