-- ==== Sys2Proof/Syntax.lean ====
section
/-! DEFINITION. The commands of the block: one constructor of `Instr` for each row of the opcode table, with what
the sender of the command supplies (log entry 1), and the records those operands are made of. -/

namespace Sys2Proof

/-- Who makes a register access: the host over PCIe or the management core (R352). -/
inductive Requester where
  | host | mgmt
  deriving DecidableEq, Repr

/-- A run of bytes, first on the wire first. -/
abbrev Bytes := List Byte

/-- Technology abilities of Clause 73 that the device may advertise (R100). -/
inductive Tech where
  | kr25 | cr25 | kr10 | kr4 | cr4
  deriving DecidableEq, Repr

/-- What auto-negotiation learned of the partner (R91, R100, R125). -/
structure Partner where
  /-- the technology abilities it advertises; 1000BASE-X, whose Clause 37 has none, takes none of them -/
  techs : List Tech
  /-- the partner advertises the BASE-R FEC ability -/
  baseR : Bool
  /-- the partner requests BASE-R FEC -/
  baseRReq : Bool
  /-- the partner advertises the RS-FEC ability -/
  rs : Bool
  /-- the partner requests RS-FEC -/
  rsReq : Bool
  /-- the partner's pause ability bits C0 and C1 -/
  pause : Nat
  deriving DecidableEq, Repr

/-- Values the equalisers of a lane stand at (R101 to R103). -/
structure Equaliser where
  pre : Nat
  main : Nat
  post : Nat
  ctle : Nat
  /-- taps 1 to 5, two's complement of 5 bits each, tap 1 lowest -/
  dfe : Nat
  deriving DecidableEq, Repr

/-- What a lane in ACTIVE lost (R96). -/
inductive LockKind where
  | block | marker | fec | hiBer | cdr
  deriving DecidableEq, Repr

/-- The start of a frame at the receive balls (R47, R75). `wait` is the number of time-base clock cycles since the
previous command, `dev` the deviation of the stamp in units of 2^-8 ns, held within the bounds of R49. -/
structure RxStart where
  port : Nat
  wait : Nat
  dev : Int
  /-- the frame as the link partner sends it, from the destination address to the FCS -/
  bytes : Bytes
  deriving DecidableEq, Repr

/-- The end of a frame at the receive balls (R115, R118). -/
structure RxEnd where
  wait : Nat
  /-- a code-group, block or symbol error, an uncorrectable codeword or a truncation by loss of lock -/
  codeErr : Bool
  /-- the FIFO could not take a byte of a frame part of which had already gone to the erg -/
  overrun : Bool
  /-- codewords or blocks that FEC corrected and could not correct, and symbols corrected by lane (R105) -/
  fecCorr : Nat
  fecUncorr : Nat
  fecSym : List Nat
  deriving DecidableEq, Repr

/-- What the error-correcting codes find as a copy's cells, sidebands and descriptor are read (R283). -/
inductive Ecc where
  | good
  /-- the word at an address, corrected -/
  | corrected (word : Nat)
  /-- data of one of the chain's cells, by its place in the chain -/
  | data (place : Nat)
  /-- a sideband or a descriptor, the word at an address -/
  | structural (word : Nat)
  deriving DecidableEq, Repr

/-- What the error-correcting codes find in the free store's bitmap as it is read: a leaf word, corrected or not (R258, R283). -/
structure BitmapErr where
  corrected : Bool
  word : Nat
  deriving DecidableEq, Repr

/-- A turn of a pool, and what the codes find in the bitmap as the turn reads it (R263, R283). -/
structure PoolTurn where
  pool : Nat
  err : Option BitmapErr
  deriving DecidableEq, Repr

/-- The return of the head of an erg's recirculation port, and what the codes find as it is read (R156, R283). -/
structure WadiRead where
  erg : Nat
  ecc : Ecc
  deriving DecidableEq, Repr

/-- What the regulator answers on AVSBus (R329): the voltage read back, or a status that reports a fault. -/
inductive AvsAnswer where
  | volts (mv : Nat)
  | fault
  deriving DecidableEq, Repr

/-- The start of a transmission: the cycles since the previous command, the deviation of the egress stamp
in units of 2^-8 ns (R49), and the memory's integrity (R283). -/
structure TxStart where
  wait : Nat
  dev : Int
  ecc : Ecc
  deriving DecidableEq, Repr

/-- A received mPacket (R131). -/
structure Fragment where
  /-- a start mPacket -/
  start : Bool
  /-- of a start mPacket, the length of the frame that the partner has begun to send -/
  total : Nat
  /-- a code-group, block or symbol error, or a truncation by loss of lock (R115) -/
  codeErr : Bool
  /-- codewords or blocks that FEC corrected and could not correct, and symbols corrected by lane (R105) -/
  fecCorr : Nat
  fecUncorr : Nat
  fecSym : List Nat
  /-- frame or fragment count carried -/
  count : Nat
  /-- the last mPacket of its frame -/
  final : Bool
  /-- the final mCRC is good -/
  mcrcOk : Bool
  wait : Nat
  dev : Int
  bytes : Bytes
  deriving DecidableEq, Repr

/-- A table request (R185, R361). -/
structure TableReq where
  /-- table channel 0 to 3 -/
  chan : Nat
  /-- the 512 bits of the request descriptor as the device reads them -/
  desc : Nat
  /-- the read of the descriptor failed (R360) -/
  lost : Bool
  /-- entries of the records in BUFFER as the device reads them -/
  records : List Nat
  /-- records processed before a read or write of the buffer failed -/
  fail : Option Nat
  deriving DecidableEq, Repr

/-- What the mirage check reads of its shadow for one record, each part as a little-endian number (R190). -/
structure Shadow where
  /-- the 8 bytes of the header -/
  header : Nat
  /-- the number of the descriptor, and its 16 bytes -/
  place : Nat
  desc : Nat
  /-- the number of the record, and its bytes: the index, then the entry content -/
  item : Nat
  record : Nat
  /-- a read of the shadow failed -/
  fail : Bool
  deriving DecidableEq, Repr

/-- A transmit descriptor and its frame as the device reads them (R359). -/
structure TxFetch where
  ring : Nat
  wait : Nat
  /-- the 256 bits of the descriptor -/
  desc : Nat
  /-- the read of the descriptor failed -/
  lost : Bool
  /-- the frame, LEN bytes -/
  bytes : Bytes
  /-- the read of the frame failed -/
  fail : Bool
  deriving DecidableEq, Repr

/-- Delivery of a copy to a receive ring (R357). -/
structure RxDeliver where
  wait : Nat
  /-- ADDR of the posted descriptor as the device reads it -/
  addr : Nat
  /-- a read or write of the descriptor or the buffer failed -/
  fail : Bool
  /-- what the error-correcting codes find as the copy is read (R283) -/
  ecc : Ecc
  deriving DecidableEq, Repr

/-- The memory part on the NVM interface as the loader finds it (R368). -/
structure NvmPart where
  /-- the SFDP signature and a quad read are there -/
  sfdp : Bool
  /-- density in bytes -/
  density : Nat
  /-- read clock in MHz -/
  clock : Nat
  /-- what the board has put into the part, bytes by address, since the device last wrote it -/
  content : List (Nat × Bytes)
  /-- a read of both headers failed -/
  err : Bool
  deriving DecidableEq, Repr

/-- What firmware's admission service decides of a SERVICE request (R306, R307, R389). -/
structure Admission where
  result : Nat
  rsv : Nat
  bound : Nat
  /-- the registers it writes: BAR0 offset and value -/
  regs : List (Nat × Word)
  /-- the table entries it writes: table, erg, index and entry -/
  tabs : List (Nat × Nat × Nat × Nat)
  deriving DecidableEq, Repr

/-- An error that the codes of the table memories find in an entry (R338); `erg` 4 for a device table. -/
structure TableErr where
  table : Nat
  erg : Nat
  index : Nat
  corrected : Bool
  deriving DecidableEq, Repr

/-- A word of the keep list that a restore finds wrong (R322): the address of its word in always-on memory, whether the code
corrects it, and what it holds: 0 an immediate register, 1 and 2 a staged register in bank 0 and bank 1, named by its BAR0
offset, 3 and 4 a stream profile in bank 0 and bank 1, named by its index. -/
structure KeepErr where
  word : Nat
  corrected : Bool
  copy : Nat
  off : Nat
  deriving DecidableEq, Repr

/-- The commands, in the order of the opcode table. -/
inductive Instr where
  /-- MAIN_SUPPLY_POR_RISE, R31 -/
  | mainSupplyPorRise (ticks : Nat) (straps : Nat) (sbAddr : Nat)
  /-- MAIN_POR_FALL, R416 -/
  | mainPorFall
  /-- VDD_SRAM_FALL, R416 -/
  | vddSramFall
  /-- VDD_SRAM_RECOVER, R31 -/
  | vddSramRecover (straps : Nat)
  /-- POR_N_ASSERT, R421 -/
  | porNAssert
  /-- POR_N_RELEASE, R421 -/
  | porNRelease (straps : Nat)
  /-- RESET_N_ASSERT, R421 -/
  | resetNAssert
  /-- RESET_N_RELEASE, R421 -/
  | resetNRelease (straps : Nat)
  /-- TEST_ENTER, R365 -/
  | testEnter (rq : Requester)
  /-- TEST_EXIT, R365 -/
  | testExit (rq : Requester)
  /-- TABLE_INIT_DONE, R373 -/
  | tableInitDone
  /-- FW_IMAGE_CHECK, R371 -/
  | fwImageCheck (err : Bool)
  /-- CREST_SECTION_APPLY, R372 -/
  | crestSectionApply (err : Bool)
  /-- TB_SET, R41 -/
  | tbSet (rq : Requester) (n : Nat)
  /-- TB_STEP, R41 -/
  | tbStep (rq : Requester) (n : Nat)
  /-- TB_TRIM_WRITE, R42 -/
  | tbTrimWrite (rq : Requester) (n : Nat) (v : Word)
  /-- TMB_SNAP_TAKE, R44 -/
  | tmbSnapTake (rq : Requester)
  /-- SNAPSHOT_COMPLETE, R44 -/
  | snapshotComplete
  /-- TXTS_POP, R57 -/
  | txtsPop (rq : Requester) (p : Nat)
  /-- TIO_CAPTURE_EDGE, R59 -/
  | tioCaptureEdge (pin : Nat) (rising : Bool) (wait : Nat) (dev : Int)
  /-- TIO_OUTPUT_EDGE, R60 -/
  | tioOutputEdge (pin : Nat)
  /-- TIO_PULSE_END, R60 -/
  | tioPulseEnd (pin : Nat)
  /-- KEEPER_REALIGN, R61 -/
  | keeperRealign (err : Int)
  /-- KEEPER_TICK_CORRECTION, R62 -/
  | keeperTickCorrection
  /-- CRS_GO, R73 -/
  | crsGo (rq : Requester) (v : Word)
  /-- CRS_ABORT, R77 -/
  | crsAbort (rq : Requester) (v : Word)
  /-- CREST_COMMIT, R76 -/
  | crestCommit
  /-- DRAIN_COMPLETE, R79 -/
  | drainComplete
  /-- DRAIN_LIMIT_EXPIRE, R81 -/
  | drainLimitExpire
  /-- RECONCILE_COMPLETE, R72 -/
  | reconcileComplete
  /-- SCRUB_PASS_COMPLETE, R83 -/
  | scrubPassComplete (us : Nat)
  /-- RELOAD_LIMIT_EXPIRE, R87 -/
  | reloadLimitExpire (r : Nat)
  /-- CAIRN_BEACON, R88 -/
  | cairnBeacon
  /-- LANE_RESTART, R96 -/
  | laneRestart (rq : Requester) (q : Nat) (mask : Nat)
  /-- QUAD_REF_LOSS, R94 -/
  | quadRefLoss (q : Nat) (pll : Bool)
  /-- QUAD_REF_RECOVER, R94 -/
  | quadRefRecover (q : Nat)
  /-- LANE_SIGNAL_DETECT, R96 -/
  | laneSignalDetect (lane : Nat)
  /-- AN_COMPLETE, R96 -/
  | anComplete (p : Nat) (partner : Partner)
  /-- AN_FAIL, R96 -/
  | anFail (p : Nat)
  /-- TRAIN_COMPLETE, R96 -/
  | trainComplete (p : Nat) (eqs : List Equaliser)
  /-- TRAIN_TIMEOUT, R96 -/
  | trainTimeout (p : Nat)
  /-- EQ_SETTLED, R96 -/
  | eqSettled (p : Nat) (eqs : List Equaliser)
  /-- LOCK_ACHIEVED, R96 -/
  | lockAchieved (p : Nat) (skews : List Nat) (rxAlign : Nat) (txAlign : Nat)
  /-- LOCK_TIMEOUT, R96 -/
  | lockTimeout (p : Nat) (skews : List Nat)
  /-- LANE_LOCK_LOSS, R96 -/
  | laneLockLoss (lane : Nat) (what : LockKind)
  /-- LANE_SIGNAL_LOSS, R96 -/
  | laneSignalLoss (lane : Nat)
  /-- NAP_ENTER, R109 -/
  | napEnter (p : Nat)
  /-- NAP_EXIT, R109 -/
  | napExit (p : Nat)
  /-- NAP_WAKE_TIMEOUT, R109 -/
  | napWakeTimeout (p : Nat)
  /-- DEEP_ENTER, R109 -/
  | deepEnter (p : Nat)
  /-- DEEP_EXIT, R109 -/
  | deepExit (p : Nat)
  /-- PRBS_LOCK, R108 -/
  | prbsLock (p : Nat)
  /-- PRBS_LOSS, R108 -/
  | prbsLoss (p : Nat) (errors : Nat)
  /-- PRBS_INJECT, R108 -/
  | prbsInject (rq : Requester) (p : Nat)
  /-- FRAME_RX_START, R75 -/
  | frameRxStart (rx : RxStart)
  /-- FRAME_RX_END, R115 -/
  | frameRxEnd (id : Nat) (rx : RxEnd)
  /-- PAUSE_APPLY, R122 -/
  | pauseApply (p : Nat)
  /-- PAUSE_EXPIRE, R121 -/
  | pauseExpire (p : Nat) (k : Nat)
  /-- PAUSE_WDOG_FIRE, R124 -/
  | pauseWdogFire (p : Nat)
  /-- PAUSE_HOLDOFF_END, R124 -/
  | pauseHoldoffEnd (p : Nat)
  /-- FRAME_TRANSMIT_START, R290 -/
  | frameTransmitStart (p : Nat) (tx : TxStart)
  /-- FRAME_TRANSMIT_END, R120 -/
  | frameTransmitEnd (p : Nat) (wait : Nat)
  /-- EEE_LPI_ENTER, R127 -/
  | eeeLpiEnter (p : Nat)
  /-- EEE_LPI_EXIT, R127 -/
  | eeeLpiExit (p : Nat)
  /-- EEE_WAKE_DONE, R127 -/
  | eeeWakeDone (p : Nat)
  /-- RX_LPI_PERIOD, R127 -/
  | rxLpiPeriod (p : Nat)
  /-- PREEMPT_VERIFY_SEND, R129 -/
  | preemptVerifySend (p : Nat)
  /-- PREEMPT_RESPOND_RX, R129 -/
  | preemptRespondRx (p : Nat)
  /-- PREEMPT_VERIFY_FAIL, R129 -/
  | preemptVerifyFail (p : Nat)
  /-- PREEMPT_FRAGMENT_RX, R131 -/
  | preemptFragmentRx (p : Nat) (fr : Fragment)
  /-- FIELD_COLLISION, R132 -/
  | fieldCollision (p : Nat) (sent : Nat)
  /-- FIELD_BACKOFF_EXPIRE, R132 -/
  | fieldBackoffExpire (p : Nat) (tx : TxStart)
  /-- FIELD_TX_OPPORTUNITY, R133 -/
  | fieldTxOpportunity (p : Nat) (deferred : Bool) (tx : TxStart)
  /-- FIELD_JABBER, R132 -/
  | fieldJabber (p : Nat)
  /-- FIELD_JABBER_RELEASE, R132 -/
  | fieldJabberRelease (p : Nat)
  /-- FIELD_STORM_WINDOW_END, R134 -/
  | fieldStormWindowEnd (p : Nat)
  /-- FIELD_DWELL_EXPIRE, R135 -/
  | fieldDwellExpire (p : Nat)
  /-- CLEAR_FALLBACK, R135 -/
  | clearFallback (rq : Requester) (p : Nat)
  /-- FIELD_BEACON_CONFLICT, R136 -/
  | fieldBeaconConflict (p : Nat)
  /-- MAC_STAT_CLEAR, R139 -/
  | macStatClear (rq : Requester) (p : Nat)
  /-- PARSE_DISPATCH, R141 -/
  | parseDispatch (e : Nat)
  /-- PARSE_COMPLETE, R147 -/
  | parseComplete (e : Nat) (k : Nat)
  /-- REORDER_RELEASE, R143 -/
  | reorderRelease (e : Nat) (ecc : List TableErr)
  /-- WADI_RETURN, R156 -/
  | wadiReturn (r : WadiRead)
  /-- EXPRESS_LOOKUP, R154 -/
  | expressLookup (id : Nat)
  /-- LEARN_BUS_DELIVER, R172 -/
  | learnBusDeliver
  /-- LEARN_EVENT_APPLY, R173 -/
  | learnEventApply (e : Nat)
  /-- AGE_SCAN_STEP, R175 -/
  | ageScanStep (e : Nat)
  /-- TABLE_READ, R186 -/
  | tableRead (t : TableReq)
  /-- TABLE_WRITE, R186 -/
  | tableWrite (t : TableReq)
  /-- TABLE_WRITE_FLAGS, R186 -/
  | tableWriteFlags (t : TableReq)
  /-- TABLE_INSERT, R186 -/
  | tableInsert (t : TableReq)
  /-- TABLE_SEARCH, R186 -/
  | tableSearch (t : TableReq)
  /-- TABLE_DELETE, R186 -/
  | tableDelete (t : TableReq)
  /-- TABLE_FLUSH, R186 -/
  | tableFlush (t : TableReq)
  /-- TABLE_REBUILD_BLOOM, R186 -/
  | tableRebuildBloom (t : TableReq)
  /-- TABLE_NOP, R186 -/
  | tableNop (t : TableReq)
  /-- LOCK_BREAK, R188 -/
  | lockBreak (e : Nat)
  /-- MIRAGE_COMPARE, R191 -/
  | mirageCompare (e : Nat) (m : Shadow)
  /-- MIRAGE_PASS_END, R191 -/
  | miragePassEnd (e : Nat) (descs : List Nat) (header : Nat)
  /-- CARAVAN_OFFER, R226: `parity` is the slot of the entry in which a parity error is found, true for the odd slot of a
  wide entry (R249) -/
  | caravanOffer (id : Nat) (parity : Option Bool)
  /-- LEDGER_TICK, R230 -/
  | ledgerTick (bad : List Nat)
  /-- SWEEP_END, R231 -/
  | sweepEnd (wait : Nat)
  /-- HOLD_CHECK, R237 -/
  | holdCheck (slot : Nat)
  /-- PATH_PROBE_SEND, R241 -/
  | pathProbeSend (slot : Nat)
  /-- CLAIM_FRAME_SEND, R245 -/
  | claimFrameSend
  /-- CLAIM_FORGET, R246 -/
  | claimForget (rank : Nat)
  /-- OWN_CLAIM_LAPSE, R246 -/
  | ownClaimLapse
  /-- CLAIM_SILENCE_END, R247 -/
  | claimSilenceEnd
  /-- COUPLE_DUAL_EXPIRE, R247 -/
  | coupleDualExpire
  /-- COUPLE_CTL_WRITE, R248 -/
  | coupleCtlWrite (rq : Requester) (v : Word)
  /-- COUPLE_CLAIM_WRITE, R248 -/
  | coupleClaimWrite (rq : Requester) (v : Word)
  /-- CVN_RING_ENABLE, R254 -/
  | cvnRingEnable (rq : Requester) (r : Nat) (v : Word)
  /-- OAS_ALLOC_REQ, R265 -/
  | oasAllocReq (rq : Requester) (v : Word)
  /-- OAS_ALLOC_RESULT_READ, R265 -/
  | oasAllocResultRead (rq : Requester)
  /-- OAS_FREE, R261 -/
  | oasFree (rq : Requester) (v : Word)
  /-- POOL_CARVE, R263 -/
  | poolCarve (t : PoolTurn)
  /-- DFREE_LOG_CLEAR, R262 -/
  | dfreeLogClear (rq : Requester)
  /-- GATE_ENTRY_CHANGE, R294 -/
  | gateEntryChange (p : Nat)
  /-- PREWAKE_VOTE, R301 -/
  | prewakeVote (p : Nat)
  /-- BOUND_AGE_CHECK, R304 -/
  | boundAgeCheck
  /-- DOMAIN_IDLE_EXPIRE, R319 -/
  | domainIdleExpire (d : Nat)
  /-- DOMAIN_ENTRY_COMPLETE, R321 -/
  | domainEntryComplete (d : Nat)
  /-- DOMAIN_WAKE_COMPLETE, R314 -/
  | domainWakeComplete (d : Nat) (bad : List KeepErr)
  /-- STALL_TIMEOUT, R324 -/
  | stallTimeout
  /-- PWR_VOTE_WRITE, R317 -/
  | pwrVoteWrite (rq : Requester) (d : Nat) (v : Word)
  /-- PWR_LOW_WRITE, R319 -/
  | pwrLowWrite (rq : Requester) (d : Nat) (v : Word)
  /-- PERF_REQ_WRITE, R328 -/
  | perfReqWrite (rq : Requester) (e : Nat) (v : Word)
  /-- PERF_CLOCK_SWITCH, R328 -/
  | perfClockSwitch (e : Nat)
  /-- AVS_WRITE, R329 -/
  | avsWrite
  /-- AVS_READBACK, R329 -/
  | avsReadback (a : AvsAnswer)
  /-- AVS_TIMEOUT, R329: or the regulator reports a fault -/
  | avsTimeout
  /-- AVS_SETTLE_DONE, R328 -/
  | avsSettleDone
  /-- MAIN_SUPPLY_LOSS, R331 -/
  | mainSupplyLoss
  /-- MAIN_SUPPLY_RESTORE, R331 -/
  | mainSupplyRestore (ticks : Nat)
  /-- BAK_OK_FALL, R332 -/
  | bakOkFall
  /-- BAK_OK_RISE, R332 -/
  | bakOkRise
  /-- FAULT_OCCURRENCE, R336 -/
  | faultOccurrence
  /-- FAULT_RECORD_WRITE, R432 -/
  | faultRecordWrite
  /-- COLLECTOR_PARITY_ERROR, R342 -/
  | collectorParityError (reg : Nat)
  /-- COLLECTOR_CLOCK_LOSS, R342 -/
  | collectorClockLoss
  /-- WDOG_KICK, R341 -/
  | wdogKick (rq : Requester) (v : Word)
  /-- WDOG_EXPIRE, R341 -/
  | wdogExpire
  /-- FLT_INJECT, R345 -/
  | fltInject (rq : Requester) (v : Word)
  /-- FLT_FW_REPORT, R345 -/
  | fltFwReport (rq : Requester) (v : Word)
  /-- FLT_CLASS_CLEAR, R345 -/
  | fltClassClear (rq : Requester)
  /-- FLT_MAX_CLEAR, R345 -/
  | fltMaxClear (rq : Requester)
  /-- TEMP_SAMPLE, R429 -/
  | tempSample (now : Nat)
  /-- RAIL_OUT_OF_WINDOW, R340 -/
  | railOutOfWindow (rail : Nat) (mv : Nat)
  /-- REFCLK_SYS_LOSS, R334 -/
  | refclkSysLoss
  /-- PLL_LOCK_LOSS, R334 -/
  | pllLockLoss (which : Nat)
  /-- XTAL32_FAULT, R424 -/
  | xtal32Fault
  /-- MGMT_SRAM_ECC_ERROR, R334 -/
  | mgmtSramEccError (addr : Nat) (corrected : Bool)
  /-- SB_I2C_READ, R344 -/
  | sbI2cRead (ptr : Nat) (n : Nat)
  /-- SB_I2C_WRITE, R344 -/
  | sbI2cWrite (data : Bytes)
  /-- SB_SCL_TIMEOUT, R344 -/
  | sbSclTimeout
  /-- REGISTER_WRITE, R9 -/
  | registerWrite (rq : Requester) (addr : Nat) (v : Word) (whole : Bool)
  /-- RING_ENABLE, R356 -/
  | ringEnable (rq : Requester) (ring : Nat) (v : Word)
  /-- TX_DESCRIPTOR_FETCH, R359 -/
  | txDescriptorFetch (tx : TxFetch)
  /-- DMA_READ_TIMEOUT, R347 -/
  | dmaReadTimeout (chan : Nat)
  /-- CPU_RX_DELIVER, R357 -/
  | cpuRxDeliver (rx : RxDeliver)
  /-- RING_ACK, R363 -/
  | ringAck (rq : Requester) (ring : Nat) (v : Word)
  /-- COAL_TIMER_EXPIRE, R363 -/
  | coalTimerExpire (ring : Nat)
  /-- MSIX_MESSAGE, R364 -/
  | msixMessage (v : Nat)
  /-- VEC_REARM, R364 -/
  | vecRearm (rq : Requester) (hi : Bool) (v : Word)
  /-- PCIE_LINK_DOWN, R346 -/
  | pcieLinkDown (down : Bool) (status : Nat)
  /-- MBX_POST, R379 -/
  | mbxPost (rq : Requester)
  /-- MSG_OPEN, R380 -/
  | msgOpen (err : Bool)
  /-- MSG_BLOCK, R381 -/
  | msgBlock (err : Bool)
  /-- MSG_CLOSE, R380 -/
  | msgClose (err : Bool)
  /-- MSG_ACTIVATE_FW, R383 -/
  | msgActivateFw
  /-- MSG_ACTIVATE_CREST, R388 -/
  | msgActivateCrest
  /-- MSG_REVERT, R385 -/
  | msgRevert
  /-- MSG_SERVICE, R389 -/
  | msgService (a : Admission)
  /-- MSG_STATUS, R377 -/
  | msgStatus
  /-- SESSION_IDLE_EXPIRE, R380 -/
  | sessionIdleExpire
  /-- ACTIVATE_CHECK_DONE, R383 -/
  | activateCheckDone (err : Bool)
  /-- HANDOVER_CONTROL_PASS, R383 -/
  | handoverControlPass
  /-- SERVICES_RESUME, R383 -/
  | servicesResume
  /-- FW_CONFIRM, R385 -/
  | fwConfirm (rq : Requester) (v : Word)
  /-- CONFIRM_WINDOW_EXPIRE, R385 -/
  | confirmWindowExpire
  /-- LLDP_SEND, R374 -/
  | lldpSend (p : Nat) (tlvs : Bytes)
  /-- MON_RUN_WRITE, R397 -/
  | monRunWrite (rq : Requester) (v : Word)
  /-- MON_CLEAR, R397 -/
  | monClear (rq : Requester) (v : Word)
  /-- MON_SNAP, R397 -/
  | monSnap (rq : Requester) (v : Word)
  /-- MON_SYNC_APPLY, R397 -/
  | monSyncApply
  /-- MON_COUNT_WRITE, R397 -/
  | monCountWrite (rq : Requester) (u : Nat) (k : Nat) (v : Word)
  /-- DUMP_SNAPSHOT, R398 -/
  | dumpSnapshot
  /-- DUMP_RECORD_WRITE, R400 -/
  | dumpRecordWrite (fail : Bool)
  /-- DUMP_ENABLE, R408 -/
  | dumpEnable (rq : Requester) (v : Word)
  /-- DUMP_BUF_READ, R408 -/
  | dumpBufRead (rq : Requester)
  /-- BW_WINDOW_END, R401 -/
  | bwWindowEnd
  /-- TRC_ENABLE, R404 -/
  | trcEnable (rq : Requester) (v : Word)
  /-- TRC_DISABLE, R404 -/
  | trcDisable (rq : Requester) (v : Word)
  /-- TRACE_RECORD_WRITE, R406 -/
  | traceRecordWrite (fail : Bool)
  /-- REGISTER_READ, R7 -/
  | registerRead (rq : Requester) (addr : Nat) (whole : Bool)
  /-- NVM_HEADER_READ, R369 -/
  | nvmHeaderRead (part : NvmPart)
  /-- PCIE_LINK_UP, R346 -/
  | pcieLinkUp (speed : Nat) (width : Nat)
  /-- PCIE_CONFIG_WRITE, R364 -/
  | pcieConfigWrite (bme : Bool) (msix : Bool) (fmask : Bool)
  /-- LOW_POWER_SIGNAL_DETECT, R318 -/
  | lowPowerSignalDetect (p : Nat)
  /-- PLCA_BEACON, R133 -/
  | plcaBeacon (p : Nat) (own : Bool)
  deriving DecidableEq, Repr

end Sys2Proof
end

