-- ==== Sys2Proof/Decode.lean ====
section
/-! DEFINITION. The commands have no binary encoding: the table gives no row any bits (log entry 1). -/

namespace Sys2Proof

/-- The command that a word spells: none, since no row of the table has bits. -/
def decodeTableWord (_nbits _w : Nat) : Option Instr := none

end Sys2Proof
end

