-- ==== Sys2Proof/Machine/Bits.lean ====
section
/-! DEFINITION. Bit fields (R3), byte order (R4), two's complement, saturation and the two cyclic redundancy
checks the manual names: CRC-32C (R83) and the FCS (R5). -/

namespace Sys2Proof.Machine

/-- Field of `w` bits whose lowest bit is `lo` (R3). -/
def bits (v lo w : Nat) : Nat := (v >>> lo) % 2 ^ w

/-- `v` with its field of `w` bits at `lo` replaced by `x` taken modulo `2 ^ w`. -/
def setBits (v lo w x : Nat) : Nat :=
  v % 2 ^ lo + (x % 2 ^ w) * 2 ^ lo + (v >>> (lo + w)) * 2 ^ (lo + w)

/-- Bit `i` of `v`. -/
def bit (v i : Nat) : Bool := v.testBit i

/-- 1 for true. -/
def b2n (b : Bool) : Nat := if b then 1 else 0

/-- The value of `w` bits read as two's complement. -/
def signed (w v : Nat) : Int := if v % 2 ^ w < 2 ^ (w - 1) then (v % 2 ^ w : Int) else (v % 2 ^ w : Int) - 2 ^ w

/-- Two's complement of `w` bits of an integer. -/
def unsigned (w : Nat) (i : Int) : Nat := (i % (2 ^ w : Int)).toNat

/-- Nearest value of the range `lo` to `hi` (R10). -/
def clampNat (lo hi v : Nat) : Nat := max lo (min hi v)

/-- Nearest integer of the range `lo` to `hi` (R10). -/
def clampInt (lo hi v : Int) : Int := max lo (min hi v)

/-- Largest value of 32 bits, at which the RC counters saturate. -/
def max32 : Nat := 0xFFFFFFFF

/-- Addition that saturates at `2 ^ w - 1`. -/
def satAdd (w v n : Nat) : Nat := min (2 ^ w - 1) (v + n)

/-- Little-endian bytes of `v` (R4). -/
def leBytes : Nat → Nat → List Byte
  | 0, _ => []
  | n + 1, v => BitVec.ofNat 8 v :: leBytes n (v / 256)

/-- Network-order bytes of `v` (R4). -/
def beBytes (n v : Nat) : List Byte := (leBytes n v).reverse

/-- Value of bytes in network order. -/
def ofBe (l : List Byte) : Nat := l.foldl (fun a b => a * 256 + b.toNat) 0

/-- Value of bytes in little-endian order. -/
def ofLe (l : List Byte) : Nat := l.foldr (fun b a => b.toNat + a * 256) 0

/-- Byte `i` of a frame, 0 beyond its end. -/
def byteAt (l : List Byte) (i : Nat) : Byte := l.getD i 0

/-- The two bytes at `i` in network order (be16 of R147). -/
def be16 (l : List Byte) (i : Nat) : Nat := (byteAt l i).toNat * 256 + (byteAt l (i + 1)).toNat

/-- `n` bytes at `i` in network order, 0 for bytes beyond the end. -/
def beAt (l : List Byte) (i n : Nat) : Nat := ofBe ((List.range n).map fun k => byteAt l (i + k))

/-- One bit step of a reflected cyclic redundancy check of 32 bits. -/
def crcBit (poly c : Nat) : Nat := if c % 2 = 1 then (c / 2) ^^^ poly else c / 2

/-- `n` bit steps. -/
def crcBits (poly : Nat) : Nat → Nat → Nat
  | 0, c => c
  | n + 1, c => crcBits poly n (crcBit poly c)

/-- Reflected cyclic redundancy check over bytes, before the final complement. -/
def crcRun (poly init : Nat) (l : List Byte) : Nat :=
  l.foldl (fun c b => crcBits poly 8 (c ^^^ b.toNat)) init

/-- Castagnoli polynomial, bit-reversed (R83). -/
def castagnoli : Nat := 0x82F63B78

/-- CRC-32C with a given initial value and the final complement (R83, R164, R179). -/
def crc32cInit (init : Nat) (l : List Byte) : Nat := crcRun castagnoli init l ^^^ max32

/-- CRC-32C with the parameters of R83. -/
def crc32c (l : List Byte) : Nat := crc32cInit max32 l

/-- The frame check sequence of a frame without it, as a 32-bit value sent low byte first. -/
def fcs32 (l : List Byte) : Nat := crcRun 0xEDB88320 max32 l ^^^ max32

/-- A frame with its FCS appended. -/
def withFcs (l : List Byte) : List Byte := l ++ leBytes 4 (fcs32 l)

/-- A frame ended by a stomped FCS, the one's complement of the correct one (R5). -/
def withStompedFcs (l : List Byte) : List Byte := l ++ leBytes 4 (fcs32 l ^^^ max32)

/-- The FCS a frame ends with. -/
def fcsOf (l : List Byte) : Nat := ofLe (l.drop (l.length - 4))

/-- The frame's FCS is correct. -/
def fcsGood (l : List Byte) : Bool := fcsOf l == fcs32 (l.take (l.length - 4))

/-- The frame's FCS is the one's complement of the correct one. -/
def fcsStomped (l : List Byte) : Bool := fcsOf l == (fcs32 (l.take (l.length - 4)) ^^^ max32)

/-- Smallest multiple of `m` that is not below `v`. -/
def roundUp (m v : Nat) : Nat := (v + m - 1) / m * m

/-- Quotient rounded up. -/
def ceilDiv (v m : Nat) : Nat := (v + m - 1) / m

end Sys2Proof.Machine
end

