-- ==== Sys2Proof/Machine/RegSpec.lean ====
section
/-! DEFINITION. How one register is described (R6, R7, R9 to R12): its fields with their access codes, reset
values and legal values, its crest class, and the arrays of registers the maps lay out. -/

namespace Sys2Proof.Machine

/-- Access code of a field (R7). -/
inductive Access where
  | rw | ro | wo | rc | w1c | w1s
  deriving DecidableEq, Repr

/-- What a write of an illegal or reserved value stores (R10, R16 and the Meaning cells). -/
inductive Clamp where
  /-- every value is legal -/
  | any
  /-- the nearest value of a range -/
  | range (lo hi : Nat)
  /-- the nearest value of a signed range, in two's complement of the field's width -/
  | srange (lo hi : Int)
  /-- the reserved codes `lo` to `hi` are stored as `good` -/
  | codes (lo hi good : Nat)
  /-- a port number: 69 to 126 are stored as 127 (R16) -/
  | port
  /-- rounded down to a multiple of 8, then the nearest value of a range -/
  | mul8 (lo hi : Nat)
  deriving DecidableEq, Repr

/-- The value stored for `v` in a field of `w` bits (R10). -/
def Clamp.apply (w : Nat) (c : Clamp) (v : Nat) : Nat :=
  match c with
  | .any => v
  | .range lo hi => clampNat lo hi v
  | .srange lo hi => unsigned w (clampInt lo hi (signed w v))
  | .codes lo hi good => if lo ≤ v ∧ v ≤ hi then good else v
  | .port => if 69 ≤ v ∧ v ≤ 126 then 127 else v
  | .mul8 lo hi => clampNat lo hi (v / 8 * 8)

/-- One field of a register (R6). -/
structure Fld where
  lo : Nat
  w : Nat
  acc : Access
  rst : Nat := 0
  clamp : Clamp := .any
  deriving DecidableEq, Repr

/-- An RW field of which every value is legal. -/
def rw (lo w rst : Nat) : Fld := ⟨lo, w, .rw, rst, .any⟩
/-- An RW field with a legal range. -/
def rwR (lo w rst a b : Nat) : Fld := ⟨lo, w, .rw, rst, .range a b⟩
/-- An RW field whose reserved codes `a` to `b` are stored as `g`. -/
def rwC (lo w rst a b g : Nat) : Fld := ⟨lo, w, .rw, rst, .codes a b g⟩
/-- A read-only field. -/
def ro (lo w rst : Nat) : Fld := ⟨lo, w, .ro, rst, .any⟩
/-- A write-only field. -/
def wo (lo w : Nat) : Fld := ⟨lo, w, .wo, 0, .any⟩
/-- A field cleared by reading. -/
def rc (lo w : Nat) : Fld := ⟨lo, w, .rc, 0, .any⟩
/-- A field whose bits are cleared by writing 1. -/
def w1c (lo w : Nat) : Fld := ⟨lo, w, .w1c, 0, .any⟩

/-- A register, or a one- or two-dimensional array of alike registers at
`base + i * s1 + j * s2`, `i < n1`, `j < n2`. `rsts` lists the reset words by `i` where they differ. -/
structure RegRow where
  name : String
  base : Nat
  staged : Bool
  fields : List Fld
  n1 : Nat := 1
  s1 : Nat := 0x8000000
  n2 : Nat := 1
  s2 : Nat := 4
  rsts : List Nat := []
  deriving DecidableEq, Repr

/-- One immediate register. -/
def imm (name : String) (base : Nat) (fields : List Fld) : RegRow := { name, base, staged := false, fields }
/-- One staged register. -/
def stg (name : String) (base : Nat) (fields : List Fld) : RegRow := { name, base, staged := true, fields }
/-- An array of immediate registers. -/
def immN (name : String) (base n s : Nat) (fields : List Fld) : RegRow :=
  { name, base, staged := false, fields, n1 := n, s1 := s }
/-- An array of staged registers. -/
def stgN (name : String) (base n s : Nat) (fields : List Fld) : RegRow :=
  { name, base, staged := true, fields, n1 := n, s1 := s }
/-- A saturating event counter: one field [31:0] COUNT, RC, reset 0. -/
def cnt (name : String) (base : Nat) : RegRow := imm name base [rc 0 32]
/-- `n` counters one word apart. -/
def cntN (name : String) (base n : Nat) : RegRow := immN name base n 4 [rc 0 32]

/-- Index of `off` in a row, when it names one of its registers. -/
def RegRow.index (r : RegRow) (off : Nat) : Option Nat :=
  if off < r.base then none else
    let d := off - r.base
    let i := d / r.s1
    let q := d % r.s1
    if i < r.n1 ∧ q % r.s2 = 0 ∧ q / r.s2 < r.n2 then some i else none

/-- First row of a block that lists `off`. -/
def findRow (off : Nat) : List RegRow → Option (RegRow × Nat)
  | [] => none
  | r :: rs => match r.index off with
    | some i => some (r, i)
    | none => findRow off rs

/-- The reset word of a list of fields (R12). -/
def fieldsReset (fs : List Fld) : Nat := fs.foldl (fun a f => a + (f.rst <<< f.lo)) 0

/-- The reset word of register `i` of a row (R12). -/
def RegRow.reset (r : RegRow) (i : Nat) : Nat := r.rsts.getD i (fieldsReset r.fields)

/-- What a bus write of `v` stores over `old` (R7, R10, R11): RW fields are clamped, W1C bits written 1 are
cleared, W1S bits written 1 are set, everything else keeps its value. -/
def storeWrite (fs : List Fld) (old v : Nat) : Nat :=
  fs.foldl (fun a f =>
    match f.acc with
    | .rw => setBits a f.lo f.w (f.clamp.apply f.w (bits v f.lo f.w))
    | .w1c => setBits a f.lo f.w (bits old f.lo f.w &&& ((2 ^ f.w - 1) ^^^ bits v f.lo f.w))
    | .w1s => setBits a f.lo f.w (bits old f.lo f.w ||| bits v f.lo f.w)
    | _ => a) old

/-- What a bus read of a register that holds `v` returns (R7, R11): WO fields and reserved bits read 0. -/
def readValue (fs : List Fld) (v : Nat) : Nat :=
  fs.foldl (fun a f => if f.acc = .wo then a else a + (bits v f.lo f.w <<< f.lo)) 0

/-- What a register holds after a read: RC fields are cleared (R7). -/
def afterRead (fs : List Fld) (v : Nat) : Nat :=
  fs.foldl (fun a f => if f.acc = .rc then setBits a f.lo f.w 0 else a) v

/-- Every field of the register is RO. -/
def allRo (fs : List Fld) : Bool := fs.all fun f => decide (f.acc = .ro)

end Sys2Proof.Machine
end

