-- ==== Sys2Proof/Machine/RegMapSys.lean ====
section
/-! DEFINITION. The register maps of the system blocks: GLB (R365), CRS (R89), TMB (R65), PWR (R333),
FLT (R345), HST (R366), NVM (R391) and MON (R408). Offsets are block-relative. -/

namespace Sys2Proof.Machine

/-- GLB, R365. -/
def glbRows : List RegRow := [
  imm "GLB_ID" 0x000 [ro 0 16 0x5120, ro 16 4 1, ro 20 4 0],
  imm "GLB_SERIAL_LO" 0x004 [ro 0 32 0],
  imm "GLB_SERIAL_HI" 0x008 [ro 0 32 0],
  imm "GLB_MODE" 0x00C [ro 0 3 0, ro 3 1 0],
  imm "GLB_STRAPS" 0x010 [ro 0 3 0, ro 4 2 0],
  imm "GLB_TEST_CTL" 0x014 [wo 0 1, wo 1 1, wo 16 16],
  stg "GLB_MAC_LO" 0x018 [rw 0 32 0],
  stg "GLB_MAC_HI" 0x01C [rw 0 16 0],
  imm "GLB_FW_VERSION" 0x020 [rw 0 32 0],
  imm "GLB_SCRATCH" 0x024 [rw 0 32 0],
  imm "GLB_IRQ_STATUS" 0x030 [w1c 0 1],
  imm "GLB_IRQ_ENABLE" 0x034 [rw 0 1 0]]

/-- CRS, R89. -/
def crsRows : List RegRow := [
  imm "CRS_CTL" 0x000 [rw 0 1 0],
  imm "CRS_STATUS" 0x004 [ro 0 2 0, ro 2 1 0, ro 3 1 0, w1c 4 1, w1c 5 1, w1c 6 1, w1c 7 1, w1c 8 1],
  imm "CRS_COMMIT" 0x008 [wo 0 1, wo 1 1, rw 2 1 0, rw 3 2 0],
  imm "CRS_COMMIT_TIME_SEC_HI" 0x00C [rw 0 16 0],
  imm "CRS_COMMIT_TIME_SEC_LO" 0x010 [rw 0 32 0],
  imm "CRS_COMMIT_TIME_NS" 0x014 [rwR 0 30 0 0 999999999],
  stg "CRS_PEND_CREST_ID" 0x018 [rw 0 32 0],
  imm "CRS_ACTIVE_CREST_ID" 0x01C [ro 0 32 0],
  imm "CRS_LAST_COMMIT_SEC_HI" 0x020 [ro 0 16 0],
  imm "CRS_LAST_COMMIT_SEC_LO" 0x024 [ro 0 32 0],
  imm "CRS_LAST_COMMIT_NS" 0x028 [ro 0 30 0],
  imm "CRS_DRAIN_LIMIT" 0x02C [rwR 0 17 2000 100 100000],
  imm "CRS_DRAIN_COUNT" 0x030 [ro 0 18 0],
  imm "CRS_DRAIN_TIME" 0x034 [ro 0 17 0],
  imm "CRS_COMMIT_COUNT" 0x038 [ro 0 32 0],
  cntN "CRS_COMMIT_REFUSED .. CRS_LIVE_WRITE_REFUSED" 0x03C 5,
  stg "CRS_REF_DIGEST_LO" 0x050 [rw 0 32 0],
  stg "CRS_REF_DIGEST_HI" 0x054 [rw 0 32 0],
  imm "CRS_DIGEST_LO" 0x058 [ro 0 32 0],
  imm "CRS_DIGEST_HI" 0x05C [ro 0 32 0],
  imm "CRS_DIGEST_STATUS" 0x060 [ro 0 1 0, ro 1 1 0, w1c 2 1, ro 16 16 0],
  imm "CRS_SCRUB_LAST" 0x064 [ro 0 16 0],
  imm "CRS_RELOAD" 0x068 [w1c 0 17],
  imm "CRS_RELOAD_LIMIT" 0x06C [rwR 0 10 100 1 1000],
  imm "CRS_IRQ_STATUS" 0x070 [w1c 0 1, w1c 1 1, w1c 2 1, w1c 3 1, w1c 4 1],
  imm "CRS_IRQ_ENABLE" 0x074 [rw 0 5 0],
  cnt "CRS_RELOAD_DISCARDS" 0x078,
  imm "CRS_CAIRN_CTL" 0x080 [rw 0 1 0, rw 1 1 0, rwR 8 8 10 1 255],
  imm "CRS_CAIRN_PORT" 0x084 [rw 0 16 47404],
  immN "CRS_CAIRN_GROUPk" 0x088 4 4 [rw 0 32 0],
  immN "CRS_REGION_REGr" 0x100 17 4 [ro 0 32 0],
  immN "CRS_REGION_TABr" 0x180 17 4 [ro 0 32 0]]

/-- TMB global, R65. -/
def tmbGlobalRows : List RegRow := [
  imm "TMB_CTL" 0x000 [rw 0 2 0],
  imm "TMB_SNAP" 0x004 [wo 0 1, ro 1 1 0],
  imm "TMB_IRQ_STATUS" 0x008 [w1c 0 1, w1c 1 4, w1c 5 4, w1c 9 1, w1c 10 1, w1c 11 1],
  imm "TMB_IRQ_ENABLE" 0x00C [rw 0 12 0],
  immN "TMB_TXTS_PENDING_LO, _HI" 0x010 2 4 [ro 0 32 0],
  stg "TMB_PTP_DOMAIN_MAP" 0x020 [rw 0 8 0, rw 8 8 1, rw 16 8 2, rw 24 8 3],
  stg "TMB_PTP_DOMAIN_EN" 0x024 [rw 0 4 1],
  cntN "TMB_PTP_UNMAPPED, TMB_TXTS_REQ_IGNORED" 0x028 2]

/-- TMB time bases, R65. -/
def tmbBaseRows : List RegRow := [
  immN "TMB_TBn_SEC_HI" 0x100 4 0x40 [ro 0 16 0],
  immN "TMB_TBn_SEC_LO" 0x104 4 0x40 [ro 0 32 0],
  immN "TMB_TBn_NS" 0x108 4 0x40 [ro 0 30 0],
  immN "TMB_TBn_FRAC" 0x10C 4 0x40 [ro 0 16 0],
  immN "TMB_TBn_RAW_HI" 0x110 4 0x40 [ro 0 32 0],
  immN "TMB_TBn_RAW_LO" 0x114 4 0x40 [ro 0 32 0],
  immN "TMB_TBn_TRIM" 0x118 4 0x40 [⟨0, 32, .rw, 0, .srange (-1099511628) 1099511628⟩],
  immN "TMB_TBn_LOAD_SEC_HI" 0x11C 4 0x40 [rw 0 16 0],
  immN "TMB_TBn_LOAD_SEC_LO" 0x120 4 0x40 [rw 0 32 0],
  immN "TMB_TBn_LOAD_NS" 0x124 4 0x40 [rwR 0 30 0 0 999999999],
  immN "TMB_TBn_STEP_SEC" 0x128 4 0x40 [rw 0 32 0],
  immN "TMB_TBn_STEP_NS" 0x12C 4 0x40 [⟨0, 32, .rw, 0, .srange (-999999999) 999999999⟩],
  immN "TMB_TBn_CMD" 0x130 4 0x40 [wo 0 2],
  imm "TMB_TB0_STATUS" 0x134 [ro 0 1 0, w1c 1 1, ro 8 8 0],
  immN "TMB_TBn_STATUS" 0x174 3 0x40 [ro 0 1 0, ro 1 1 0, ro 8 8 0],
  immN "TMB_TBn_LAST_ADJ" 0x138 4 0x40 [ro 0 32 0]]

/-- TMB keeper and TIME_IO pins, R65. -/
def tmbPinRows : List RegRow := [
  imm "TMB_KEEPER_SEC_HI" 0x200 [ro 0 16 0],
  imm "TMB_KEEPER_SEC_LO" 0x204 [ro 0 32 0],
  imm "TMB_KEEPER_TICKS" 0x208 [ro 0 15 0],
  imm "TMB_KEEPER_STATUS" 0x20C [ro 0 1 0, w1c 1 1, ro 2 1 0],
  imm "TMB_KEEPER_CORR" 0x210 [⟨0, 12, .rw, 0, .srange (-2047) 2047⟩],
  imm "TMB_KEEPER_ERR" 0x214 [ro 0 32 0],
  immN "TMB_TIOi_CTL" 0x300 4 0x40 [rwC 0 2 0 3 3 0, rw 2 2 0, rwC 4 2 1 0 0 1, rw 6 1 0],
  immN "TMB_TIOi_START_SEC_HI" 0x304 4 0x40 [rw 0 16 0],
  immN "TMB_TIOi_START_SEC_LO" 0x308 4 0x40 [rw 0 32 0],
  immN "TMB_TIOi_START_NS" 0x30C 4 0x40 [rwR 0 30 0 0 999999999],
  immN "TMB_TIOi_PERIOD" 0x310 4 0x40 [rwR 0 32 1000000000 1000 4000000000],
  immN "TMB_TIOi_WIDTH" 0x314 4 0x40 [rwR 0 31 100000000 8 2000000000],
  immN "TMB_TIOi_CAP_SEC_HI" 0x318 4 0x40 [ro 0 16 0],
  immN "TMB_TIOi_CAP_SEC_LO" 0x31C 4 0x40 [ro 0 32 0],
  immN "TMB_TIOi_CAP_NS" 0x320 4 0x40 [ro 0 30 0],
  immN "TMB_TIOi_CAP_FRAC" 0x324 4 0x40 [ro 0 16 0],
  immN "TMB_TIOi_STATUS" 0x328 4 0x40 [w1c 0 1, w1c 1 1, ro 2 1 0]]

/-- TMB ports 0 to 63, R65. -/
def tmbPortRows : List RegRow := [
  immN "TMB_PORT_RX_DLY" 0x1000 64 0x20 [rw 0 16 0],
  immN "TMB_PORT_TX_DLY" 0x1004 64 0x20 [rw 0 16 0],
  stgN "TMB_PORT_PTP" 0x1008 64 0x20 [rwC 0 2 0 3 3 0],
  stgN "TMB_PORT_LINK_DLY" 0x100C 64 0x20 [rw 0 32 0],
  immN "TMB_TXTS_STATUS" 0x1010 64 0x20 [ro 0 4 0, w1c 4 1],
  immN "TMB_TXTS_OVF_CNT" 0x1014 64 0x20 [rc 0 32],
  immN "TMB_TXTS_LO" 0x1018 64 0x20 [ro 0 32 0],
  immN "TMB_TXTS_HI" 0x101C 64 0x20 [ro 0 8 0, ro 8 2 0, ro 10 1 0, ro 11 1 0, ro 16 16 0]]

/-- TMB, R65. -/
def tmbRows : List RegRow := tmbGlobalRows ++ tmbBaseRows ++ tmbPinRows ++ tmbPortRows

/-- PWR_Dd_CFG of domains that share their allowed states (R314, R319). -/
def pwrCfg (d n : Nat) (low : List Fld) : RegRow :=
  immN "PWR_Dd_CFG" (0x100 + d * 0x20) n 0x20 (low ++ [rw 8 16 100])

/-- PWR, R333. LOW is stored under R319. -/
def pwrRows : List RegRow := [
  imm "PWR_AVS_CFG" 0x000 [rw 0 1 1, rwR 8 8 100 10 255, rw 16 8 5],
  imm "PWR_AVS_STATUS" 0x004 [ro 0 10 800, ro 16 10 0, ro 28 1 0, w1c 29 1],
  imm "PWR_SUPPLY" 0x008 [ro 0 1 0, w1c 1 1, ro 2 1 0, w1c 3 1],
  imm "PWR_IRQ_STATUS" 0x00C [w1c 0 1, w1c 1 1, w1c 2 1, w1c 3 1, w1c 4 1, w1c 5 1, w1c 6 1],
  imm "PWR_IRQ_ENABLE" 0x010 [rw 0 7 0],
  imm "PWR_DEBUG" 0x020 [rw 0 22 0],
  imm "PWR_MAINLOSS_COUNT" 0x030 [ro 0 16 0],
  imm "PWR_MAINLOSS_SEC_HI" 0x034 [ro 0 16 0],
  imm "PWR_MAINLOSS_SEC_LO" 0x038 [ro 0 32 0],
  imm "PWR_MAINLOSS_TICKS" 0x03C [ro 0 15 0],
  imm "PWR_RESTORE_SEC_HI" 0x040 [ro 0 16 0],
  imm "PWR_RESTORE_SEC_LO" 0x044 [ro 0 32 0],
  imm "PWR_RESTORE_TICKS" 0x048 [ro 0 15 0],
  cnt "PWR_STALL_TIMEOUTS" 0x080,
  pwrCfg 0 3 [rwC 0 2 0 1 3 0],
  pwrCfg 3 1 [rwC 0 2 0 2 3 1],
  pwrCfg 4 1 [rwC 0 2 0 1 3 0],
  imm "PWR_D5_CFG" 0x1A0 [rwC 0 1 0 1 1 0, rw 1 1 0, rw 8 16 100],
  pwrCfg 6 4 [rwC 0 2 0 3 3 2],
  pwrCfg 10 1 [rwC 0 2 0 2 3 1],
  pwrCfg 11 1 [rwC 0 2 0 3 3 2],
  pwrCfg 12 1 [rwC 0 2 0 2 3 1],
  pwrCfg 13 9 [rwC 0 2 0 3 3 2],
  immN "PWR_Dd_VOTE_HOST" 0x104 22 0x20 [rwC 0 2 0 3 3 2],
  immN "PWR_Dd_VOTE_FW" 0x108 22 0x20 [rwC 0 2 0 3 3 2],
  immN "PWR_Dd_STATUS" 0x10C 22 0x20 [ro 0 2 0, ro 2 2 0, ro 4 7 0, ro 11 1 0, ro 16 16 0],
  immN "PWR_Dd_WAKES" 0x110 22 0x20 [rc 0 32],
  immN "PWR_Dd_ENTRY_ABORTED" 0x114 22 0x20 [rc 0 32],
  immN "PWR_Dd_LAST_WAKE" 0x118 22 0x20 [ro 0 20 0],
  immN "PWR_Dd_STALLS" 0x11C 22 0x20 [rc 0 32],
  immN "PWR_ERGe_PERF_REQ" 0x400 4 0x10 [rw 0 2 0],
  stgN "PWR_ERGe_PERF_MIN" 0x404 4 0x10 [rw 0 2 3],
  immN "PWR_ERGe_PERF_STATUS" 0x408 4 0x10 [ro 0 2 0, ro 2 1 0, ro 4 2 0],
  immN "PWR_ERGe_PERF_CHANGES" 0x40C 4 0x10 [rc 0 32]]

/-- Reset words of FLT_SRCn_CFG: the class and reaction columns of R334. -/
def srcCfgReset : List Nat :=
  [0x04, 0x04, 0xC3, 0xC6, 0x4E, 0x04, 0x05, 0xC6, 0xC6, 0x05, 0x56, 0x04, 0x56, 0x04, 0x4E, 0x4E] ++
  [0x04, 0x0D, 0x04, 0x04, 0x1D, 0x0D, 0x0D, 0x04, 0x04, 0x04, 0x04, 0x04, 0x04, 0x04, 0x04, 0x05] ++
  [0x05, 0x04, 0x04, 0x04, 0x05, 0x05, 0x05, 0x04, 0x04, 0x04, 0x05, 0x05, 0x04, 0x04, 0x05, 0x4E] ++
  [0x05, 0x04, 0x04, 0x04, 0x04, 0x05, 0x4E, 0x4E, 0x04, 0x04, 0x04, 0x04, 0x04, 0x04, 0x04, 0x04]

/-- The sources whose "B acts on" column names a domain (R334, R337). -/
def blockResetSources : List Nat := [10, 12, 14, 20, 30, 31, 33, 34, 38]

/-- FLT_SRCn_CFG of a source that BLOCK_RESET may act for. -/
def srcCfgBlock (n : Nat) : RegRow :=
  { name := "FLT_SRCn_CFG", base := 0x100 + 4 * n, staged := true, fields := [rw 0 8 0],
    rsts := [srcCfgReset.getD n 0] }

/-- FLT, R345. -/
def fltRows : List RegRow := [
  imm "FLT_CTL" 0x000 [rw 0 1 0, wo 1 1, wo 2 1],
  imm "FLT_STATUS" 0x004 [ro 0 1 0, ro 1 1 0, ro 2 1 0, ro 3 1 0, ro 8 8 0],
  immN "FLT_PEND_LO, _HI, FLT_PIN_LO, _HI" 0x008 4 4 [w1c 0 32],
  imm "FLT_INJECT" 0x020 [wo 0 6],
  imm "FLT_FW_REPORT" 0x024 [wo 0 16],
  imm "FLT_LOG_HEAD" 0x030 [ro 0 8 0],
  imm "FLT_LOG_COUNT" 0x034 [ro 0 32 0],
  cnt "FLT_LOG_LOST" 0x038,
  imm "FLT_CLASS_COUNT" 0x03C [ro 0 8 0, ro 8 8 0, ro 16 8 0, ro 24 8 0],
  imm "FLT_RESET_REFUSED" 0x040 [ro 0 16 0],
  imm "FLT_WDOG_CFG" 0x050 [rw 0 1 0, rwR 16 14 1000 10 10000],
  imm "FLT_WDOG_KICK" 0x054 [wo 0 16],
  imm "FLT_WDOG_LEFT" 0x058 [ro 0 14 0],
  stg "FLT_TEMP_CFG" 0x060 [rwR 0 8 105 60 125, rwR 8 8 125 90 135],
  imm "FLT_TEMP" 0x064 [ro 0 8 0, ro 8 8 0],
  immN "FLT_VMONi" 0x070 6 4 [ro 0 12 0, w1c 16 1, w1c 17 1],
  stg "FLT_GPIO_SAFE" 0x090 ((List.range 16).map fun g => rwC (2 * g) 2 0 3 3 0)] ++
  blockResetSources.map srcCfgBlock ++ [
  { name := "FLT_SRCn_CFG", base := 0x100, staged := true, n1 := 64, s1 := 4,
    fields := [rw 0 4 0, rwC 4 1 0 1 1 0, rw 5 3 0], rsts := srcCfgReset },
  immN "FLT_SRCn_COUNT" 0x200 64 4 [rc 0 32],
  immN "FLT_LOG" 0x8000 8192 4 [ro 0 32 0]]

/-- The fields of a ring or table channel at `base` (R366). -/
def ringRows (base n : Nat) (ctl : List Fld) (status : List Fld) : List RegRow := [
  immN "CTL" base n 0x20 ctl,
  immN "BASE_LO" (base + 0x04) n 0x20 [rw 0 32 0],
  immN "BASE_HI" (base + 0x08) n 0x20 [rw 0 32 0],
  immN "HEAD" (base + 0x0C) n 0x20 [ro 0 12 0],
  immN "TAIL" (base + 0x10) n 0x20 [rw 0 12 0],
  immN "COAL" (base + 0x14) n 0x20 [rwR 0 8 1 1 255, rw 8 16 0],
  immN "ACK" (base + 0x18) n 0x20 [wo 0 12],
  immN "STATUS" (base + 0x1C) n 0x20 status]

/-- Reset words of HST_TRAPr: CLASS and RING of R358. -/
def trapReset : List Nat :=
  [0, 0x001, 0x002, 0x101, 0x102, 0x101, 0x203, 0x205, 0x002, 0x807, 0x400, 0x002, 0, 0, 0, 0]

/-- HST, R366, and the MSI-X table and PBA. -/
def hstRows : List RegRow := [
  imm "HST_PCIE_STATUS" 0x000 [ro 0 2 0, ro 4 2 0, ro 8 1 0, ro 9 1 0, ro 10 1 0],
  imm "HST_DMA_CFG" 0x004 [rwR 0 16 1000 50 50000],
  imm "HST_BUSERR_ADDR" 0x010 [ro 0 32 0],
  imm "HST_BUSERR_INFO" 0x014 [ro 0 1 0, ro 1 3 0, ro 4 1 0],
  cnt "HST_BUSERR_COUNT" 0x018,
  imm "HST_IRQ_STATUS" 0x020 [w1c 0 1, w1c 1 1, w1c 2 1],
  imm "HST_IRQ_ENABLE" 0x024 [rw 0 3 0],
  immN "HST_VEC_PEND_LO, _HI" 0x030 2 4 [ro 0 32 0],
  imm "HST_VEC_DEST_LO" 0x038 [rw 0 32 0],
  imm "HST_VEC_DEST_HI" 0x03C [rw 0 32 0xFF00FF00],
  imm "HST_RING_OWNER" 0x040 [rw 0 16 0xFF00, rw 16 16 0xFF00],
  immN "HST_VEC_REARM_LO, _HI" 0x048 2 4 [wo 0 32],
  { name := "HST_TRAPr", base := 0x080, staged := true, n1 := 16, s1 := 4,
    fields := [rw 0 3 0, rw 8 4 0], rsts := trapReset },
  immN "HST_VECv_MOD" 0x100 64 4 [rw 0 16 0]] ++
  ringRows 0x400 16 [rw 0 1 0, rw 1 1 0, rwR 2 4 8 4 12, rwR 8 8 32 4 255] [ro 0 1 0, rc 16 16] ++
  ringRows 0x600 16 [rw 0 1 0, rw 1 1 0, rwR 2 4 8 4 12] [ro 0 1 0] ++
  ringRows 0x800 4 [rw 0 1 0, rw 1 1 0, rwR 2 4 8 4 10] [ro 0 1 0] ++ [
  immN "MSI-X address low" 0x8000 64 16 [rw 2 30 0],
  immN "MSI-X address high" 0x8004 64 16 [rw 0 32 0],
  immN "MSI-X data" 0x8008 64 16 [rw 0 32 0],
  immN "MSI-X vector control" 0x800C 64 16 [rw 0 1 1],
  immN "PBA" 0x9000 2 4 [ro 0 32 0]]

/-- NVM, R391. -/
def nvmRows : List RegRow := [
  imm "NVM_STATUS" 0x000 [ro 0 1 0, ro 1 1 0, ro 2 1 0, ro 3 1 0, ro 4 1 0, ro 5 1 0, w1c 6 1, w1c 7 1,
    ro 8 8 0, ro 16 8 0],
  imm "NVM_CONFIRM_CFG" 0x008 [rwR 0 12 120 10 3600],
  imm "NVM_CONFIRM_LEFT" 0x00C [ro 0 12 0],
  imm "NVM_FW_CTL" 0x010 [wo 0 1, wo 16 16],
  stg "NVM_INBAND_CFG" 0x014 [rw 0 1 1, rw 16 16 0x88B7],
  imm "NVM_SESSION_CFG" 0x018 [rwR 0 16 300 10 65535],
  imm "NVM_SESSION_STATUS" 0x01C [ro 0 1 0, ro 1 2 0, ro 3 1 0, ro 8 24 0],
  imm "NVM_MBX_CTL" 0x020 [wo 0 1, ro 1 1 0, w1c 2 1],
  imm "NVM_COUNTER" 0x024 [ro 0 32 0],
  imm "NVM_IRQ_STATUS" 0x030 [w1c 0 1, w1c 1 1, w1c 2 1, w1c 3 1],
  imm "NVM_IRQ_ENABLE" 0x034 [rw 0 4 0],
  cntN "NVM_MSG_ACCEPTED .. NVM_RECORDS_SKIPPED" 0x100 7,
  immN "NVM_MBX_IN" 0x1000 1040 4 [rw 0 32 0],
  immN "NVM_MBX_OUT" 0x3000 32 4 [ro 0 32 0]]

/-- MON_Uu_CTRk of `n` units from `base`, every second counter: the last listed event code and whether CHAIN
is stored (R394, R396). -/
def monCtr (base n last : Nat) (even : Bool) : RegRow :=
  { name := "MON_Uu_CTRk", base, staged := false, n1 := n, s1 := 0x200, n2 := 4, s2 := 0x40,
    fields := [rwC 0 8 0 (last + 1) 255 0, rw 8 1 0, if even then rw 9 1 0 else rwC 9 1 0 1 1 0, rw 10 3 7,
      rw 13 1 0, rwC 14 6 0 40 63 0, rw 20 1 0, rw 21 1 0, ro 31 1 0] }

/-- A register of every counter of every unit. -/
def monK (name : String) (base : Nat) (fields : List Fld) : RegRow :=
  { name, base, staged := false, n1 := 7, s1 := 0x200, n2 := 8, s2 := 0x20, fields }

/-- MON, R408. -/
def monRows : List RegRow := [
  imm "MON_CTL" 0x000 [rw 0 1 1, wo 1 1, wo 2 1],
  imm "MON_IRQ_STATUS" 0x010 [w1c 0 7, w1c 7 1, w1c 8 1, w1c 9 1],
  imm "MON_IRQ_ENABLE" 0x014 [rw 0 10 0],
  imm "MON_DUMP_CFG" 0x020 [rw 0 1 0, rw 1 1 0, rw 2 1 0, rwR 3 5 8 4 16, rwR 8 8 1 1 255, ro 16 1 0],
  imm "MON_DUMP_PERIOD" 0x024 [rwR 0 24 1000000 1 10000000],
  imm "MON_DUMP_BASE_LO" 0x028 [rw 0 32 0],
  imm "MON_DUMP_BASE_HI" 0x02C [rw 0 32 0],
  imm "MON_DUMP_PROD" 0x030 [ro 0 17 0],
  imm "MON_DUMP_CONS" 0x034 [rw 0 17 0],
  imm "MON_DUMP_SEQ" 0x038 [ro 0 32 0],
  imm "MON_DUMP_BUF_ADDR" 0x040 [rw 2 14 0],
  imm "MON_DUMP_BUF_DATA" 0x044 [ro 0 32 0],
  cntN "MON_DUMP_LOST .. MON_TRC_RECORDS" 0x050 5,
  imm "MON_BW_CFG" 0x070 [rwR 0 20 1000 1 1000000, rw 20 1 0],
  imm "MON_BW_SEQ" 0x074 [ro 0 32 0],
  imm "MON_TRC_CFG" 0x080 [rw 0 4 0, rwR 4 5 16 4 24, rw 9 1 0, rw 10 1 0],
  imm "MON_TRC_SEED" 0x084 [rwC 0 32 1 0 0 1],
  imm "MON_TRC_RING" 0x088 [rw 0 1 0, rwR 1 5 10 4 16, rwR 8 8 1 1 255, ro 16 1 0],
  imm "MON_TRC_BASE_LO" 0x08C [rw 0 32 0],
  imm "MON_TRC_BASE_HI" 0x090 [rw 0 32 0],
  imm "MON_TRC_PROD" 0x094 [ro 0 17 0],
  imm "MON_TRC_CONS" 0x098 [rw 0 17 0],
  imm "MON_TRC_STATUS" 0x09C [ro 0 4 0, w1c 4 1, ro 8 7 0],
  immN "MON_BW_RXp, MON_BW_TXp" 0x400 138 4 [ro 0 32 0]] ++ [
  immN "MON_Uu_CYC_LO" 0x1000 7 0x200 [ro 0 32 0],
  immN "MON_Uu_CYC_HI" 0x1004 7 0x200 [ro 0 32 0],
  immN "MON_Uu_STATUS" 0x1008 7 0x200 [w1c 0 8, ro 8 2 0],
  immN "MON_Uu_OVF_EN" 0x100C 7 0x200 [rw 0 8 0],
  monCtr 0x1040 4 0x0F true, monCtr 0x1060 4 0x0F false,
  monCtr 0x1840 1 0x0A true, monCtr 0x1860 1 0x0A false,
  monCtr 0x1A40 1 0x08 true, monCtr 0x1A60 1 0x08 false,
  monCtr 0x1C40 1 0x0A true, monCtr 0x1C60 1 0x0A false,
  monK "MON_Uu_CLASSESk" 0x1044 [rw 0 8 0xFF],
  monK "MON_Uu_QRANGEk" 0x1048 [rw 0 14 0, rw 16 14 16383],
  monK "MON_Uu_ADDR_FIRSTk" 0x104C [rw 0 32 0],
  monK "MON_Uu_ADDR_LASTk" 0x1050 [rw 0 32 0xFFFFFFFF],
  monK "MON_Uu_COUNTk" 0x1054 [rw 0 32 0]]

end Sys2Proof.Machine
end

