-- ==== Sys2Proof/Machine/RegMapNet.lean ====
section
/-! DEFINITION. The register maps of the network blocks: LNE (R111), MAC (R112, R140), ERG (R160, R193, R217),
OAS (R286), CVN (R254) and SCH (R313), and the lookup of a BAR0 offset (R349). -/

namespace Sys2Proof.Machine

/-- LNE of one quad, R111. -/
def lneRows : List RegRow := [
  stg "LNE_QUAD_CFG" 0x000 [rw 0 1 0, rw 1 1 1],
  imm "LNE_QUAD_STATUS" 0x004 [ro 0 1 0, ro 1 1 0, w1c 2 1, ro 8 8 0],
  imm "LNE_QUAD_CTL" 0x008 [wo 0 4],
  imm "LNE_LOCK_TIMEOUT" 0x00C [rwR 0 10 50 1 1000],
  imm "LNE_IRQ_STATUS" 0x010 [w1c 0 4, w1c 4 4, w1c 8 4, w1c 12 1, w1c 13 1],
  imm "LNE_IRQ_ENABLE" 0x014 [rw 0 14 0],
  stgN "LNE_Ll_CFG" 0x100 4 0x100 [rw 0 10 0],
  stgN "LNE_Ll_TX_EQ" 0x104 4 0x100 [rw 0 4 4, rwR 4 6 48 16 63, rw 10 5 8],
  stgN "LNE_Ll_RX_EQ" 0x108 4 0x100 [rw 0 4 8, rw 4 1 1, rw 5 1 1],
  immN "LNE_Ll_TX_EQ_EFF" 0x10C 4 0x100 [ro 0 15 0],
  immN "LNE_Ll_RX_EQ_STATE" 0x110 4 0x100 [ro 0 4 0, ro 4 25 0],
  immN "LNE_Ll_STATE" 0x114 4 0x100 [ro 0 3 0, ro 3 1 0, ro 4 1 0, ro 5 1 0, ro 6 1 0, ro 7 1 0, ro 8 1 0,
    ro 9 2 0, w1c 11 1, w1c 12 1, ro 16 8 0],
  immN "LNE_Ll_TS_RX_DLY" 0x118 4 0x100 [ro 0 20 0],
  immN "LNE_Ll_TS_TX_DLY" 0x11C 4 0x100 [ro 0 20 0],
  immN "LNE_Ll_LOW" 0x120 4 0x100 [rwC 0 2 0 3 3 1],
  immN "LNE_Ll_TEST" 0x124 4 0x100 [rwC 0 3 0 6 7 0, rwC 3 3 0 6 7 0, rwC 6 2 0 3 3 0, rw 8 1 0, wo 9 1],
  immN "LNE_Ll_PRBS_ERR" 0x128 4 0x100 [rc 0 32],
  immN "LNE_Ll_PRBS_STATUS" 0x12C 4 0x100 [ro 0 1 0, ro 8 8 0],
  immN "LNE_Ll_LINK_DOWN" 0x130 4 0x100 [rc 0 32],
  immN "LNE_Ll_FAIL_CNT" 0x134 4 0x100 [rc 0 16, rc 16 16],
  immN "LNE_Ll_FEC_CORR" 0x138 4 0x100 [rc 0 32],
  immN "LNE_Ll_FEC_UNCORR" 0x13C 4 0x100 [rc 0 32],
  immN "LNE_Ll_FEC_SYMERR" 0x140 4 0x100 [rc 0 32]]

/-- MAC registers of every port, R140. -/
def macRows : List RegRow := [
  stg "MAC_CFG" 0x000 [rw 0 1 1, rw 1 1 1],
  stg "MAC_MAX_FRAME" 0x004 [rwR 0 14 1536 1518 10240],
  imm "MAC_IRQ_STATUS" 0x050 [w1c 0 1, w1c 1 1, w1c 2 1, w1c 3 1, w1c 4 1, w1c 5 1],
  imm "MAC_IRQ_ENABLE" 0x054 [rw 0 6 0],
  imm "MAC_STAT_CTL" 0x058 [wo 0 1],
  imm "MAC_STAT_HALF_LO" 0x060 [w1c 0 32],
  imm "MAC_STAT_HALF_HI" 0x064 [w1c 0 26],
  cntN "MAC_RAW_k" 0x100 16,
  immN "MAC_STAT_i_LO" 0x400 58 8 [ro 0 32 0],
  immN "MAC_STAT_i_HI" 0x404 58 8 [ro 0 16 0]]

/-- MAC registers of lane ports, R112 and R140. -/
def macLaneRows : List RegRow := [
  stg "MAC_FC_CFG" 0x008 [rw 0 1 0, rw 1 1 0, rw 2 2 3, rw 8 8 0],
  imm "MAC_FC_STATUS" 0x00C [ro 0 1 0, ro 1 1 0, ro 2 2 0, ro 8 8 0],
  imm "MAC_PAUSE_WDOG" 0x010 [rwR 0 10 50 1 1000, rwR 16 16 1000 10 60000],
  stg "MAC_EEE_CFG" 0x014 [rw 0 1 0, rwR 8 8 20 1 255, rw 16 16 16000],
  imm "MAC_EEE_STATUS" 0x018 [ro 0 1 0, ro 1 1 0],
  stg "MAC_PREEMPT_CFG" 0x01C [rw 0 1 0, rw 1 1 0, rw 2 2 0, rw 8 8 0, rwR 16 8 10 1 128],
  imm "MAC_PREEMPT_STATUS" 0x020 [ro 0 3 0]]

/-- MAC registers of field ports, R112 and R140. -/
def macFieldRows : List RegRow := [
  stg "MAC_FLD_CFG" 0x030 [rw 0 1 1, rw 1 1 0, rw 2 1 1],
  stg "MAC_FLD_PLCA" 0x034 [rw 0 3 0, rwR 4 4 8 1 8, rwR 8 8 32 1 255, rw 16 4 0, rw 24 8 128],
  stg "MAC_FLD_STORM" 0x038 [rwR 0 8 40 1 255, rwR 16 16 10000 100 65535],
  stg "MAC_FLD_DWELL" 0x03C [rw 0 16 60],
  imm "MAC_FLD_CTL" 0x040 [wo 0 1],
  imm "MAC_FLD_STATUS" 0x044 [ro 0 2 0, ro 2 1 0, ro 3 1 0, ro 8 8 0, ro 16 16 0]]

/-- The parser registers of one erg, R160. ERG_PRS_PORT17 exists in erg 0 only. -/
def prsRows (e : Nat) : List RegRow := [
  stg "ERG_PRS_CFG" 0x000 [rwR 0 5 12 1 16, rwC 5 2 0 3 3 1, rwC 7 2 1 3 3 1],
  stg "ERG_PRS_WADI" 0x004 [rwR 0 16 4096 256 65535],
  stg "ERG_SEIF_TPID" 0x008 [rw 0 16 0x88A8, rw 16 16 0x8100],
  stg "ERG_SEIF_CFG" 0x00C [rw 0 1 1, rw 1 1 1, rw 2 1 1],
  imm "ERG_PRS_STATUS" 0x010 [ro 0 7 0, ro 8 8 0, ro 16 1 0],
  imm "ERG_PRS_IRQ_STATUS" 0x014 [w1c 0 1, w1c 1 1, w1c 2 1, w1c 3 1],
  imm "ERG_PRS_IRQ_ENABLE" 0x018 [rw 0 4 0],
  stgN "ERG_PRS_PORTk" 0x040 (if e = 0 then 18 else 17) 4 [rw 0 8 0, rw 8 8 0],
  cntN "ERG_PRS counters" 0x100 12,
  imm "ERG_PRS_CAP_CTL" 0x180 [wo 0 1, rwR 1 5 0 0 17, rw 6 1 0, ro 8 1 0],
  immN "ERG_PRS_CAP_ANCHORi" 0x184 5 4 [ro 0 9 0, ro 16 9 0],
  imm "ERG_PRS_CAP_FLAGS" 0x198 [ro 0 32 0],
  imm "ERG_PRS_CAP_INFO" 0x19C [ro 0 5 0, ro 5 3 0, ro 8 8 0, ro 16 8 0]]

/-- The forwarding, prefix and mirage registers of one erg, R193. -/
def fwdRows : List RegRow := [
  stg "ERG_FWD_CFG" 0x1000 [rw 0 1 1],
  imm "ERG_FWD_AGE" 0x1004 [rwR 0 16 200 1 65535, rw 16 4 8, rw 20 1 1],
  imm "ERG_FWD_LEARN_RATE" 0x1008 [rw 0 16 0, rwR 16 8 64 1 255],
  imm "ERG_FWD_LOCK_LIMIT" 0x100C [rwR 0 7 10 1 100],
  imm "ERG_FWD_LOCK_STATUS" 0x1010 [ro 0 1 0, ro 1 1 0, ro 8 8 0, ro 16 8 0, ro 24 7 0],
  imm "ERG_FWD_FILL" 0x1014 [ro 0 18 0],
  imm "ERG_FWD_STATIC_FILL" 0x1018 [ro 0 18 0, ro 24 7 0],
  imm "ERG_FWD_QUEUE" 0x101C [ro 0 9 0, ro 9 1 0],
  imm "ERG_FWD_IRQ_STATUS" 0x1020 [w1c 0 1, w1c 1 1, w1c 2 1, w1c 3 1, w1c 4 1, w1c 5 1],
  imm "ERG_FWD_IRQ_ENABLE" 0x1024 [rw 0 6 0],
  cntN "ERG_FWD counters" 0x1100 22,
  stg "ERG_PFX_CFG" 0x2000 [rw 0 1 0],
  imm "ERG_PFX_BLOOM_STATUS" 0x2004 [ro 0 24 0],
  stgN "ERG_PFX4_LENk" 0x2040 12 4 [rwR 0 8 0 0 32, rw 8 1 0, rw 9 15 0, rw 24 4 0],
  stgN "ERG_PFX6_LENk" 0x2080 12 4 [rwR 0 8 0 0 128, rw 8 1 0, rw 9 15 0, rw 24 4 0],
  cntN "ERG_PFX counters" 0x2100 9,
  imm "ERG_MIR_CTL" 0x3000 [rw 0 1 0, rw 1 1 0, rwR 8 8 16 1 255],
  imm "ERG_MIR_BASE_LO" 0x3004 [rw 0 32 0],
  imm "ERG_MIR_BASE_HI" 0x3008 [rw 0 32 0],
  imm "ERG_MIR_STATUS" 0x300C [ro 0 1 0, w1c 1 1, w1c 2 1, ro 16 16 0],
  imm "ERG_MIR_LAST_TABLE" 0x3010 [ro 0 16 0],
  imm "ERG_MIR_LAST_INDEX" 0x3014 [ro 0 32 0],
  imm "ERG_MIR_LAST_KIND" 0x3018 [ro 0 2 0],
  cnt "ERG_MIR_MISMATCHES" 0x301C,
  imm "ERG_MIR_PASS_MS" 0x3020 [ro 0 16 0]]

/-- The classification registers of one erg, R217. ERG_SID_PORT17 exists in erg 0 only. -/
def clsRows (e : Nat) : List RegRow := [
  stg "ERG_CLS_CFG" 0x4000 [rwC 0 4 3 10 15 0, rw 4 7 0, rw 11 1 1],
  imm "ERG_CLS_IRQ_STATUS" 0x4010 [w1c 0 1, w1c 1 1, w1c 2 1],
  imm "ERG_CLS_IRQ_ENABLE" 0x4014 [rw 0 3 0],
  stgN "ERG_SID_PORTk" 0x4040 (if e = 0 then 18 else 17) 4
    [rw 0 1 0, rwC 1 2 0 3 3 0, rw 3 1 0, rw 4 1 0, rw 5 2 0, rw 7 1 0, rw 8 14 0],
  cntN "ERG_CLS, ERG_SID, ERG_PSFP, ERG_MTR, ERG_MIRROR counters" 0x4100 18]

/-- ERG block of erg `e`. -/
def ergRows (e : Nat) : List RegRow := prsRows e ++ fwdRows ++ clsRows e

/-- Reset and range of OAS_POOLn_CFG.TARGET (R263). -/
def poolTarget (n rst hi : Nat) : RegRow := imm "OAS_POOLn_CFG" (0x040 + 0x10 * n) [rwR 0 14 rst 0 hi]

/-- OAS, R286. -/
def oasRows : List RegRow := [
  stg "OAS_CFG" 0x000 [rw 0 1 1, rw 1 1 1],
  stg "OAS_DESC_CFG" 0x004 [rwR 0 18 8192 0 65536],
  stg "OAS_PIN_CFG" 0x008 [rwR 0 18 16384 0 65536],
  imm "OAS_SHARED_FREE" 0x010 [ro 0 18 0],
  imm "OAS_CELLS_USED" 0x014 [ro 0 18 0],
  imm "OAS_DESC_FREE" 0x018 [ro 0 18 196608],
  imm "OAS_PIN_USED" 0x01C [ro 0 18 0],
  imm "OAS_RSV_TOTAL" 0x020 [ro 0 20 0],
  imm "OAS_IRQ_STATUS" 0x030 [w1c 0 1, w1c 1 1, w1c 2 1, w1c 3 1, w1c 4 1, w1c 5 1],
  imm "OAS_IRQ_ENABLE" 0x034 [rw 0 6 0],
  poolTarget 0 1024 8192, poolTarget 1 256 4096, poolTarget 2 128 2048, poolTarget 3 32 512,
  immN "OAS_POOLn_STATUS" 0x044 4 0x10 [ro 0 14 0, ro 16 14 0],
  immN "OAS_POOLn_FALLBACK" 0x048 4 0x10 [rc 0 32],
  imm "OAS_ALLOC_REQ" 0x080 [wo 0 14],
  imm "OAS_ALLOC_RESULT" 0x084 [ro 0 18 0, ro 18 3 0, ro 30 1 0, ro 31 1 0],
  imm "OAS_FREE" 0x088 [wo 0 18],
  imm "OAS_FOREIGN_LAST" 0x090 [ro 0 18 0, ro 18 4 0, ro 22 4 0],
  imm "OAS_DFREE_LOG_CTL" 0x094 [wo 0 1, ro 8 5 0],
  cntN "OAS counters" 0x100 16,
  immN "OAS_DFREE_LOGi" 0x200 16 4 [ro 0 18 0, ro 18 4 0, ro 22 1 0, ro 31 1 0],
  immN "OAS_PORT_DROPSp" 0x400 69 4 [rc 0 32],
  stgN "OAS_EDITp" 0x600 64 4 [rwC 0 2 0 3 3 0, rwC 2 2 0 3 3 0, rwC 4 2 0 3 3 0, rwC 6 2 0 3 3 0,
    rw 16 16 0x8100]]

/-- CVN, R254. -/
def cvnRows : List RegRow := [
  stg "CVN_RENIL" 0x000 [rw 0 16 0x88B6],
  stg "CVN_TICK" 0x004 [rwR 0 9 10 1 256],
  stg "CVN_HOLD_CFG" 0x008 [rwR 0 16 2000 100 65535],
  imm "CVN_STATUS" 0x00C [ro 0 1 0, ro 16 16 0],
  imm "CVN_IRQ_STATUS" 0x010 [w1c 0 1, w1c 1 1, w1c 2 1, w1c 3 1, w1c 4 1, w1c 5 1, w1c 6 1],
  imm "CVN_IRQ_ENABLE" 0x014 [rw 0 7 0],
  imm "CVN_PARITY_LAST" 0x018 [ro 0 23 0],
  immN "CVN_RINGr_CTL" 0x100 2 0x20 [rw 0 1 0, rw 1 1 0, rwR 2 5 10 4 20],
  immN "CVN_RINGr_BASE_LO" 0x104 2 0x20 [rw 0 32 0],
  immN "CVN_RINGr_BASE_HI" 0x108 2 0x20 [rw 0 32 0],
  immN "CVN_RINGr_PROD" 0x10C 2 0x20 [ro 0 20 0],
  immN "CVN_RINGr_CONS" 0x110 2 0x20 [rw 0 20 0],
  immN "CVN_RINGr_DROPS" 0x114 2 0x20 [rc 0 32],
  imm "CVN_COUPLE_CTL" 0x200 [rwC 0 2 0 3 3 1, rw 2 16 0, rwR 18 13 3000 0 3000, rw 31 1 1],
  imm "CVN_COUPLE_CLAIM" 0x204 [rw 0 32 0],
  stgN "CVN_COUPLE_IN_LO, _HI, OUT_LO, _HI" 0x208 4 4 [rw 0 32 0],
  stg "CVN_COUPLE_WATCH" 0x218 [rw 0 32 0],
  stg "CVN_COUPLE_NOTIFY" 0x21C [⟨0, 7, .rw, 127, .port⟩],
  stg "CVN_CLAIM_DA_LO" 0x220 [rw 0 32 0x000000C1],
  stg "CVN_CLAIM_DA_HI" 0x224 [rw 0 16 0x0F00],
  stg "CVN_CLAIM_ETYPE" 0x228 [rw 0 16 0x88B5],
  imm "CVN_COUPLE_STATUS" 0x22C [ro 0 1 0, ro 1 1 0, ro 2 1 0, ro 3 1 0, ro 4 1 0, ro 8 3 0],
  immN "CVN_HEARDi_MAC_LO" 0x240 4 0x10 [ro 0 32 0],
  immN "CVN_HEARDi_MAC_HI" 0x244 4 0x10 [ro 0 16 0, ro 31 1 0],
  immN "CVN_HEARDi_CLAIM" 0x248 4 0x10 [ro 0 32 0],
  immN "CVN_HEARDi_AGE" 0x24C 4 0x10 [ro 0 6 0],
  stgN "CVN_RANGEi_FIRST" 0x400 32 8 [rw 0 24 0],
  stgN "CVN_RANGEi_LAST" 0x404 32 8 [rw 0 24 0, rw 24 6 0, rw 31 1 0],
  stgN "CVN_PORTp" 0x800 64 4 [rw 0 1 0, rw 1 1 0],
  cntN "CVN counters" 0xA00 22]

/-- SCH port registers of `n` ports from port `p`, with the legal list of their kind (R312, R313). -/
def schGateRows (p n len : Nat) : List RegRow :=
  let b := 0x1000 + p * 0x40
  [stgN "SCH_PORTp_GATE_CFG" (b + 0x0C) n 0x40 [rw 0 1 0, rw 1 2 0, rwR 3 10 0 0 (len - 1), rwR 13 11 1 1 len],
   stgN "SCH_PORTp_BASE_SEC_HI" (b + 0x10) n 0x40 [rw 0 16 0],
   stgN "SCH_PORTp_BASE_SEC_LO" (b + 0x14) n 0x40 [rw 0 32 0],
   stgN "SCH_PORTp_BASE_NS" (b + 0x18) n 0x40 [rwR 0 30 0 0 999999999],
   stgN "SCH_PORTp_CYCLE_NS" (b + 0x1C) n 0x40 [⟨0, 30, .rw, 1000000, .mul8 8 1000000000⟩],
   stgN "SCH_PORTp_PREWAKE" (b + 0x20) n 0x40 [rw 0 18 0, rw 18 8 0, rw 26 4 0, rw 30 1 1, rw 31 1 0],
   immN "SCH_PORTp_GATE_STATUS" (b + 0x24) n 0x40 [ro 0 8 0xFF, ro 8 10 0, ro 18 1 0, ro 19 1 0],
   immN "SCH_PORTp_GATE_OVERRUN" (b + 0x28) n 0x40 [rc 0 32]]

/-- SCH, R313. -/
def schRows : List RegRow := [
  stg "SCH_CFG" 0x000 [rw 0 1 1],
  imm "SCH_IRQ_STATUS" 0x010 [w1c 0 1, w1c 1 1, w1c 2 1, w1c 3 1, w1c 4 1],
  imm "SCH_IRQ_ENABLE" 0x014 [rw 0 5 0],
  imm "SCH_BOUND_LAST" 0x020 [ro 0 12 0, ro 12 7 0, ro 20 2 0, ro 31 1 0],
  imm "SCH_BOUND_LAST_NS" 0x024 [ro 0 27 0],
  cntN "SCH counters" 0x100 8,
  stgN "SCH_PORTp_CFG" 0x1000 69 0x40 [rw 0 7 20, rw 8 8 0],
  stgN "SCH_PORTp_SHAPER" 0x1004 69 0x40 [rwR 0 24 0 0 12500000],
  stgN "SCH_PORTp_BURST" 0x1008 69 0x40 [rw 0 18 16384]] ++ schGateRows 0 32 1024 ++ schGateRows 32 32 64

/-- The blocks of BAR0 (R349). -/
inductive Block where
  | glb | crs | tmb | pwr | flt | hst | nvm | mon
  | lne (q : Nat) | mac (p : Nat) | erg (e : Nat)
  | oas | cvn | sch
  deriving DecidableEq, Repr

/-- The block of a normal-view offset and the offset of its base (R349). -/
def blockOf (off : Nat) : Option (Block × Nat) :=
  if off < 0x80000 then
    some (match off / 0x10000 with
      | 0 => .glb | 1 => .crs | 2 => .tmb | 3 => .pwr | 4 => .flt | 5 => .hst | 6 => .nvm | _ => .mon,
      off / 0x10000 * 0x10000)
  else if 0x100000 ≤ off ∧ off < 0x180000 then some (.lne ((off - 0x100000) / 0x10000), off / 0x10000 * 0x10000)
  else if 0x200000 ≤ off ∧ off < 0x245000 then some (.mac ((off - 0x200000) / 0x1000), off / 0x1000 * 0x1000)
  else if 0x400000 ≤ off ∧ off < 0x800000 then some (.erg ((off - 0x400000) / 0x100000), off / 0x100000 * 0x100000)
  else if 0x800000 ≤ off ∧ off < 0x900000 then some (.oas, 0x800000)
  else if 0x900000 ≤ off ∧ off < 0xA00000 then some (.cvn, 0x900000)
  else if 0xA00000 ≤ off ∧ off < 0xB00000 then some (.sch, 0xA00000)
  else none

/-- The register map of a block. -/
def Block.rows : Block → List RegRow
  | .glb => glbRows
  | .crs => crsRows
  | .tmb => tmbRows
  | .pwr => pwrRows
  | .flt => fltRows
  | .hst => hstRows
  | .nvm => nvmRows
  | .mon => monRows
  | .lne _ => lneRows
  | .mac p => macRows ++ if p < 32 then macLaneRows else if p < 64 then macFieldRows else []
  | .erg e => ergRows e
  | .oas => oasRows
  | .cvn => cvnRows
  | .sch => schRows

/-- The row and array index of the register at a normal-view offset; none where no register is listed. -/
def findReg (off : Nat) : Option (RegRow × Nat) :=
  if off % 4 ≠ 0 then none else
    match blockOf off with
    | none => none
    | some (b, base) => findRow (off - base) b.rows

/-- The reset word of the register at an offset (R12). -/
def regReset (off : Nat) : Nat :=
  match findReg off with
  | some (r, i) => r.reset i
  | none => 0

/-- The register at an offset is staged (R9). -/
def regStaged (off : Nat) : Bool :=
  match findReg off with
  | some (r, _) => r.staged
  | none => false

end Sys2Proof.Machine
end

