-- ==== Sys2Proof/Machine/Names.lean ====
section
/-! DEFINITION. BAR0 offsets of the registers that the device itself reads or writes, under the manual's names
(R349 and the register map of each chapter). -/

namespace Sys2Proof.Machine

/-! GLB, R365 -/
abbrev GLB_MODE : Nat := 0x0000C
abbrev GLB_STRAPS : Nat := 0x00010
abbrev GLB_TEST_CTL : Nat := 0x00014
abbrev GLB_MAC_LO : Nat := 0x00018
abbrev GLB_MAC_HI : Nat := 0x0001C
abbrev GLB_FW_VERSION : Nat := 0x00020
abbrev GLB_IRQ_STATUS : Nat := 0x00030

/-! CRS, R89 -/
abbrev CRS_CTL : Nat := 0x10000
abbrev CRS_STATUS : Nat := 0x10004
abbrev CRS_COMMIT : Nat := 0x10008
abbrev CRS_COMMIT_TIME_SEC_HI : Nat := 0x1000C
abbrev CRS_COMMIT_TIME_SEC_LO : Nat := 0x10010
abbrev CRS_COMMIT_TIME_NS : Nat := 0x10014
abbrev CRS_PEND_CREST_ID : Nat := 0x10018
abbrev CRS_ACTIVE_CREST_ID : Nat := 0x1001C
abbrev CRS_LAST_COMMIT_SEC_HI : Nat := 0x10020
abbrev CRS_LAST_COMMIT_SEC_LO : Nat := 0x10024
abbrev CRS_LAST_COMMIT_NS : Nat := 0x10028
abbrev CRS_DRAIN_LIMIT : Nat := 0x1002C
abbrev CRS_DRAIN_COUNT : Nat := 0x10030
abbrev CRS_DRAIN_TIME : Nat := 0x10034
abbrev CRS_COMMIT_COUNT : Nat := 0x10038
abbrev CRS_COMMIT_REFUSED : Nat := 0x1003C
abbrev CRS_FROZEN_WRITES : Nat := 0x10040
abbrev CRS_CREST_EXPIRED : Nat := 0x10044
abbrev CRS_LATE_COMMITS : Nat := 0x10048
abbrev CRS_LIVE_WRITE_REFUSED : Nat := 0x1004C
abbrev CRS_REF_DIGEST_LO : Nat := 0x10050
abbrev CRS_REF_DIGEST_HI : Nat := 0x10054
abbrev CRS_DIGEST_LO : Nat := 0x10058
abbrev CRS_DIGEST_HI : Nat := 0x1005C
abbrev CRS_DIGEST_STATUS : Nat := 0x10060
abbrev CRS_SCRUB_LAST : Nat := 0x10064
abbrev CRS_RELOAD : Nat := 0x10068
abbrev CRS_RELOAD_LIMIT : Nat := 0x1006C
abbrev CRS_IRQ_STATUS : Nat := 0x10070
abbrev CRS_RELOAD_DISCARDS : Nat := 0x10078
abbrev CRS_CAIRN_CTL : Nat := 0x10080
abbrev CRS_CAIRN_PORT : Nat := 0x10084
abbrev CRS_CAIRN_GROUP (k : Nat) : Nat := 0x10088 + 4 * k
abbrev CRS_REGION_REG (r : Nat) : Nat := 0x10100 + 4 * r
abbrev CRS_REGION_TAB (r : Nat) : Nat := 0x10180 + 4 * r

/-! TMB, R65 -/
abbrev TMB_CTL : Nat := 0x20000
abbrev TMB_SNAP : Nat := 0x20004
abbrev TMB_IRQ_STATUS : Nat := 0x20008
abbrev TMB_TXTS_PENDING_LO : Nat := 0x20010
abbrev TMB_TXTS_PENDING_HI : Nat := 0x20014
abbrev TMB_PTP_DOMAIN_MAP : Nat := 0x20020
abbrev TMB_PTP_DOMAIN_EN : Nat := 0x20024
abbrev TMB_PTP_UNMAPPED : Nat := 0x20028
abbrev TMB_TXTS_REQ_IGNORED : Nat := 0x2002C
abbrev TMB_TB (n : Nat) : Nat := 0x20100 + n * 0x40
abbrev TMB_TB_TRIM (n : Nat) : Nat := TMB_TB n + 0x18
abbrev TMB_TB_CMD (n : Nat) : Nat := TMB_TB n + 0x30
abbrev TMB_TB_STATUS (n : Nat) : Nat := TMB_TB n + 0x34
abbrev TMB_TB_LAST_ADJ (n : Nat) : Nat := TMB_TB n + 0x38
abbrev TMB_KEEPER_SEC_HI : Nat := 0x20200
abbrev TMB_KEEPER_SEC_LO : Nat := 0x20204
abbrev TMB_KEEPER_TICKS : Nat := 0x20208
abbrev TMB_KEEPER_STATUS : Nat := 0x2020C
abbrev TMB_KEEPER_CORR : Nat := 0x20210
abbrev TMB_KEEPER_ERR : Nat := 0x20214
abbrev TMB_TIO (i : Nat) : Nat := 0x20300 + i * 0x40
abbrev TMB_TIO_STATUS (i : Nat) : Nat := TMB_TIO i + 0x28
abbrev TMB_PORT_RX_DLY (p : Nat) : Nat := 0x21000 + p * 0x20
abbrev TMB_PORT_TX_DLY (p : Nat) : Nat := 0x21004 + p * 0x20
abbrev TMB_PORT_PTP (p : Nat) : Nat := 0x21008 + p * 0x20
abbrev TMB_PORT_LINK_DLY (p : Nat) : Nat := 0x2100C + p * 0x20
abbrev TMB_TXTS_STATUS (p : Nat) : Nat := 0x21010 + p * 0x20
abbrev TMB_TXTS_OVF_CNT (p : Nat) : Nat := 0x21014 + p * 0x20
abbrev TMB_TXTS_LO (p : Nat) : Nat := 0x21018 + p * 0x20
abbrev TMB_TXTS_HI (p : Nat) : Nat := 0x2101C + p * 0x20

/-! PWR, R333 -/
abbrev PWR_AVS_CFG : Nat := 0x30000
abbrev PWR_AVS_STATUS : Nat := 0x30004
abbrev PWR_SUPPLY : Nat := 0x30008
abbrev PWR_IRQ_STATUS : Nat := 0x3000C
abbrev PWR_DEBUG : Nat := 0x30020
abbrev PWR_MAINLOSS_COUNT : Nat := 0x30030
abbrev PWR_MAINLOSS_SEC_HI : Nat := 0x30034
abbrev PWR_MAINLOSS_SEC_LO : Nat := 0x30038
abbrev PWR_MAINLOSS_TICKS : Nat := 0x3003C
abbrev PWR_RESTORE_SEC_HI : Nat := 0x30040
abbrev PWR_RESTORE_SEC_LO : Nat := 0x30044
abbrev PWR_RESTORE_TICKS : Nat := 0x30048
abbrev PWR_STALL_TIMEOUTS : Nat := 0x30080
abbrev PWR_D (d : Nat) : Nat := 0x30100 + d * 0x20
abbrev PWR_D_CFG (d : Nat) : Nat := PWR_D d
abbrev PWR_D_VOTE_HOST (d : Nat) : Nat := PWR_D d + 0x04
abbrev PWR_D_VOTE_FW (d : Nat) : Nat := PWR_D d + 0x08
abbrev PWR_D_STATUS (d : Nat) : Nat := PWR_D d + 0x0C
abbrev PWR_D_WAKES (d : Nat) : Nat := PWR_D d + 0x10
abbrev PWR_D_ENTRY_ABORTED (d : Nat) : Nat := PWR_D d + 0x14
abbrev PWR_D_LAST_WAKE (d : Nat) : Nat := PWR_D d + 0x18
abbrev PWR_D_STALLS (d : Nat) : Nat := PWR_D d + 0x1C
abbrev PWR_ERG_PERF_REQ (e : Nat) : Nat := 0x30400 + e * 0x10
abbrev PWR_ERG_PERF_MIN (e : Nat) : Nat := 0x30404 + e * 0x10
abbrev PWR_ERG_PERF_STATUS (e : Nat) : Nat := 0x30408 + e * 0x10
abbrev PWR_ERG_PERF_CHANGES (e : Nat) : Nat := 0x3040C + e * 0x10

/-! LNE, R111: quad `q`, and lane port `p` = 4q + l -/
abbrev LNE_QUAD (q : Nat) : Nat := 0x100000 + q * 0x10000
abbrev LNE_QUAD_CFG (q : Nat) : Nat := LNE_QUAD q
abbrev LNE_QUAD_STATUS (q : Nat) : Nat := LNE_QUAD q + 0x004
abbrev LNE_QUAD_CTL (q : Nat) : Nat := LNE_QUAD q + 0x008
abbrev LNE_IRQ_STATUS (q : Nat) : Nat := LNE_QUAD q + 0x010
abbrev LNE_L (p : Nat) : Nat := LNE_QUAD (p / 4) + 0x100 + p % 4 * 0x100
abbrev LNE_L_CFG (p : Nat) : Nat := LNE_L p
abbrev LNE_L_TX_EQ (p : Nat) : Nat := LNE_L p + 0x04
abbrev LNE_L_RX_EQ (p : Nat) : Nat := LNE_L p + 0x08
abbrev LNE_L_TX_EQ_EFF (p : Nat) : Nat := LNE_L p + 0x0C
abbrev LNE_L_RX_EQ_STATE (p : Nat) : Nat := LNE_L p + 0x10
abbrev LNE_L_STATE (p : Nat) : Nat := LNE_L p + 0x14
abbrev LNE_L_TS_RX_DLY (p : Nat) : Nat := LNE_L p + 0x18
abbrev LNE_L_TS_TX_DLY (p : Nat) : Nat := LNE_L p + 0x1C
abbrev LNE_L_LOW (p : Nat) : Nat := LNE_L p + 0x20
abbrev LNE_L_TEST (p : Nat) : Nat := LNE_L p + 0x24
abbrev LNE_L_PRBS_ERR (p : Nat) : Nat := LNE_L p + 0x28
abbrev LNE_L_PRBS_STATUS (p : Nat) : Nat := LNE_L p + 0x2C
abbrev LNE_L_LINK_DOWN (p : Nat) : Nat := LNE_L p + 0x30
abbrev LNE_L_FAIL_CNT (p : Nat) : Nat := LNE_L p + 0x34
abbrev LNE_L_FEC_CORR (p : Nat) : Nat := LNE_L p + 0x38
abbrev LNE_L_FEC_UNCORR (p : Nat) : Nat := LNE_L p + 0x3C
abbrev LNE_L_FEC_SYMERR (p : Nat) : Nat := LNE_L p + 0x40

/-! MAC of port `p`, R140 -/
abbrev MAC (p : Nat) : Nat := 0x200000 + p * 0x1000
abbrev MAC_CFG (p : Nat) : Nat := MAC p
abbrev MAC_MAX_FRAME (p : Nat) : Nat := MAC p + 0x004
abbrev MAC_FC_CFG (p : Nat) : Nat := MAC p + 0x008
abbrev MAC_FC_STATUS (p : Nat) : Nat := MAC p + 0x00C
abbrev MAC_PAUSE_WDOG (p : Nat) : Nat := MAC p + 0x010
abbrev MAC_EEE_CFG (p : Nat) : Nat := MAC p + 0x014
abbrev MAC_EEE_STATUS (p : Nat) : Nat := MAC p + 0x018
abbrev MAC_PREEMPT_CFG (p : Nat) : Nat := MAC p + 0x01C
abbrev MAC_PREEMPT_STATUS (p : Nat) : Nat := MAC p + 0x020
abbrev MAC_FLD_CFG (p : Nat) : Nat := MAC p + 0x030
abbrev MAC_FLD_PLCA (p : Nat) : Nat := MAC p + 0x034
abbrev MAC_FLD_STORM (p : Nat) : Nat := MAC p + 0x038
abbrev MAC_FLD_DWELL (p : Nat) : Nat := MAC p + 0x03C
abbrev MAC_FLD_CTL (p : Nat) : Nat := MAC p + 0x040
abbrev MAC_FLD_STATUS (p : Nat) : Nat := MAC p + 0x044
abbrev MAC_IRQ_STATUS (p : Nat) : Nat := MAC p + 0x050
abbrev MAC_STAT_CTL (p : Nat) : Nat := MAC p + 0x058
abbrev MAC_STAT_HALF_LO (p : Nat) : Nat := MAC p + 0x060
abbrev MAC_STAT_HALF_HI (p : Nat) : Nat := MAC p + 0x064
abbrev MAC_RAW (p k : Nat) : Nat := MAC p + 0x100 + 4 * k
abbrev MAC_STAT_LO (p i : Nat) : Nat := MAC p + 0x400 + 8 * i
abbrev MAC_STAT_HI (p i : Nat) : Nat := MAC p + 0x404 + 8 * i

/-! ERG of erg `e`, parser part, R160 -/
abbrev ERG (e : Nat) : Nat := 0x400000 + e * 0x100000
abbrev ERG_PRS_CFG (e : Nat) : Nat := ERG e
abbrev ERG_PRS_WADI (e : Nat) : Nat := ERG e + 0x004
abbrev ERG_SEIF_TPID (e : Nat) : Nat := ERG e + 0x008
abbrev ERG_SEIF_CFG (e : Nat) : Nat := ERG e + 0x00C
abbrev ERG_PRS_STATUS (e : Nat) : Nat := ERG e + 0x010
abbrev ERG_PRS_IRQ_STATUS (e : Nat) : Nat := ERG e + 0x014
abbrev ERG_PRS_PORT (e k : Nat) : Nat := ERG e + 0x040 + 4 * k
abbrev ERG_PRS_FRAMES (e : Nat) : Nat := ERG e + 0x100
abbrev ERG_PRS_SECOND (e : Nat) : Nat := ERG e + 0x104
abbrev ERG_PRS_SEIF_FRAMES (e : Nat) : Nat := ERG e + 0x108
abbrev ERG_PRS_DEPTH_EXC (e : Nat) : Nat := ERG e + 0x10C
abbrev ERG_PRS_WINDOW_END (e : Nat) : Nat := ERG e + 0x110
abbrev ERG_PRS_LEN_ERR (e : Nat) : Nat := ERG e + 0x114
abbrev ERG_PRS_NODE_MISS (e : Nat) : Nat := ERG e + 0x118
abbrev ERG_PRS_DROPS (e : Nat) : Nat := ERG e + 0x11C
abbrev ERG_PRS_TRAPS (e : Nat) : Nat := ERG e + 0x120
abbrev ERG_PRS_LATE (e : Nat) : Nat := ERG e + 0x124
abbrev ERG_PRS_WADI_LOOP (e : Nat) : Nat := ERG e + 0x128
abbrev ERG_PRS_REORDER_FULL (e : Nat) : Nat := ERG e + 0x12C
abbrev ERG_PRS_CAP_CTL (e : Nat) : Nat := ERG e + 0x180
abbrev ERG_PRS_CAP_ANCHOR (e i : Nat) : Nat := ERG e + 0x184 + 4 * i
abbrev ERG_PRS_CAP_FLAGS (e : Nat) : Nat := ERG e + 0x198
abbrev ERG_PRS_CAP_INFO (e : Nat) : Nat := ERG e + 0x19C

/-! ERG of erg `e`, forwarding, prefix and mirage part, R193 -/
abbrev ERG_FWD_CFG (e : Nat) : Nat := ERG e + 0x1000
abbrev ERG_FWD_AGE (e : Nat) : Nat := ERG e + 0x1004
abbrev ERG_FWD_LEARN_RATE (e : Nat) : Nat := ERG e + 0x1008
abbrev ERG_FWD_LOCK_LIMIT (e : Nat) : Nat := ERG e + 0x100C
abbrev ERG_FWD_LOCK_STATUS (e : Nat) : Nat := ERG e + 0x1010
abbrev ERG_FWD_FILL (e : Nat) : Nat := ERG e + 0x1014
abbrev ERG_FWD_STATIC_FILL (e : Nat) : Nat := ERG e + 0x1018
abbrev ERG_FWD_QUEUE (e : Nat) : Nat := ERG e + 0x101C
abbrev ERG_FWD_IRQ_STATUS (e : Nat) : Nat := ERG e + 0x1020
abbrev ERG_FWD_LEARN_SENT (e : Nat) : Nat := ERG e + 0x1100
abbrev ERG_FWD_LEARN_SRC_DROPS (e : Nat) : Nat := ERG e + 0x1104
abbrev ERG_FWD_LEARN_APPLIED (e : Nat) : Nat := ERG e + 0x1108
abbrev ERG_FWD_LEARN_QUEUE_DROPS (e : Nat) : Nat := ERG e + 0x110C
abbrev ERG_FWD_INSERT_FAIL (e : Nat) : Nat := ERG e + 0x1110
abbrev ERG_FWD_LEARNED_EVICTED (e : Nat) : Nat := ERG e + 0x1114
abbrev ERG_FWD_STATION_MOVES (e : Nat) : Nat := ERG e + 0x1118
abbrev ERG_FWD_MOVE_BLOCKED (e : Nat) : Nat := ERG e + 0x111C
abbrev ERG_FWD_STATIC_PROTECTED (e : Nat) : Nat := ERG e + 0x1120
abbrev ERG_FWD_AGED_OUT (e : Nat) : Nat := ERG e + 0x1124
abbrev ERG_FWD_RELOCATIONS (e : Nat) : Nat := ERG e + 0x1128
abbrev ERG_FWD_DA_MISS_FLOOD (e : Nat) : Nat := ERG e + 0x112C
abbrev ERG_FWD_DA_MISS_DISCARD (e : Nat) : Nat := ERG e + 0x1130
abbrev ERG_FWD_NO_PORT (e : Nat) : Nat := ERG e + 0x1134
abbrev ERG_FWD_SAME_PORT (e : Nat) : Nat := ERG e + 0x1138
abbrev ERG_FWD_VLAN_DISCARD (e : Nat) : Nat := ERG e + 0x113C
abbrev ERG_FWD_VLAN_BLOCKED (e : Nat) : Nat := ERG e + 0x1140
abbrev ERG_FWD_VLAN_EGRESS_FILTER (e : Nat) : Nat := ERG e + 0x1144
abbrev ERG_FWD_LOCK_BROKEN (e : Nat) : Nat := ERG e + 0x1148
abbrev ERG_FWD_LOCK_HELD_EVENTS (e : Nat) : Nat := ERG e + 0x114C
abbrev ERG_FWD_SCAN_SKIPPED (e : Nat) : Nat := ERG e + 0x1150
abbrev ERG_FWD_DA_DISCARD (e : Nat) : Nat := ERG e + 0x1154
abbrev ERG_PFX_CFG (e : Nat) : Nat := ERG e + 0x2000
abbrev ERG_PFX_BLOOM_STATUS (e : Nat) : Nat := ERG e + 0x2004
abbrev ERG_PFX_LEN (e s : Nat) : Nat := ERG e + (if s < 12 then 0x2040 + 4 * s else 0x2080 + 4 * (s - 12))
abbrev ERG_PFX_ROUTED (e : Nat) : Nat := ERG e + 0x2100
abbrev ERG_PFX_ROUTE_MISS (e : Nat) : Nat := ERG e + 0x2104
abbrev ERG_PFX_TTL_EXPIRED (e : Nat) : Nat := ERG e + 0x2108
abbrev ERG_PFX_NOT_ROUTABLE (e : Nat) : Nat := ERG e + 0x210C
abbrev ERG_PFX_NH_TRAP (e : Nat) : Nat := ERG e + 0x2110
abbrev ERG_PFX_NH_DISCARD (e : Nat) : Nat := ERG e + 0x2114
abbrev ERG_PFX_INSERT_FULL (e : Nat) : Nat := ERG e + 0x2118
abbrev ERG_PFX_PROBES (e : Nat) : Nat := ERG e + 0x211C
abbrev ERG_PFX_PROBES_SKIPPED (e : Nat) : Nat := ERG e + 0x2120
abbrev ERG_MIR_CTL (e : Nat) : Nat := ERG e + 0x3000
abbrev ERG_MIR_BASE_LO (e : Nat) : Nat := ERG e + 0x3004
abbrev ERG_MIR_BASE_HI (e : Nat) : Nat := ERG e + 0x3008
abbrev ERG_MIR_STATUS (e : Nat) : Nat := ERG e + 0x300C
abbrev ERG_MIR_LAST_TABLE (e : Nat) : Nat := ERG e + 0x3010
abbrev ERG_MIR_LAST_INDEX (e : Nat) : Nat := ERG e + 0x3014
abbrev ERG_MIR_LAST_KIND (e : Nat) : Nat := ERG e + 0x3018
abbrev ERG_MIR_MISMATCHES (e : Nat) : Nat := ERG e + 0x301C
abbrev ERG_MIR_PASS_MS (e : Nat) : Nat := ERG e + 0x3020

/-! ERG of erg `e`, classification part, R217 -/
abbrev ERG_CLS_CFG (e : Nat) : Nat := ERG e + 0x4000
abbrev ERG_CLS_IRQ_STATUS (e : Nat) : Nat := ERG e + 0x4010
abbrev ERG_SID_PORT (e k : Nat) : Nat := ERG e + 0x4040 + 4 * k
abbrev ERG_CLS_EXPRESS_HITS (e : Nat) : Nat := ERG e + 0x4100
abbrev ERG_CLS_RULE_DENY (e : Nat) : Nat := ERG e + 0x4104
abbrev ERG_CLS_RULE_TRAP (e : Nat) : Nat := ERG e + 0x4108
abbrev ERG_CLS_RULE_REDIRECT (e : Nat) : Nat := ERG e + 0x410C
abbrev ERG_CLS_RULE_RECIRC (e : Nat) : Nat := ERG e + 0x4110
abbrev ERG_CLS_RULE_MISS (e : Nat) : Nat := ERG e + 0x4114
abbrev ERG_SID_IDENTIFIED (e : Nat) : Nat := ERG e + 0x4118
abbrev ERG_SID_BAD_HANDLE (e : Nat) : Nat := ERG e + 0x411C
abbrev ERG_SID_TAG_BAD (e : Nat) : Nat := ERG e + 0x4120
abbrev ERG_PSFP_SDU_DROPS (e : Nat) : Nat := ERG e + 0x4124
abbrev ERG_PSFP_BLOCKED_DROPS (e : Nat) : Nat := ERG e + 0x4128
abbrev ERG_PSFP_GATE_DROPS (e : Nat) : Nat := ERG e + 0x412C
abbrev ERG_MTR_RED_DROPS (e : Nat) : Nat := ERG e + 0x4130
abbrev ERG_MTR_YELLOW_DROPS (e : Nat) : Nat := ERG e + 0x4134
abbrev ERG_MTR_YELLOW (e : Nat) : Nat := ERG e + 0x4138
abbrev ERG_MTR_RED_FWD (e : Nat) : Nat := ERG e + 0x413C
abbrev ERG_MIRROR_COPIES (e : Nat) : Nat := ERG e + 0x4140
abbrev ERG_MIRROR_NO_PORT (e : Nat) : Nat := ERG e + 0x4144

/-! CVN, R254 -/
abbrev CVN_RENIL : Nat := 0x900000
abbrev CVN_TICK : Nat := 0x900004
abbrev CVN_HOLD_CFG : Nat := 0x900008
abbrev CVN_STATUS : Nat := 0x90000C
abbrev CVN_IRQ_STATUS : Nat := 0x900010
abbrev CVN_PARITY_LAST : Nat := 0x900018
abbrev CVN_RING (r : Nat) : Nat := 0x900100 + r * 0x20
abbrev CVN_RING_CTL (r : Nat) : Nat := CVN_RING r
abbrev CVN_RING_BASE_LO (r : Nat) : Nat := CVN_RING r + 0x04
abbrev CVN_RING_BASE_HI (r : Nat) : Nat := CVN_RING r + 0x08
abbrev CVN_RING_PROD (r : Nat) : Nat := CVN_RING r + 0x0C
abbrev CVN_RING_CONS (r : Nat) : Nat := CVN_RING r + 0x10
abbrev CVN_RING_DROPS (r : Nat) : Nat := CVN_RING r + 0x14
abbrev CVN_COUPLE_CTL : Nat := 0x900200
abbrev CVN_COUPLE_CLAIM : Nat := 0x900204
abbrev CVN_COUPLE_IN_LO : Nat := 0x900208
abbrev CVN_COUPLE_IN_HI : Nat := 0x90020C
abbrev CVN_COUPLE_OUT_LO : Nat := 0x900210
abbrev CVN_COUPLE_OUT_HI : Nat := 0x900214
abbrev CVN_COUPLE_WATCH : Nat := 0x900218
abbrev CVN_COUPLE_NOTIFY : Nat := 0x90021C
abbrev CVN_CLAIM_DA_LO : Nat := 0x900220
abbrev CVN_CLAIM_DA_HI : Nat := 0x900224
abbrev CVN_CLAIM_ETYPE : Nat := 0x900228
abbrev CVN_COUPLE_STATUS : Nat := 0x90022C
abbrev CVN_HEARD (i : Nat) : Nat := 0x900240 + 0x10 * i
abbrev CVN_RANGE_FIRST (i : Nat) : Nat := 0x900400 + 8 * i
abbrev CVN_RANGE_LAST (i : Nat) : Nat := 0x900404 + 8 * i
abbrev CVN_PORT (p : Nat) : Nat := 0x900800 + 4 * p
abbrev CVN_ACCEPTED : Nat := 0x900A00
abbrev CVN_DUPLICATES : Nat := 0x900A04
abbrev CVN_ROGUE : Nat := 0x900A08
abbrev CVN_OUT_OF_ORDER : Nat := 0x900A0C
abbrev CVN_NO_SEQ : Nat := 0x900A10
abbrev CVN_RESETS : Nat := 0x900A14
abbrev CVN_STALE_REPORTS : Nat := 0x900A18
abbrev CVN_HOLD_IN : Nat := 0x900A1C
abbrev CVN_PROBES_RX : Nat := 0x900A20
abbrev CVN_PROBES_TX : Nat := 0x900A24
abbrev CVN_HOLD_NO_ENTRY : Nat := 0x900A28
abbrev CVN_SWITCHOVERS : Nat := 0x900A2C
abbrev CVN_SUBSTITUTES : Nat := 0x900A30
abbrev CVN_SUBST_UNTAGGED : Nat := 0x900A34
abbrev CVN_HOLD_EXHAUSTED : Nat := 0x900A38
abbrev CVN_HOLD_LATE : Nat := 0x900A3C
abbrev CVN_PIN_FAIL : Nat := 0x900A40
abbrev CVN_PARITY : Nat := 0x900A44
abbrev CVN_COUPLE_BLOCKED : Nat := 0x900A48
abbrev CVN_CLAIMS_RX : Nat := 0x900A4C
abbrev CVN_CLAIMS_BAD : Nat := 0x900A50
abbrev CVN_CLAIM_TABLE_FULL : Nat := 0x900A54

/-! OAS, R286 -/
abbrev OAS_CFG : Nat := 0x800000
abbrev OAS_DESC_CFG : Nat := 0x800004
abbrev OAS_PIN_CFG : Nat := 0x800008
abbrev OAS_SHARED_FREE : Nat := 0x800010
abbrev OAS_CELLS_USED : Nat := 0x800014
abbrev OAS_DESC_FREE : Nat := 0x800018
abbrev OAS_PIN_USED : Nat := 0x80001C
abbrev OAS_RSV_TOTAL : Nat := 0x800020
abbrev OAS_IRQ_STATUS : Nat := 0x800030
abbrev OAS_POOL_CFG (n : Nat) : Nat := 0x800040 + 0x10 * n
abbrev OAS_POOL_STATUS (n : Nat) : Nat := 0x800044 + 0x10 * n
abbrev OAS_POOL_FALLBACK (n : Nat) : Nat := 0x800048 + 0x10 * n
abbrev OAS_ALLOC_REQ : Nat := 0x800080
abbrev OAS_ALLOC_RESULT : Nat := 0x800084
abbrev OAS_FREE : Nat := 0x800088
abbrev OAS_FOREIGN_LAST : Nat := 0x800090
abbrev OAS_DFREE_LOG_CTL : Nat := 0x800094
abbrev OAS_FOREIGN_FREE : Nat := 0x800100
abbrev OAS_DOUBLE_FREE : Nat := 0x800104
abbrev OAS_ALLOC_FAIL : Nat := 0x800108
abbrev OAS_REF_LIMIT : Nat := 0x80010C
abbrev OAS_DROP_LIMIT : Nat := 0x800110
abbrev OAS_DROP_SHARED : Nat := 0x800114
abbrev OAS_DROP_NO_DESC : Nat := 0x800118
abbrev OAS_LINK_DOWN_DROPS : Nat := 0x80011C
abbrev OAS_MC_PARTIAL : Nat := 0x800120
abbrev OAS_RSV_OVERFLOW : Nat := 0x800124
abbrev OAS_MC_NO_GROUP : Nat := 0x800128
abbrev OAS_CUT_THROUGH : Nat := 0x80012C
abbrev OAS_ECN_MARKED : Nat := 0x800130
abbrev OAS_EDIT_SKIPPED : Nat := 0x800134
abbrev OAS_ECC_CORR : Nat := 0x800138
abbrev OAS_ECC_UNCORR : Nat := 0x80013C
abbrev OAS_DFREE_LOG (i : Nat) : Nat := 0x800200 + 4 * i
abbrev OAS_PORT_DROPS (p : Nat) : Nat := 0x800400 + 4 * p
abbrev OAS_EDIT (p : Nat) : Nat := 0x800600 + 4 * p

/-! SCH, R313 -/
abbrev SCH_CFG : Nat := 0xA00000
abbrev SCH_IRQ_STATUS : Nat := 0xA00010
abbrev SCH_BOUND_LAST : Nat := 0xA00020
abbrev SCH_BOUND_LAST_NS : Nat := 0xA00024
abbrev SCH_BOUND_VIOLATIONS : Nat := 0xA00100
abbrev SCH_PREWAKE_LATE : Nat := 0xA00104
abbrev SCH_GATE_OVERRUN : Nat := 0xA00108
abbrev SCH_FIT_WITHHELD : Nat := 0xA0010C
abbrev SCH_NO_WINDOW_DROPS : Nat := 0xA00110
abbrev SCH_SDU_DROPS : Nat := 0xA00114
abbrev SCH_MAP_MISMATCH : Nat := 0xA00118
abbrev SCH_REATTACH_DROPS : Nat := 0xA0011C
abbrev SCH_PORT (p : Nat) : Nat := 0xA01000 + p * 0x40
abbrev SCH_PORT_CFG (p : Nat) : Nat := SCH_PORT p
abbrev SCH_PORT_SHAPER (p : Nat) : Nat := SCH_PORT p + 0x04
abbrev SCH_PORT_BURST (p : Nat) : Nat := SCH_PORT p + 0x08
abbrev SCH_PORT_GATE_CFG (p : Nat) : Nat := SCH_PORT p + 0x0C
abbrev SCH_PORT_BASE_SEC_HI (p : Nat) : Nat := SCH_PORT p + 0x10
abbrev SCH_PORT_BASE_SEC_LO (p : Nat) : Nat := SCH_PORT p + 0x14
abbrev SCH_PORT_BASE_NS (p : Nat) : Nat := SCH_PORT p + 0x18
abbrev SCH_PORT_CYCLE_NS (p : Nat) : Nat := SCH_PORT p + 0x1C
abbrev SCH_PORT_PREWAKE (p : Nat) : Nat := SCH_PORT p + 0x20
abbrev SCH_PORT_GATE_STATUS (p : Nat) : Nat := SCH_PORT p + 0x24
abbrev SCH_PORT_GATE_OVERRUN (p : Nat) : Nat := SCH_PORT p + 0x28

/-! HST, R366 -/
abbrev HST (o : Nat) : Nat := 0x50000 + o
abbrev HST_TRAP (r : Nat) : Nat := 0x50080 + 4 * r

/-! MON, R408 -/
abbrev MON (o : Nat) : Nat := 0x70000 + o
abbrev MON_CTL : Nat := 0x70000
abbrev MON_IRQ_STATUS : Nat := 0x70010
abbrev MON_DUMP_CFG : Nat := 0x70020
abbrev MON_DUMP_PERIOD : Nat := 0x70024
abbrev MON_DUMP_PROD : Nat := 0x70030
abbrev MON_DUMP_CONS : Nat := 0x70034
abbrev MON_DUMP_SEQ : Nat := 0x70038
abbrev MON_DUMP_BUF_ADDR : Nat := 0x70040
abbrev MON_DUMP_LOST : Nat := 0x70050
abbrev MON_DUMP_MISSED : Nat := 0x70054
abbrev MON_TRC_LOST : Nat := 0x70058
abbrev MON_TRC_SKIPPED : Nat := 0x7005C
abbrev MON_TRC_RECORDS : Nat := 0x70060
abbrev MON_BW_CFG : Nat := 0x70070
abbrev MON_BW_SEQ : Nat := 0x70074
abbrev MON_TRC_CFG : Nat := 0x70080
abbrev MON_TRC_SEED : Nat := 0x70084
abbrev MON_TRC_RING : Nat := 0x70088
abbrev MON_TRC_PROD : Nat := 0x70094
abbrev MON_TRC_CONS : Nat := 0x70098
abbrev MON_TRC_STATUS : Nat := 0x7009C
abbrev MON_BW_RX (p : Nat) : Nat := 0x70400 + 8 * p
abbrev MON_BW_TX (p : Nat) : Nat := 0x70404 + 8 * p
abbrev MON_U (u : Nat) : Nat := 0x71000 + u * 0x200
abbrev MON_U_STATUS (u : Nat) : Nat := MON_U u + 0x008
abbrev MON_U_OVF_EN (u : Nat) : Nat := MON_U u + 0x00C
abbrev MON_U_CTR (u k : Nat) : Nat := MON_U u + 0x40 + k * 0x20
abbrev MON_U_CLASSES (u k : Nat) : Nat := MON_U_CTR u k + 0x04
abbrev MON_U_QRANGE (u k : Nat) : Nat := MON_U_CTR u k + 0x08
abbrev MON_U_ADDR_FIRST (u k : Nat) : Nat := MON_U_CTR u k + 0x0C
abbrev MON_U_ADDR_LAST (u k : Nat) : Nat := MON_U_CTR u k + 0x10
abbrev MON_U_COUNT (u k : Nat) : Nat := MON_U_CTR u k + 0x14

end Sys2Proof.Machine
end

