-- ==== Sys2Proof/Config.lean ====
section
/-! DEFINITION. The constants of one device and the free values: what the manual leaves to the part, the board or
the moment. Each is opaque, so that no statement can rest on a value of it (log entry 2). -/

namespace Sys2Proof.Config

/-- The device's 64-bit serial number, fixed in production (R365). -/
opaque serial : Nat

/-- The `n`-th draw of an outcome that the manual leaves open; State counts the draws. -/
opaque freeValue : Nat → BitVec 32

/-- The hash of the public key, fused in production (R371). -/
opaque keyHash : List Byte

/-- FIPS 186-4 ECDSA verification on P-256: public key, signature, SHA-256 digest (R371). -/
opaque ecdsaVerifies : List Byte → List Byte → List Byte → Bool

/-- The offset under which the scrubber feeds word `w` of a banked table (R83). -/
opaque bankedOffset : Nat → Nat → BitVec 32

end Sys2Proof.Config
end

