-- ==== Sys2Proof/Machine/Store.lean ====
section
/-! DEFINITION. Sparse stores in one canonical form: a list of keys and values whose keys strictly rise and in
which no value equals what an unlisted key reads as. The registers, the tables and the memories are held so. -/

namespace Sys2Proof.Machine

/-- What key `k` reads as: the listed value, or the value `d k` of an unlisted key. -/
def sparseGet {α : Type} (d : Nat → α) (k : Nat) : List (Nat × α) → α
  | [] => d k
  | (a, v) :: r => if k = a then v else sparseGet d k r

/-- The list without what it holds under `k`. -/
def sparseErase {α : Type} (k : Nat) : List (Nat × α) → List (Nat × α)
  | [] => []
  | (a, w) :: r => if k = a then sparseErase k r else (a, w) :: sparseErase k r

/-- The list with an entry put before the first higher key. -/
def sparseInsert {α : Type} (k : Nat) (v : α) : List (Nat × α) → List (Nat × α)
  | [] => [(k, v)]
  | (a, w) :: r => if k < a then (k, v) :: (a, w) :: r else (a, w) :: sparseInsert k v r

/-- The store with `k` reading as `v`; the value an unlisted key reads as removes the entry. -/
def sparsePut {α : Type} [DecidableEq α] (d : Nat → α) (k : Nat) (v : α) (l : List (Nat × α)) : List (Nat × α) :=
  if v = d k then sparseErase k l else sparseInsert k v (sparseErase k l)

/-- Canonical form above a key: keys strictly rise and no entry equals what an unlisted key reads as. -/
def sparseWfFrom {α : Type} [DecidableEq α] (d : Nat → α) (lo : Nat) : List (Nat × α) → Bool
  | [] => true
  | (a, v) :: r => decide (lo ≤ a) && decide (v ≠ d a) && sparseWfFrom d (a + 1) r

/-- Canonical form. -/
def sparseWf {α : Type} [DecidableEq α] (d : Nat → α) (l : List (Nat × α)) : Bool := sparseWfFrom d 0 l

/-- A store of numbers. -/
abbrev Store := List (Nat × Nat)

/-- A memory of bytes. -/
abbrev Memory := List Host.Cell

/-- What a byte of memory that nothing has written reads as (log entry 3). -/
def unwritten (_ : Nat) : Byte := 0

/-- Canonical form of a memory. -/
abbrev Memory.wf (m : Memory) : Bool := sparseWf unwritten m

/-- One byte of memory. -/
def Memory.read (m : Memory) (a : Nat) : Byte := sparseGet unwritten a m

/-- Memory with one byte written. -/
def Memory.write (m : Memory) (a : Nat) (b : Byte) : Memory := sparsePut unwritten a b m

/-- Memory with a run of bytes written from `a`. -/
def Memory.writeAll (m : Memory) (a : Nat) : List Byte → Memory
  | [] => m
  | b :: r => Memory.writeAll (m.write a b) (a + 1) r

/-- `n` bytes of memory from `a`. -/
def Memory.readAll (m : Memory) (a n : Nat) : List Byte := (List.range n).map fun i => m.read (a + i)

end Sys2Proof.Machine
end

