-- ==== Sys2Proof/Machine/State.lean ====
section
/-! DEFINITION. The state of the device as plain data, and the state right after reset. Registers are held in
sparse stores by BAR0 offset (R349); the modes and sequencers that registers only report are held as typed
fields and shown by the register reads. -/

namespace Sys2Proof.Machine

/-- Why the machine stops. It never does: the manual gives every command an effect or lets it pass without one
(log entry 4). -/
inductive Fault where
  /-- Raised by no command; kept so that the type has a value. Safe. -/
  | unreachable
  deriving DecidableEq, Repr

/-- Why a command has no meaning. -/
inductive Refusal where
  /-- Raised by Dispatch for a command of the table that has no meaning yet. Safe. -/
  | notModelled (mnemonic : String)
  deriving DecidableEq, Repr

/-- The major mode (R29). -/
inductive Mode where
  | load | run | handover | recovery | test | safe
  deriving DecidableEq, Repr

/-- One occurrence of a fault source on its way to the collector (R336). -/
structure Occ where
  src : Nat
  d0 : Nat := 0
  d1 : Nat := 0
  d2 : Nat := 0
  d3 : Nat := 0
  /-- raised through FLT_INJECT -/
  injected : Bool := false
  /-- `clk` at which it was raised: occurrences of one cycle meet in the collector (R32, R343) -/
  clk : Nat := 0
  /-- the active bank at that instant (R343) -/
  bank : Bool := false
  deriving DecidableEq, Repr

/-- An entry of a transmit timestamp queue (R56). -/
structure TxtsEntry where
  id : Nat
  tb : Nat
  ns32 : Nat
  frac : Nat
  dropped : Bool
  deriving DecidableEq, Repr

/-- A TIME_IO pin's output sequencer (R60): the instant after which the next edge lies, and the end of the pulse in
progress, both total counts of the pin's time base in 2^-40 ns. -/
structure Tio where
  after : Option Nat := none
  pulseEnd : Option Nat := none
  deriving DecidableEq, Repr

/-- The four time bases and the keeper's hidden phase (R38, R39, R61, R62). Counts are in units of 2^-40 ns. -/
structure Time where
  cnt : List Nat := [0, 0, 0, 0]
  raw : List Nat := [0, 0, 0, 0]
  /-- snapshot taken and not yet on the register bus (R44): counts, then raw counts -/
  snap : Option (List Nat × List Nat) := none
  /-- cycles of 4 ns since AO power-on, for the intervals that the manual runs on other clocks -/
  clk : Nat := 0
  /-- `clk` at TB0's last start, SET or STEP, whose count is no rollover (R61) -/
  setAt : Nat := 0
  /-- time since the keeper's last tick, in 1/64 ns -/
  phase : Nat := 0
  /-- the keeper's correction accumulator (R62) -/
  acc : Int := 0
  /-- transmit timestamp queues of ports 0 to 63, head first -/
  txts : List (List TxtsEntry) := List.replicate 64 []
  tio : List Tio := List.replicate 4 {}
  deriving DecidableEq, Repr

/-- States of the crest machinery (R68). -/
inductive CrestPhase where
  | opened | armed | draining | reconciling
  deriving DecidableEq, Repr

/-- The crest machinery (R68 to R87). -/
structure Crest where
  phase : CrestPhase := .opened
  /-- the active bank is bank 1 -/
  bank : Bool := false
  /-- the commit instant armed or last made, total nanoseconds of `tb` -/
  tstar : Nat := 0
  tb : Nat := 0
  /-- CRS_DRAIN_LIMIT.US at T* (R81) -/
  limit : Nat := 0
  /-- the limit has passed in this drain -/
  limitPassed : Bool := false
  /-- identifier active before T* -/
  oldId : Nat := 0
  /-- `clk` at T* -/
  at0 : Nat := 0
  /-- `clk` at which the CRS_RELOAD bit of each region was set (R87) -/
  reloadAt : List Nat := List.replicate 17 0
  /-- a scrub pass is in progress (R85) -/
  passing : Bool := true
  /-- `clk` at the last cairn beacon (R88) -/
  beaconAt : Option Nat := none
  deriving DecidableEq, Repr

/-- What the graph walk yields (R150, R151). -/
structure ParseResult where
  /-- anchors by LAYER 0 to 9, none where not valid -/
  anchors : List (Option Nat) := [some 0, none, none, none, none, none, none, none, none, none]
  flags : Nat := 0
  tags : Nat := 0
  visits : Nat := 0
  last : Nat := 0
  fin : Nat := 0
  /-- the claimed bytes when the walk ended -/
  lim : Nat := 0
  deriving DecidableEq, Repr

/-- Where a frame stands (R75, R79, R141 to R143). -/
inductive Stage where
  /-- in its MAC receive FIFO or waiting for an engine -/
  | waiting
  /-- in a parse engine -/
  | engine (k : Nat)
  /-- in the reorder stage -/
  | reorder
  /-- decided, before the caravan and the oasis -/
  | decided
  /-- judged: its copies stand in queues, on ports or on their way to the CPU -/
  | stored
  /-- handed to the wadi -/
  | wadi
  /-- discarded before any copy was made, its last byte still to come -/
  | dropped
  deriving DecidableEq, Repr

/-- Where a decided frame goes (R162, R197, R202). -/
inductive Dest where
  | nowhere
  | port (p : Nat)
  /-- a multicast group; `member` where a forwarding entry named it and the VLAN is checked (R271) -/
  | group (g : Nat) (member : Bool)
  | flood (ports : List Nat)
  deriving DecidableEq, Repr

/-- What lookup and classification decide of a frame (R194 to R215). -/
structure Decision where
  dest : Dest := .nowhere
  vid : Nat := 0
  tagged : Bool := false
  pcp : Nat := 0
  dei : Bool := false
  cls : Nat := 0
  /-- the class a rule or an express entry gave; reported with CPU copies -/
  handle : Option Nat := none
  /-- CVN_MODE of the entry that identified the frame -/
  cvnMode : Nat := 0
  /-- a red or yellow meter's remarks (R213) -/
  rePcp : Option Nat := none
  reDei : Option Nat := none
  reDscp : Option Nat := none
  /-- reason code of the copy to port 64 (R358) -/
  cpu : Option Nat := none
  /-- next hop that rewrites the frame (R184) -/
  nh : Option Nat := none
  /-- index of the rule hit -/
  rule : Option Nat := none
  express : Bool := false
  /-- the frame takes the seif path (R36) -/
  seif : Bool := false
  /-- the frame was discarded before the caravan -/
  discarded : Bool := false
  /-- LAYER of the anchor to which a recirculated frame is stripped (R202) -/
  strip : Option Nat := none
  /-- mirror sessions that the rule hit names (R201) -/
  mirror : Nat := 0
  deriving DecidableEq, Repr

/-- A frame in the device (R75 to R82). -/
structure Frame where
  id : Nat
  /-- ingress port -/
  port : Nat
  /-- from the destination address to the FCS -/
  bytes : Bytes
  bank : Bool
  /-- corrected ingress stamps on the four counts and raw counts, 2^-40 ns -/
  cnt : List Nat
  raw : List Nat
  order : Nat
  second : Bool := false
  /-- its last byte has arrived (LAST_IN of R256) -/
  lastIn : Bool := false
  /-- its receive FIFO was full when it began (R118) -/
  overflow : Bool := false
  /-- the frame turned out bad after part of it had gone on -/
  bad : Bool := false
  stage : Stage := .waiting
  parse : ParseResult := {}
  /-- the seif key has been looked up (R154) -/
  looked : Bool := false
  /-- raw TB0 nanoseconds at its dispatch or at the end of its express lookup (R405) -/
  dispatched : Option Nat := none
  dec : Decision := {}
  /-- mirror sessions that have a copy of the frame (R215) -/
  mirrored : Nat := 0
  /-- on a second pass, the frame as it was received (R215) -/
  recv : Option Bytes := none
  /-- identifier of the first pass, the frame's own on its first pass (R79, R82) -/
  root : Nat := 0
  /-- first cell of its chain in the oasis (R255) -/
  cell : Option Nat := none
  /-- the charge in cells (R266) -/
  charge : Nat := 0
  /-- reservation index (R303), and whether the charge is on its account (R267) -/
  rsv : Option Nat := none
  charged : Bool := false
  /-- sequence number (R278), and whether it is that of the PRP trailer (R223, R273) -/
  seq : Option Nat := none
  seqTrailer : Bool := false
  /-- egress ports of its accepted port copies (R237) -/
  sentTo : List Nat := []
  /-- hold slot that takes the frame when it is whole, and that has it pinned (R236, R277) -/
  pinFor : Option Nat := none
  pinned : Option Nat := none
  /-- sent from a transmit ring or by firmware without lookup (R359) -/
  bypass : Bool := false
  /-- client that holds the allocation reference of its pool buffer (R264) -/
  alloc : Option Nat := none
  /-- marked by a dust tracer (R402) -/
  trace : Bool := false
  deriving DecidableEq, Repr

/-- One erg's parse stage (R141 to R145, R160). -/
structure ErgParse where
  /-- the engine whose turn it is -/
  turn : Nat := 0
  /-- dispatch is paused (R145) -/
  paused : Bool := false
  /-- the highest order stamp released -/
  released : Option Nat := none
  /-- a capture is armed -/
  capArmed : Bool := false
  deriving DecidableEq, Repr

/-- An event of the learn bus (R171). -/
structure LearnEvent where
  fid : Nat
  mac : Nat
  port : Nat
  /-- 0 learn, 1 refresh, 2 move -/
  kind : Nat
  deriving DecidableEq, Repr

/-- A lock over granules of a forwarding table (R187). -/
structure TableLock where
  holder : Requester
  first : Nat
  last : Nat
  /-- `clk` when it was taken -/
  since : Nat
  deriving DecidableEq, Repr

/-- The mirage check of one erg (R190 to R192). -/
structure Mirage where
  running : Bool := false
  /-- skipped for a crest identifier that differs, until a commit or a write of ERG_MIR_CTL -/
  waiting : Bool := false
  /-- a difference was found in this pass -/
  found : Bool := false
  since : Nat := 0
  /-- records read in this pass (R191) -/
  read : Nat := 0
  deriving DecidableEq, Repr

/-- One erg's learning, aging and locks (R168 to R189). -/
structure ErgFwd where
  /-- the events last sent, newest first, with `clk` -/
  recent : List (LearnEvent × Nat) := []
  source : List LearnEvent := []
  /-- tokens missing from the full bucket, in events × 250,000, and `clk` when that was so -/
  deficit : Nat := 0
  deficitAt : Nat := 0
  inbound : List LearnEvent := []
  /-- the head event's wait on the lock has been counted -/
  headHeld : Bool := false
  scan : Nat := 0
  /-- time of the last scan step in parts of 1/131,136 of a cycle, and AGE_EN as it was last written (R175, R176) -/
  scanAt : Nat := 0
  scanning : Bool := true
  lock : Option TableLock := none
  /-- the host's, the management core's lock was broken (R188) -/
  lostHost : Bool := false
  lostMgmt : Bool := false
  mir : Mirage := {}
  deriving DecidableEq, Repr

/-- A chain of cells with its frame word (R255, R256), or an allocated service buffer. -/
structure Chain where
  /-- the cells, first cell first -/
  cells : List Nat
  /-- REFCNT -/
  ref : Nat
  /-- OWNER -/
  owner : Nat
  /-- POOL: 0 to 3, or 7 shared -/
  pool : Nat
  deriving DecidableEq, Repr

/-- A queued copy of a frame (R257). -/
structure Copy where
  id : Nat
  frame : Nat
  port : Nat
  queue : Nat
  /-- 0 forward, 1 ingress mirror, 2 egress mirror, 3 substitute, 4 probe, 5 CPU copy, 6 trap -/
  kind : Nat
  session : Nat := 0
  bank : Bool
  cut : Bool := false
  /-- reserved copy (R303) -/
  rsv : Bool := false
  ce : Bool := false
  /-- path of a probe -/
  path : Option Bool := none
  linked : Bool := false
  /-- its transmission has begun -/
  started : Bool := false
  /-- a bound violation of the copy has been reported (R304) -/
  reported : Bool := false
  /-- close of the window for which the copy has been counted in FIT_WITHHELD (R300) -/
  withheld : Option Nat := none
  /-- transmit timestamp asked for: identifier and time base (R55) -/
  ts : Option (Nat × Nat) := none
  /-- reason code of a copy to port 64 (R358) -/
  reason : Nat := 0
  /-- the bytes of a mirror copy, edited already (R279) -/
  own : Option Bytes := none
  /-- a claim frame of this device (R246) -/
  claim : Bool := false
  /-- collisions of its attempts (R132) -/
  coll : Nat := 0
  deriving DecidableEq, Repr

/-- A buffer profile (R268). -/
structure BufProfile where
  limit : Nat
  alpha : Nat
  mark : Nat
  deriving DecidableEq, Repr

/-- The packet memory (R255 to R285). -/
structure Oasis where
  /-- free cells as ranges, lowest first: first cell, and the cell after the last -/
  free : List (Nat × Nat) := [(0, 196608)]
  chains : List Chain := []
  /-- prefetch queues of clients 0 to 4, next cell first (R258) -/
  prefetch : List (List Nat) := [[], [], [], [], []]
  /-- leaf words of the bitmap that are no longer trusted (R283) -/
  lostWords : List Nat := []
  /-- free buffers of pools 0 to 3, each the list of its cells -/
  pools : List (List (List Nat)) := [[], [], [], []]
  copies : List Copy := []
  nextCopy : Nat := 0
  /-- OAS_ALLOC_RESULT of the host and of the management core (R265) -/
  allocHost : Nat := 0
  allocMgmt : Nat := 0
  /-- buffer profiles of bank 0 and bank 1 (R268), which no register or table reaches (log entry 20) -/
  profiles0 : List BufProfile := []
  profiles1 : List BufProfile := []
  deriving DecidableEq, Repr

/-- Shapers and fair-queueing tags of a queue, a service node or a port (R292, R293). Tokens are in units of
10^-6 byte, `last` in ns of the raw count of TB0. -/
structure Shaped where
  tokC : Int := 0
  tokP : Int := 0
  last : Nat := 0
  s : Nat := 0
  f : Nat := 0
  deriving DecidableEq, Repr

/-- The scheduler's dynamic state (R289 to R302). -/
structure Sched where
  /-- by child: queue q, 20,000 + service node, 30,000 + port; unlisted as after reset -/
  shaped : List (Nat × Shaped) := []
  /-- virtual time by node and level: node × 8 + level -/
  virt : Store := []
  /-- pre-wake votes in force: port × 8 + class (R301) -/
  voting : List Nat := []
  deriving DecidableEq, Repr

/-- A transmission, in progress or preempted (R120, R298). -/
structure Tx where
  copy : Nat
  /-- the frame as it leaves -/
  bytes : Bytes
  /-- it ends with a stomped FCS whatever its bytes turn out to be -/
  stomp : Bool := false
  /-- sent as a preemptable frame -/
  pre : Bool := false
  /-- continuation fragments sent -/
  frags : Nat := 0
  /-- bytes sent before the last preemption, and before each of them, the last first (R130) -/
  sent : Nat := 0
  cuts : List Nat := []
  /-- frame count of its start mPacket (R130) -/
  smd : Nat := 0
  /-- cut at the queue's MAX_SDU (R434) -/
  sduCut : Bool := false
  /-- its gate closes earlier than the fit check foresaw, and a gate overrun of it has been counted (R300) -/
  early : Bool := false
  overran : Bool := false
  /-- corrected egress stamps of this attempt on the counts and raw counts (R48) -/
  cnt : List Nat := []
  raw : List Nat := []
  /-- `clk` at the start of the present fragment -/
  since : Nat := 0
  deriving DecidableEq, Repr

/-- A frame being reassembled (R131). -/
structure Reasm where
  /-- what has been received -/
  bytes : Bytes
  /-- the next fragment count -/
  next : Nat
  /-- identifier of the frame -/
  frame : Nat
  /-- an mPacket of it carried an error of the code or of FEC -/
  code : Bool := false
  deriving DecidableEq, Repr

/-- What a MAC keeps beside its registers (R121 to R136). -/
structure MacState where
  tx : Option Tx := none
  held : Option Tx := none
  /-- received PAUSE or PFC frame that has not taken effect: its time for PAUSE, its vector and times for PFC -/
  pause : Option (Option Nat × Nat × List Nat) := none
  /-- end of the pause of the port (index 8) and of priorities 0 to 7, in `clk` -/
  ends : List Nat := [0, 0, 0, 0, 0, 0, 0, 0, 0]
  /-- start of the unbroken pause that the watchdog measures -/
  since : List Nat := [0, 0, 0, 0, 0, 0, 0, 0, 0]
  holdoffAt : Nat := 0
  /-- `clk` at which a frame was last eligible or in transmission (R127) -/
  busy : Nat := 0
  /-- TW_NS runs (R127) -/
  waking : Bool := false
  /-- verify mPackets sent (R129) -/
  verifies : Nat := 0
  /-- `clk` at the last of them -/
  verifyAt : Nat := 0
  /-- frame count of the next preemptable frame (R130) -/
  smd : Nat := 0
  /-- frame being reassembled -/
  reasm : Option Reasm := none
  /-- the copy whose attempt collided and that waits out its backoff, and `clk` at the backoff's end (R132) -/
  backoff : Option Nat := none
  backoffAt : Nat := 0
  /-- `clk` at the opening of the storm window, its events, and `clk` at which a window of fallback passed the threshold
  (R134, R136) -/
  window : Option Nat := none
  storm : Nat := 0
  passed : Option Nat := none
  /-- `clk` at the last beacon on the segment (R133) -/
  beaconAt : Nat := 0
  /-- `clk` at entry to the lane's present state (R96), and DEEP was entered from ACTIVE or NAP (R109) -/
  laneAt : Nat := 0
  deepUp : Bool := false
  /-- the lanes of a 100GBASE-R port were found too far apart in this stay in LOCK (R104) -/
  skewBad : Bool := false
  /-- `clk` at fallback entry, and at the beacon conflict that bars fallback (R134, R136) -/
  dwellAt : Nat := 0
  barred : Option Nat := none
  deriving DecidableEq, Repr

/-- What the serial lanes keep beside their registers (R94, R101). -/
structure LaneKeep where
  /-- quads whose PLL has lost lock and not recovered (R94) -/
  pllLost : List Nat := []
  /-- lanes whose transmitters hold trained coefficients (R101) -/
  trained : List Nat := []
  deriving DecidableEq, Repr

/-- A heard claim (R246); the stamp is on the raw count of TB0. -/
structure Heard where
  mac : Nat
  claim : Nat
  stamp : Nat
  deriving DecidableEq, Repr

/-- The caravan beside its tables and registers (R230 to R250). -/
structure Caravan where
  /-- raw TB0 ns of the last tick -/
  tick : Nat := 0
  /-- slots that have had the step of the next tick (the tick-phase bits of R219 and R232) -/
  ahead : List Nat := []
  /-- `clk` at the start of the sweep in progress -/
  sweep : Option Nat := none
  /-- number of the last tick or half tick that the caravan has come to, counted in half ticks, and `clk` then; and by slot
  the half tick + 1 of its last probe (R241) -/
  half : Nat := 0
  halfAt : Nat := 0
  probed : Store := []
  /-- a report has been discarded since ring 0, ring 1 was last empty (R234) -/
  overran : List Bool := [false, false]
  heard : List (Option Heard) := [none, none, none, none]
  /-- raw TB0 count at the device's last claim frame (R246) -/
  ownAt : Option Nat := none
  claimSeq : Nat := 0
  yielding : Bool := false
  win : Bool := false
  fwd : Bool := true
  /-- raw TB0 count at entry to claim mode (R247) -/
  silentAt : Option Nat := none
  /-- raw TB0 count at which the device stopped winning in service mode (R247) -/
  dualAt : Option Nat := none
  /-- the last four changes of the forwarding state, newest first, by raw TB0 count (R244) -/
  changes : List (Nat × Bool) := [(0, true)]
  deriving DecidableEq, Repr

/-- A register access that waits for its domain (R324). -/
structure Stalled where
  rq : Requester
  addr : Nat
  /-- the value of a write, none for a read -/
  write : Option Word
  /-- it is one DW with every byte (R350) -/
  whole : Bool
  /-- `clk` at its arrival -/
  since : Nat
  deriving DecidableEq, Repr

/-- A table request that waits for domains it needs to wake (R323, R325). -/
structure WaitingReq where
  op : Nat
  req : TableReq
  doms : List Nat
  deriving DecidableEq, Repr

/-- What the power controller keeps beside its registers (R316 to R331). -/
structure Power where
  /-- GLB_MODE.MODE has been RUN since power-on reset (R316) -/
  ran : Bool := false
  /-- `clk` at the start of each domain's entry or wake -/
  since : List Nat := List.replicate 22 0
  /-- quads in RET in which a lane sees a received signal (R318) -/
  signal : List Nat := []
  /-- an interrupt, NMI or message is pending for the management core (R318) -/
  mgmtEvent : Bool := false
  /-- an NVM transfer is in progress (R318) -/
  nvmBusy : Bool := false
  /-- the caravan holds its vote for a hold check or a probe (R317) -/
  cvnVote : Bool := false
  /-- a JTAG debug request for MGMT stands (R317); no command of the table makes or ends one -/
  jtag : Bool := false
  /-- `clk` at which each domain's idle time runs out, while it counts (R319) -/
  idle : List (Option Nat) := List.replicate 22 none
  /-- state that a domain is entering: 1 RET, 2 OFF (R319) -/
  goal : List Nat := List.replicate 22 0
  /-- the sequence of R328: the ergs whose clocks fall at its start, and those whose clocks rise at its end -/
  falling : List Nat := []
  rising : List Nat := []
  /-- the points to which the sequence in progress brings the ergs (R328) -/
  points : List Nat := [0, 0, 0, 0]
  /-- the regulator has failed and no read-back has reached its target since (R329) -/
  avsBad : Bool := false
  /-- PERF_REQ or PERF_MIN changed during a sequence (R328) -/
  again : Bool := false
  /-- 0 idle, 1 clocks falling, 2 write due, 3 reading back, 4 settling, 5 clocks rising -/
  avs : Nat := 0
  /-- `clk` at the voltage write, and at the start of settling (R329) -/
  avsAt : Nat := 0
  /-- accesses that wait for a wake, oldest first (R324) -/
  stalled : List Stalled := []
  /-- table requests that wait for a wake, oldest first (R323) -/
  waiting : List WaitingReq := []
  /-- waking domains whose block reset acts when the wake completes (R337) -/
  resetLate : List Nat := []
  deriving DecidableEq, Repr

/-- The completion of the last register read (R351). -/
structure ReadDone where
  rq : Requester
  addr : Nat
  /-- it was served; a bus error otherwise -/
  ok : Bool
  value : Nat
  deriving DecidableEq, Repr

/-- The host interface and the pins beside their registers (R344, R346, R359 to R367). -/
structure HostIf where
  /-- the MSI-X function mask -/
  fmask : Bool := false
  /-- vectors in service (R364) -/
  service : List Nat := []
  /-- `clk` + 1 of the last message by vector (R364) -/
  last : Store := []
  /-- `clk` of the completions not acknowledged, oldest first: receive rings 0 to 15, transmit rings 16 to 31, table
  channels 32 to 35 (R363) -/
  done : List (List Nat) := List.replicate 36 []
  /-- the transmit ring whose turn it is (R359) -/
  turn : Nat := 0
  /-- MODE_STRAP and SB_ADDR as sampled (R344, R367) -/
  straps : Nat := 0
  sbAddr : Nat := 0
  /-- pointer of the sideband target (R344) -/
  sbPtr : Nat := 0
  /-- bytes that the sideband target has sent in the last transfer -/
  sbData : Bytes := []
  /-- the register reads that completed in the last command that accessed a register -/
  reads : List ReadDone := []
  /-- the always-on registers as they stood at the last edge of the 32.768 kHz clock, and the writes that wait for the next
  edge (R353) -/
  aoCopy : Store := []
  aoWrites : List (Nat × Nat) := []
  /-- vector 28 is high for a record written to the internal buffer (R407) -/
  pulse : Bool := false
  deriving DecidableEq, Repr

/-- The fault collector beside its registers (R335 to R344, R432). -/
structure Collector where
  /-- records queued with their sequence numbers, the one being written first -/
  queue : List (Nat × Bytes) := []
  /-- sequence number + 1 of the last record of each source (R335) -/
  lastSeq : Store := []
  /-- `clk` at which the watchdog's time began, and the watchdog has expired since (R341) -/
  kickAt : Nat := 0
  expired : Bool := false
  /-- source 1, source 2 has been raised and has not re-armed (R345) -/
  warm : Bool := false
  hot : Bool := false
  deriving DecidableEq, Repr

/-- What holds the device in reset (R416, R421). -/
structure Held where
  /-- VDD_IO18 is below the main POR threshold -/
  mainPor : Bool := false
  sram : Bool := false
  porN : Bool := false
  resetN : Bool := false
  /-- a main loss has not been reported yet (R331) -/
  loss : Bool := false
  /-- the always-on content has been lost on backup (R332) -/
  aoLost : Bool := false
  deriving DecidableEq, Repr

/-- Where a message came from and what its reply repeats of it (R377, R379). -/
structure Asked where
  /-- the request's header -/
  head : Bytes
  /-- ingress port, and the bytes before the message of the frame that carried it; none for the mailbox -/
  via : Option (Nat × Bytes)
  deriving DecidableEq, Repr

/-- An update session (R380, R381). -/
structure Session where
  id : Nat
  kind : Nat
  /-- slot entry of the target, and of the base where there is one -/
  slot : Nat
  base : Nat
  /-- output length, and output written -/
  length : Nat
  written : Nat := 0
  /-- delta bytes received -/
  received : Nat := 0
  /-- output of the last sector, not yet written -/
  tail : Bytes := []
  /-- `clk` of its last message -/
  last : Nat
  deriving DecidableEq, Repr

/-- An activation of a firmware image in progress (R383 to R387). -/
structure Handover where
  /-- slot entry of the image -/
  slot : Nat
  /-- 0 ACTIVATE, 1 the confirmation window has expired, 2 REVERT -/
  cause : Nat
  asked : Option Asked
  /-- the check has passed -/
  passed : Bool := false
  deriving DecidableEq, Repr

/-- A reply that waits for a commit (R388, R389). -/
structure AtCommit where
  asked : Asked
  /-- slot entry of the crest image that becomes ACTIVE -/
  slot : Option Nat
  /-- payload up to the commit instant -/
  payload : Bytes
  deriving DecidableEq, Repr

/-- Loader, update engine and firmware services beside the registers (R367 to R390). -/
structure Boot where
  /-- 0 headers awaited, 1 firmware check, 2 crest sections, 3 first commit awaited, 4 LOAD has ended -/
  stage : Nat := 0
  /-- tables and packet memory are initialised (R373) -/
  ready : Bool := false
  /-- a step of LOAD has been retried (R373) -/
  retried : Bool := false
  /-- a header copy is in use -/
  header : Bool := false
  /-- sections applied, and offset of the next in the image -/
  applied : Nat := 0
  next : Nat := 64
  /-- the firmware services are paused in a handover (R383) -/
  paused : Bool := false
  /-- frames received that carry messages not yet taken (R379) -/
  inband : List (Nat × Bytes) := []
  session : Option Session := none
  handover : Option Handover := none
  atCommit : Option AtCommit := none
  /-- `clk` at the start of the confirmation window (R385) -/
  confirmAt : Option Nat := none
  /-- the image that runs stands in image area B (R384) -/
  areaB : Bool := false
  /-- `clk` at which the services paused -/
  pausedAt : Nat := 0
  deriving DecidableEq, Repr

/-- A frame selected by a dust tracer (R402 to R405). -/
structure Traced where
  /-- identifier of its first pass -/
  root : Nat
  erg : Nat
  /-- selected by FOLLOW -/
  follow : Bool
  /-- raw TB0 count of the corrected ingress stamp -/
  start : Nat
  /-- D1 to D7 in nanoseconds, none where not reached -/
  d : List (Option Nat) := List.replicate 7 none
  /-- the copy followed, and the copies accepted -/
  copy : Option Nat := none
  copies : Nat := 0
  /-- bytes 4 to 23 and 52 to 53 of its record, known when it ends -/
  info : Bytes := []
  outcome : Option Nat := none
  deriving DecidableEq, Repr

/-- Monitor units, dumps, bandwidth and tracers beside their registers (R392 to R408). -/
structure Mon where
  /-- RUN as it is in force (R397) -/
  run : Bool := true
  /-- sync instants to come in raw nanoseconds, with what acts at each: RUN, CLEAR, SNAP (R397) -/
  sync : List (Nat × Bool × Bool × Bool) := []
  /-- cycle counters, and fractions of a cycle in 1/10,000 (R392) -/
  cyc : List Nat := List.replicate 7 0
  frac : List Nat := List.replicate 7 0
  /-- raw nanoseconds of the last periodic snapshot instant -/
  dumpAt : Nat := 0
  /-- records latched and not yet written -/
  record : Option Bytes := none
  /-- the internal buffer (R400) -/
  buffer : Memory := []
  /-- octets received and sent by each port in the present window (R401) -/
  rx : List Nat := List.replicate 69 0
  tx : List Nat := List.replicate 69 0
  /-- raw nanoseconds of the last window end -/
  bwAt : Nat := 0
  /-- LFSRs of the tracers (R402) -/
  lfsr : List Nat := [0, 0, 0, 0]
  /-- ERGS in force -/
  ergs : Nat := 0
  /-- first cells of the S0 buffers that the tracer holds (R404) -/
  cells : List Nat := []
  traced : List Traced := []
  /-- next record sequence number -/
  seq : Nat := 0
  /-- a record has been lost since the ring was last empty (R406) -/
  overran : Bool := false
  deriving DecidableEq, Repr

/-- The whole device. -/
structure State where
  /-- commands that wait, first in first out -/
  pending : List Instr
  /-- immediate registers by BAR0 offset -/
  regs : Store
  /-- staged registers of bank 0 by BAR0 offset -/
  bank0 : Store
  /-- staged registers of bank 1 by BAR0 offset -/
  bank1 : Store
  /-- occurrences of fault sources that the collector has not taken yet -/
  occ : List Occ
  mode : Mode
  /-- RECOVERY was entered from HANDOVER (R30) -/
  recFromHandover : Bool
  /-- the grave latch (R340) -/
  grave : Bool
  time : Time
  crest : Crest
  /-- the main supply is absent and the keeper runs from VBAK (R331) -/
  mainLost : Bool
  /-- number of free values drawn (log entry 2) -/
  draws : Nat
  /-- table entries that have one copy, by table, erg and index -/
  tabs : Store
  /-- banked table entries of bank 0 and of bank 1 -/
  tbank0 : Store
  tbank1 : Store
  /-- frames between their stamp and the end of their last copy (R79) -/
  frames : List Frame
  /-- identifier of the next frame -/
  nextId : Nat
  ergs : List ErgParse
  fwd : List ErgFwd
  /-- the erg whose source queue the learn bus serves next (R172) -/
  busTurn : Nat
  oas : Oasis
  sched : Sched
  macs : List MacState
  lns : LaneKeep
  cvn : Caravan
  /-- bytes the device has written to host memory by DMA (R346) -/
  host : Memory
  /-- bytes the device has written to management-core SRAM (R356) -/
  sram : Memory
  pow : Power
  boot : Boot
  /-- writes of host memory that wait for Bus Master Enable, oldest first (R347) -/
  posted : List (Nat × Bytes)
  mon : Mon
  ifc : HostIf
  flt : Collector
  held : Held
  /-- the memory part on the NVM interface, as board and device have written it (R369) -/
  nvm : Memory
  deriving DecidableEq, Repr

/-- The device right after reset: LOAD, every register at its reset value, nothing listed in any store. -/
def State.reset : State where
  pending := []
  regs := []
  bank0 := []
  bank1 := []
  occ := []
  mode := .load
  recFromHandover := false
  grave := false
  time := {}
  crest := {}
  mainLost := false
  draws := 0
  tabs := []
  tbank0 := []
  tbank1 := []
  frames := []
  nextId := 0
  ergs := List.replicate 4 {}
  fwd := List.replicate 4 {}
  busTurn := 0
  oas := {}
  sched := {}
  macs := List.replicate 69 {}
  lns := {}
  cvn := {}
  host := []
  sram := []
  pow := {}
  boot := {}
  posted := []
  mon := {}
  ifc := {}
  flt := {}
  held := {}
  nvm := []

end Sys2Proof.Machine
end

