-- ==== Sys2Proof/Machine/Ops.lean ====
section
/-! DEFINITION. The named operations every command is made of: reading and writing registers from the inside,
counters, interrupt bits, raising a fault source, and the time bases. -/

namespace Sys2Proof.Machine

/-- Number of a requester in fault data, filters and records. -/
def requesterNum : Requester → Nat
  | .host => 0
  | .mgmt => 1

/-- Registers that are served from copies of the always-on domain (R349, R353): the keeper, the supply and main-loss
registers and the fault log. -/
def aoServed (off : Nat) : Bool :=
  (Nat.ble 0x20200 off && Nat.ble off 0x20214) || off == 0x30008 || (Nat.ble 0x30030 off && Nat.ble off 0x30048) ||
    (Nat.ble 0x48000 off && Nat.ble off 0x4FFFF)

/-- The outcome of a command that the device takes. -/
abbrev Result := Host.Outcome State Fault Refusal

namespace State

/-- Stored value of an immediate register. -/
def reg (s : State) (off : Nat) : Nat := sparseGet regReset off s.regs

/-- Field of an immediate register. -/
def rf (s : State) (off lo w : Nat) : Nat := bits (s.reg off) lo w

/-- Bit of an immediate register. -/
def rbit (s : State) (off i : Nat) : Bool := bit (s.reg off) i

/-- Value of a staged register in a bank (R67). -/
def cfg (s : State) (b : Bool) (off : Nat) : Nat := sparseGet regReset off (if b then s.bank1 else s.bank0)

/-- Field of a staged register in a bank. -/
def cf (s : State) (b : Bool) (off lo w : Nat) : Nat := bits (s.cfg b off) lo w

/-- Bit of a staged register in a bank. -/
def cbit (s : State) (b : Bool) (off i : Nat) : Bool := bit (s.cfg b off) i

/-- An immediate register set from inside the device. -/
def setReg (s : State) (off v : Nat) : State := { s with regs := sparsePut regReset off v s.regs }

/-- A field of an immediate register set from inside the device. -/
def setFld (s : State) (off lo w v : Nat) : State := s.setReg off (setBits (s.reg off) lo w v)

/-- A bit of an immediate register set. -/
def setBit (s : State) (off i : Nat) : State := s.setFld off i 1 1

/-- A bit of an immediate register cleared. -/
def clrBit (s : State) (off i : Nat) : State := s.setFld off i 1 0

/-- A bit of an immediate register set to a truth value. -/
def putBit (s : State) (off i : Nat) (b : Bool) : State := s.setFld off i 1 (b2n b)

/-- A counter field that saturates (R8, the RC counters). -/
def satFld (s : State) (off lo w n : Nat) : State := s.setFld off lo w (satAdd w (s.rf off lo w) n)

/-- A saturating 32-bit counter incremented. -/
def bump (s : State) (off : Nat) : State := s.satFld off 0 32 1

/-- A saturating 32-bit counter increased. -/
def bumpBy (s : State) (off n : Nat) : State := s.satFld off 0 32 n

/-- A counter field that wraps, incremented. -/
def wrapFld (s : State) (off lo w : Nat) : State := s.setFld off lo w (s.rf off lo w + 1)

/-- A staged register written in a bank. -/
def setCfg (s : State) (b : Bool) (off v : Nat) : State :=
  if b then { s with bank1 := sparsePut regReset off v s.bank1 }
  else { s with bank0 := sparsePut regReset off v s.bank0 }

/-- An occurrence goes to the collector, which takes it at FAULT_OCCURRENCE, with the instant and the bank it is synchronised
in (R336, R343). -/
def occur (s : State) (o : Occ) : State := { s with occ := s.occ ++ [{ o with clk := s.time.clk, bank := s.crest.bank }] }

/-- A fault source raised (R336). -/
def raise (s : State) (src : Nat) (d0 d1 d2 d3 : Nat := 0) : State := s.occur { src, d0, d1, d2, d3 }

/-- An operation done where a condition holds. -/
def when (s : State) (c : Bool) (f : State → State) : State := if c then f s else s

/-- An operation done for every element of a list, first element first. -/
def each {α : Type} (s : State) (l : List α) (f : State → α → State) : State := l.foldl f s

end State

/-! ### Monitor events (R392 to R396) -/

/-- What an event carries for the filters of R395: class, queue, privilege bit, master, address. -/
structure Attr where
  cls : Nat := 0
  queue : Nat := 0
  priv : Nat := 0
  master : Nat := 0
  addr : Nat := 0
  deriving DecidableEq, Repr

/-- The attributes of an event of R394: class 1, queue 2, privilege 4, master 8, address 16. -/
def monAttrs (u code : Nat) : Nat :=
  if u < 4 then
    if code ≤ 4 ∨ (7 ≤ code ∧ code ≤ 11) then 1 else if code = 15 then 8 else 0
  else if u = 4 then (if code = 3 ∨ code = 4 then 0 else 3)
  else if u = 5 then 0
  else match code with
    | 1 | 2 | 8 => 28
    | 3 => 24
    | 4 | 5 => 8
    | 7 | 9 => 4
    | _ => 0

namespace State

/-- COUNT of a counter increased, with the wraps it makes (R396). -/
def monAdd (s : State) (u k n : Nat) : State × Nat :=
  let v := s.reg (MON_U_COUNT u k) + n
  (s.setReg (MON_U_COUNT u k) (v % 2 ^ 32), v / 2 ^ 32)

/-- An unchained wrap of a counter (R396). -/
def monWrapped (s : State) (u k w : Nat) : State :=
  if w = 0 then s else
  let s := s.setBit (MON_U_STATUS u) k
  if s.rbit (MON_U_OVF_EN u) k then s.setBit MON_IRQ_STATUS u else s

/-- A counter increased: an even counter with CHAIN carries into the next (R396). -/
def monCount (s : State) (u k n : Nat) : State :=
  match s.monAdd u k n with
  | (s, w) =>
    if s.rbit (MON_U_CTR u k) 9 then
      match s.monAdd u (k + 1) w with
      | (s, w) => s.monWrapped u (k + 1) w
    else s.monWrapped u k w

/-- An event passes the filters of a counter; a filter whose attribute the event lacks is ignored (R395). -/
def monPasses (s : State) (u k code : Nat) (a : Attr) : Bool :=
  let c := s.reg (MON_U_CTR u k)
  let has := monAttrs u code
  let q := s.reg (MON_U_QRANGE u k)
  (!bit has 0 || s.rbit (MON_U_CLASSES u k) a.cls) &&
    (!bit has 1 || !bit c 21 || (Nat.ble (bits q 0 14) a.queue && Nat.ble a.queue (bits q 16 14))) &&
    (!bit has 2 || bit c (10 + a.priv)) && (!bit has 3 || !bit c 13 || bits c 14 6 == a.master) &&
    (!bit has 4 || !bit c 20 || (Nat.ble (s.reg (MON_U_ADDR_FIRST u k)) a.addr && Nat.ble a.addr (s.reg (MON_U_ADDR_LAST u k))))

/-- Counters of a unit that anything has been written to. -/
def monUsed (s : State) (u : Nat) : Bool :=
  s.regs.any fun x => Nat.ble (MON_U_CTR u 0) x.1 && Nat.blt x.1 (MON_U_CTR u 8)

/-- `n` of an event at a monitor unit (R393 to R395); a counter that takes carries counts nothing else, and nothing
advances in SAFE. -/
def event (s : State) (u code n : Nat) (a : Attr := {}) : State :=
  if n = 0 ∨ ¬ s.mon.run ∨ s.mode = .safe ∨ ¬ s.monUsed u then s else
  s.each (List.range 8) fun s k =>
    let c := s.reg (MON_U_CTR u k)
    let carries := k % 2 == 1 && s.rbit (MON_U_CTR u (k - 1)) 9
    if bit c 8 && bits c 0 8 == code && !carries && s.monPasses u k code a then s.monCount u k n else s

/-- Ten-thousandths of a cycle of a unit's clock in 4 ns; 0 where the watched domain is not ON (R327, R392). -/
def monRate (s : State) (u : Nat) : Nat :=
  let on := fun (d : Nat) => s.rf (PWR_D_STATUS d) 0 2 == 0
  if u < 4 then
    if ¬ on (6 + u) then 0
    else match s.rf (PWR_ERG_PERF_STATUS u) 0 2 with
      | 0 => 54000
      | 1 => 40000
      | 2 => 27000
      | _ => 13500
  else if u = 4 then (if on 10 then 48000 else 0)
  else if u = 5 then (if on 11 then 40000 else 0)
  else (if on 3 then 32000 else 0)

/-- Cycle counters, and the events counted per cycle, over `n` cycles of 4 ns (R392, R394); none in reset. -/
def monCycles (s : State) (n : Nat) : State :=
  if ¬ s.mon.run ∨ s.mode = .safe ∨ s.held.mainPor ∨ s.held.sram ∨ s.held.porN ∨ s.held.resetN then s else
  let tot := (List.range 7).map fun u => s.mon.frac.getD u 0 + n * s.monRate u
  let s := { s with mon := { s.mon with
    cyc := (List.range 7).map fun u => (s.mon.cyc.getD u 0 + tot.getD u 0 / 10000) % 2 ^ 64
    frac := tot.map (· % 10000) } }
  s.each (List.range 4) fun s e =>
    let k := tot.getD e 0 / 10000
    let mine := s.frames.filter fun f => f.port / 8 % 4 == e
    let busy := (mine.filter fun f => match f.stage with | .engine _ => true | _ => false).length
    let s := s.event e 5 (busy * k)
    if (s.ergs.getD e {}).paused ∧ 64 ≤ (mine.filter fun f => f.stage == .reorder).length then s.event e 6 k else s

/-- Register-bus cycles with an access stalled on a wake, over `n` cycles of 4 ns (R394). -/
def monStalls (s : State) (n : Nat) : State :=
  match s.pow.stalled with
  | [] => s
  | x :: _ => s.event 6 3 n { master := requesterNum x.rq, addr := x.addr }

end State

/-- One nanosecond in the units of the counts. -/
def nsUnit : Nat := 2 ^ 40

/-- One second in the units of the counts. -/
def secUnit : Nat := 1000000000 * nsUnit

/-- A count of 48-bit seconds wraps (R38). -/
def wrapCount (c : Nat) : Nat := c % (2 ^ 48 * secUnit)

/-- Total nanoseconds of a count (R44). -/
def totalNs (c : Nat) : Nat := c / nsUnit

/-- The 16 visible fraction bits (R38). -/
def frac16 (c : Nat) : Nat := c / 2 ^ 24 % 65536

/-- The top 8 fraction bits, as timestamps carry them (R45). -/
def frac8 (c : Nat) : Nat := c / 2 ^ 32 % 256

/-- Bits [31:0] of the total nanosecond count (R45). -/
def ns32 (c : Nat) : Nat := totalNs c % 2 ^ 32

/-- A count moved by a signed number of units, not below zero. -/
def shiftCount (c : Nat) (d : Int) : Nat := (Int.ofNat c + d).toNat

/-- A 16-bit signed port delay in the units of the counts (R48). -/
def delayUnits (v : Nat) : Int := signed 16 v * 2 ^ 32

/-- A tick of the keeper in 1/64 ns (R61). -/
def keeperTick : Nat := 1953125

namespace State

/-- The count of a time base. -/
def count (s : State) (n : Nat) : Nat := s.time.cnt.getD n 0

/-- The raw count of a time base. -/
def rawCount (s : State) (n : Nat) : Nat := s.time.raw.getD n 0

/-- Signed TRIM of a time base. -/
def trim (s : State) (n : Nat) : Int := signed 32 (s.reg (TMB_TB_TRIM n))

/-- The increment of one time-base clock cycle, 4 ns × (1 + TRIM × 2^-40) (R38). -/
def increment (s : State) (n : Nat) : Nat := (4 * (Int.ofNat nsUnit + s.trim n)).toNat

/-- The keeper's seconds. -/
def keeperSec (s : State) : Nat := s.rf TMB_KEEPER_SEC_HI 0 16 * 2 ^ 32 + s.rf TMB_KEEPER_SEC_LO 0 32

/-- The keeper's content set. -/
def setKeeper (s : State) (sec ticks : Nat) : State :=
  ((s.setFld TMB_KEEPER_SEC_HI 0 16 (sec / 2 ^ 32)).setFld TMB_KEEPER_SEC_LO 0 32 sec).setFld TMB_KEEPER_TICKS 0 15 ticks

/-- The keeper advanced by whole ticks, its accumulator with it (R61, R62). -/
def keeperTicks (s : State) (n : Nat) : State :=
  if n = 0 then s else
  let t := s.rf TMB_KEEPER_TICKS 0 15 + n
  let s := s.setKeeper (s.keeperSec + t / 32768) (t % 32768)
  { s with time := { s.time with acc := s.time.acc + signed 12 (s.reg TMB_KEEPER_CORR) * n } }

/-- Writes of always-on registers are carried at an edge of the 32.768 kHz clock (R353). -/
def aoCarry (s : State) : State :=
  let t := s.each s.ifc.aoWrites fun s x => match findReg x.1 with
    | some (r, _) => s.setReg x.1 (storeWrite r.fields (s.reg x.1) x.2)
    | none => s
  { t with ifc := { t.ifc with aoWrites := [] } }

/-- The copies of the always-on registers are refreshed. -/
def aoRefresh (s : State) : State := { s with ifc := { s.ifc with aoCopy := s.regs.filter fun x => aoServed x.1 } }

/-- `n` edges of the 32.768 kHz clock. -/
def aoEdges (s : State) (n : Nat) : State := if n = 0 then s else (s.aoCarry.keeperTicks n).aoRefresh

/-- A reset that takes the TIME domain is in force (R416, R421). -/
def timeHeld (s : State) : Bool := s.held.mainPor || s.held.sram || s.held.porN

/-- `n` cycles of the time-base clock pass: every count and raw count advances by its trimmed increment unless TIME is in
reset, and the always-on clock runs beside them. -/
def elapse (s : State) (n : Nat) : State :=
  if n = 0 then s else
  let ph := s.time.phase + 256 * n
  let t := { s.time with
    cnt := if s.timeHeld then s.time.cnt else (List.range 4).map fun i => wrapCount (s.count i + n * s.increment i)
    raw := if s.timeHeld then s.time.raw
      else (List.range 4).map fun i => (s.rawCount i + n * s.increment i) % (2 ^ 64 * nsUnit)
    clk := s.time.clk + n
    phase := ph % keeperTick }
  ((({ s with time := t }).aoEdges (ph / keeperTick)).monCycles n).monStalls n

/-- Time passes until a time base reads `target` or later (R76). -/
def elapseTo (s : State) (n target : Nat) : State :=
  if s.count n < target then s.elapse (ceilDiv (target - s.count n) (s.increment n)) else s

/-- Time passes until the raw count of TB0 reads `target` or later (R143). -/
def elapseToRaw (s : State) (target : Nat) : State :=
  if s.rawCount 0 < target then s.elapse (ceilDiv (target - s.rawCount 0) (s.increment 0)) else s

/-- A free value (log entry 2) and the state that has drawn it. -/
def draw (s : State) : Word × State := (Config.freeValue s.draws, { s with draws := s.draws + 1 })

/-- Whether the data plane forwards in this mode (R30). -/
def forwarding (s : State) : Bool :=
  match s.mode with
  | .run | .handover => true
  | .recovery => s.recFromHandover
  | _ => false

end State

end Sys2Proof.Machine
end

