-- ==== Sys2Proof/Machine/Dma.lean ====
section
/-! DEFINITION. Writes by the device into host memory and management-core SRAM (R346, R347, R356). -/

namespace Sys2Proof.Machine

/-- Bytes of management-core SRAM (R356). -/
abbrev sramSize : Nat := 2097152

namespace State

/-- Bus Master Enable (R347). -/
def bme (s : State) : Bool := s.rbit (HST 0x000) 9

/-- Bytes written from an address of SRAM; those beyond its end go nowhere (log entry 23). -/
def sramWrite (s : State) (a : Nat) (b : Bytes) : State := { s with sram := s.sram.writeAll a (b.take (sramSize - a)) }

/-- Bytes written to host memory, at once or when Bus Master Enable is next 1 (R347). -/
def hostWrite (s : State) (a : Nat) (b : Bytes) : State :=
  if s.bme then { s with host := s.host.writeAll (a % 2 ^ 64) b } else { s with posted := s.posted ++ [(a % 2 ^ 64, b)] }

/-- Bytes written where a ring's LOC or DEST says: true for SRAM. -/
def dmaWrite (s : State) (toSram : Bool) (a : Nat) (b : Bytes) : State :=
  if toSram then s.sramWrite a b else s.hostWrite a b

/-- The waiting writes go out (R347). -/
def flushPosted (s : State) : State :=
  { s with posted := [], host := s.posted.foldl (fun m x => m.writeAll x.1 x.2) s.host }

/-- Base address held in a LO and a HI register; HI is ignored for SRAM. -/
def baseAddr (s : State) (lo hi : Nat) (toSram : Bool) : Nat :=
  (s.reg lo + if toSram then 0 else s.reg hi * 2 ^ 32) / 8 * 8

end State

end Sys2Proof.Machine
end

