-- ==== Sys2Proof/Machine/TableMap.lean ====
section
/-! DEFINITION. The tables that table requests reach: number, size, kind and the fields of an entry with their
legal values (R66 and the layouts of each chapter). -/

namespace Sys2Proof.Machine

/-- How a table is stored (R66). -/
inductive TableKind where
  | crested | banked | uncrested | readOnly
  deriving DecidableEq, Repr

/-- A table. -/
structure TableSpec where
  num : Nat
  entries : Nat
  /-- bits of an entry -/
  width : Nat
  perErg : Bool
  kind : TableKind
  /-- digest region, `100` for 10 + e -/
  region : Nat := 100
  deriving DecidableEq, Repr

/-- Fields of a parse node (R158, R150). -/
def nodeFields : List Fld := [rw 0 6 0, rw 6 16 0, rwC 22 4 0 9 15 8, rw 26 8 0, rwC 34 2 0 3 3 2, rw 36 8 0, rw 44 6 0,
  rw 50 3 0, rw 53 8 0, rw 61 4 0, rwC 65 4 0 10 15 0, rw 69 1 0, rwC 70 5 0 24 31 23, rw 75 1 0, rwC 76 5 0 24 31 23,
  rw 81 1 0, rw 82 1 0, rw 83 7 0, rw 90 8 0, rw 126 2 0]

/-- Fields of a parse transition (R159). -/
def transFields : List Fld := [rw 0 16 0, rw 16 16 0, rw 32 8 0, rw 62 2 0]

/-- Fields of a VID entry or a port-default entry of the VLAN table (R163). -/
def vlanFields (i : Nat) : List Fld :=
  if i < 8192 then [rw 0 65 0, rw 65 65 0, rw 130 12 0, rw 142 1 0, rw 143 1 0, rw 144 1 0, rw 145 8 0, rw 153 65 0, rw 254 2 0]
  else [rwR 0 12 0 1 4094, rw 12 3 0, rw 15 1 0, rwC 16 2 0 3 3 0, rw 18 1 0, rw 19 1 0, rw 20 1 0, rw 254 2 0]

/-- Fields of a next hop (R183). -/
def nextHopFields : List Fld := [rw 0 48 0, rw 48 48 0, rw 96 12 0, ⟨108, 7, .rw, 0, .port⟩, rwC 115 2 0 3 3 2, rw 117 1 0, rw 126 2 0]

/-- Fields of a forwarding entry (R165). -/
def fdbFields : List Fld := [rw 0 48 0, rw 48 12 0, rwC 60 2 0 3 3 0, rw 62 2 0, rw 64 14 0, rwC 78 2 0 3 3 2, rw 80 4 0, rw 126 2 0]

/-- Fields of a prefix entry (R178). -/
def prefixFields : List Fld := [rw 0 128 0, rw 128 8 0, rwR 136 8 0 0 128, rw 144 1 0, rw 145 14 0, rw 190 2 0]

/-- Largest handle (R201). -/
abbrev maxHandle : Nat := 5242879

/-- Fields of an express entry (R196). -/
def expressFields : List Fld := [rw 0 4 0, rw 4 48 0, rw 52 12 0, rw 64 1 0, ⟨65, 7, .rw, 0, .port⟩, rw 72 3 0, rw 75 1 0,
  rwR 76 24 0 0 maxHandle, rw 100 2 0, rw 102 1 0, rw 103 1 0, rw 104 9 0, rw 190 2 0]

/-- Fields of a rule (R201). -/
def ruleFields : List Fld := [rw 0 640 0, rw 640 640 0, rwC 1280 3 0 5 7 1, rw 1283 1 0, rw 1284 1 0, rw 1285 14 0,
  rw 1299 1 0, rw 1300 3 0, rw 1303 1 0, rwR 1304 13 0 512 8191, rw 1317 8 0, rwC 1325 4 0 10 15 0, rw 1329 1 0,
  rwR 1330 24 0 0 maxHandle, rw 1354 2 0, rw 1356 1 0, rw 1357 14 0, rw 1371 1 0, rw 1406 2 0]

/-- Fields of a handle map entry (R204). -/
def handleMapFields : List Fld := [rwC 0 2 0 3 3 0, rw 2 314 0, rwR 316 24 0 0 maxHandle, rw 340 2 0, rw 342 1 0, rw 343 14 0,
  rw 382 2 0]

/-- Fields of a range method entry (R205). -/
def rangeFields : List Fld := [rw 0 128 0, rw 128 8 0, rwR 136 8 0 0 128, rw 144 1 0, rw 145 1 0, rwC 146 4 0 10 15 3, rw 150 7 0,
  rw 157 4 0, rw 161 16 0, rw 177 24 0, rw 201 2 0, rw 203 1 0, rw 204 14 0, rw 254 2 0]

/-- Fields of a stream filter (R207). -/
def filterFields : List Fld := [rwR 0 14 0 0 10240, rw 14 1 0, rw 15 1 0, rw 16 8 0, rw 24 1 0, rwR 25 13 0 512 8191, rw 62 2 0]

/-- Fields of a filter state entry (R207). -/
def filterStateFields : List Fld := [rw 0 196 0]

/-- Fields of a meter's state (R211). -/
def meterStateFields : List Fld := [rw 0 152 0]

/-- Fields of a stream gate (R208). -/
def gateFields : List Fld := [rw 0 2 0, rw 2 48 0, rwR 50 30 0 0 999999999, ⟨80, 30, .rw, 0, .mul8 8 1000000000⟩, rw 110 12 0,
  rwR 122 7 0 0 64, rw 190 2 0]

/-- Fields of a gate list entry (R208). -/
def gateListFields : List Fld := [rw 0 1 0, rw 1 1 0, rw 2 3 0, ⟨5, 30, .rw, 0, .mul8 8 999999992⟩, rw 62 2 0]

/-- Fields of a meter's parameters (R211). -/
def meterFields : List Fld := [rwC 0 2 0 3 3 0, rw 2 3 0, rwR 5 24 0 0 12500000, rwR 29 24 0 0 12500000, rw 53 24 0, rw 77 24 0,
  rw 101 26 0]

/-- Fields of a mirror session (R214). -/
def mirrorFields : List Fld := [⟨0, 7, .rw, 0, .port⟩, rw 7 1 0, rw 8 12 0, rw 20 3 0, rw 23 3 0, rw 26 1 0, rwR 27 14 0 64 10240,
  rw 41 69 0, rw 110 69 0, rw 254 2 0]

/-- Fields of a stream profile (R252). -/
def profileFields : List Fld := [rw 0 3 0, rwC 3 3 0 5 7 0, rw 6 2 0, rw 8 8 0, rw 16 5 0]

/-- Fields of a hold entry (R253). -/
def holdFields : List Fld := [rw 0 24 0, rwR 24 20 0 1 1000000, rw 44 16 0, rwR 60 8 0 1 255, ⟨68, 7, .rw, 0, .port⟩, rw 75 1 0,
  rw 126 2 0]

/-- The fields of a hold state entry that a WRITE changes: ACTIVE_PATH and HOLDS (R251, R253). -/
def holdStateFields : List Fld := [rw 19 1 0, rw 20 8 0]

/-- Fields of a multicast group (R271). -/
def groupFields : List Fld := [rw 0 65 0, rw 126 2 0]

/-- Fields of a sequence generator entry (R278). -/
def seqGenFields : List Fld := [rw 0 24 0, rw 62 2 0]

/-- Fields of a queue scheduling entry (R309). -/
def queueFields : List Fld := [rw 0 10 0, rw 10 3 0, rwR 13 12 0 1 4095, rwR 25 24 0 0 12500000, rwR 49 24 0 0 12500000, rw 73 18 0,
  rw 91 18 0, rw 109 3 0, rw 112 14 0]

/-- Fields of a service node (R310). -/
def nodeSchedFields : List Fld := [⟨0, 7, .rw, 0, .port⟩, rw 7 3 0, rwR 10 12 0 1 4095, rwR 22 24 0 0 12500000,
  rwR 46 24 0 0 12500000, rw 70 18 0, rw 88 18 0]

/-- Fields of a subscriber map entry (R311). -/
def subMapFields : List Fld := [⟨0, 7, .rw, 0, .port⟩, rw 7 12 0, rw 19 3 0, rwR 22 14 0 552 16383, rw 62 2 0]

/-- Fields of a gate control list entry (R312). -/
def gclFields : List Fld := [rw 0 8 0, ⟨8, 30, .rw, 0, .mul8 8 1000000000⟩, rw 62 2 0]

/-- Fields of a reservation (R311). -/
def rsvFields : List Fld := [rw 0 36 0, rw 62 2 0]

/-- The tables of the device in ascending number (R158, R159, R163, R164, R178, R181, R183, R216, R251, R285, R308). -/
def tableSpecs : List TableSpec := [
  ⟨0x01, 256, 128, true, .crested, 100⟩, ⟨0x02, 2048, 64, true, .crested, 100⟩,
  ⟨0x10, 131136, 128, true, .crested, 100⟩, ⟨0x11, 8228, 256, true, .crested, 100⟩,
  ⟨0x12, 131072, 192, true, .crested, 100⟩, ⟨0x13, 16384, 128, false, .crested, 14⟩,
  ⟨0x14, 98304, 16, true, .readOnly, 200⟩,
  ⟨0x20, 1024, 192, true, .crested, 100⟩, ⟨0x21, 4096, 1408, true, .crested, 100⟩,
  ⟨0x22, 65536, 384, true, .crested, 100⟩, ⟨0x23, 4096, 256, true, .crested, 100⟩,
  ⟨0x24, 16384, 64, false, .crested, 16⟩, ⟨0x25, 16384, 256, false, .uncrested, 200⟩,
  ⟨0x26, 256, 192, false, .crested, 16⟩, ⟨0x27, 4096, 64, false, .crested, 16⟩,
  ⟨0x28, 8192, 128, true, .banked, 100⟩, ⟨0x29, 8192, 192, true, .uncrested, 200⟩,
  ⟨0x2A, 4096, 128, true, .uncrested, 200⟩, ⟨0x2B, 8, 256, false, .crested, 14⟩] ++ [
  ⟨0x30, 5242880, 32, false, .uncrested, 200⟩, ⟨0x31, 64, 64, false, .banked, 15⟩,
  ⟨0x32, 8192, 128, false, .crested, 15⟩, ⟨0x33, 8192, 128, false, .uncrested, 200⟩,
  ⟨0x40, 16384, 32, false, .banked, 14⟩, ⟨0x41, 16384, 128, false, .crested, 14⟩,
  ⟨0x42, 4096, 32, false, .banked, 14⟩, ⟨0x43, 16384, 64, false, .crested, 14⟩,
  ⟨0x44, 16384, 32, false, .uncrested, 200⟩, ⟨0x45, 16384, 128, false, .uncrested, 200⟩,
  ⟨0x46, 4096, 32, false, .readOnly, 200⟩,
  ⟨0x50, 16384, 128, false, .banked, 16⟩, ⟨0x51, 1024, 128, false, .banked, 16⟩,
  ⟨0x52, 16384, 64, false, .crested, 16⟩, ⟨0x53, 34816, 64, false, .crested, 16⟩,
  ⟨0x54, 4096, 64, false, .crested, 16⟩, ⟨0x55, 4096, 32, false, .banked, 16⟩,
  ⟨0x56, 4096, 64, false, .uncrested, 200⟩]

/-- The table of a number. -/
def tableSpec (t : Nat) : Option TableSpec := tableSpecs.find? fun x => x.num == t

/-- The fields of entry `i` of a table. -/
def tableFields (t i : Nat) : List Fld :=
  match t with
  | 0x01 => nodeFields
  | 0x02 => transFields
  | 0x10 => fdbFields
  | 0x11 => vlanFields i
  | 0x12 => prefixFields
  | 0x13 => nextHopFields
  | 0x20 => expressFields
  | 0x21 => ruleFields
  | 0x22 => handleMapFields
  | 0x23 => rangeFields
  | 0x24 => filterFields
  | 0x25 => filterStateFields
  | 0x26 => gateFields
  | 0x27 => gateListFields
  | 0x28 => meterFields
  | 0x29 => meterStateFields
  | 0x2A => [rw 0 128 0]
  | 0x2B => mirrorFields
  | 0x30 => [rw 0 32 0]
  | 0x31 => profileFields
  | 0x32 => holdFields
  | 0x33 => holdStateFields
  | 0x40 => [rw 0 6 0]
  | 0x41 => groupFields
  | 0x42 => [rwR 0 18 0 0 65536]
  | 0x43 => seqGenFields
  | 0x44 => [rw 0 16 0]
  | 0x45 => [rw 0 128 0]
  | 0x50 => queueFields
  | 0x51 => nodeSchedFields
  | 0x52 => subMapFields
  | 0x53 => gclFields
  | 0x54 => rsvFields
  | 0x55 => [rwR 0 27 0 0 100000000]
  | 0x56 => [rw 0 59 0]
  | _ => []

/-- A 14-bit destination that names a port or a group: a port keeps 7 bits and stores reserved numbers as 127 (R16). -/
def storeDest (v lo : Nat) (group : Bool) : Nat :=
  if group then v else setBits v lo 14 (Clamp.port.apply 7 (bits v lo 7))

/-- A prefix with LEN held within its family and the bits beyond it 0 (R178). -/
def storePrefix (v : Nat) : Nat :=
  let six := bit v 144
  let len := if six then bits v 136 8 else min 32 (bits v 136 8)
  let w := if six then 128 else 32
  setBits (setBits v 136 8 len) 0 128 (bits v 0 w / 2 ^ (w - len) * 2 ^ (w - len))

/-- What a write of `v` over entry `i` of a table stores (R10 and the layouts). AGE of a static forwarding entry reads
15 (R165), MAX_SDU below 64 other than 0 is 64 (R309), ANCHOR 0 of the range method is 3 (R205). -/
def tableStore (t i old v : Nat) : Nat :=
  let v := storeWrite (tableFields t i) (if t = 0x33 then old else 0) v
  match t with
  | 0x10 =>
    let v := if bits v 62 2 = 0 then storeDest v 64 false else v
    if bits v 60 2 = 2 then setBits v 80 4 15 else setBits v 126 2 0
  | 0x12 => storePrefix v
  | 0x21 => storeDest v 1285 (bit v 1284)
  | 0x23 => if bits v 146 4 = 0 then setBits (storePrefix v) 146 4 3 else storePrefix v
  | 0x50 =>
    let n := bits v 112 14
    setBits v 112 14 (if n = 0 then 0 else clampNat 64 10240 n)
  | _ => v

/-- An entry as the digest and the shadow hold it: without V0, V1 and hardware-kept fields (R83, R190). -/
def tableContent (t w v : Nat) : Nat := if t = 0x10 then setBits (v % 2 ^ (w - 2)) 80 4 0 else v % 2 ^ (w - 2)

end Sys2Proof.Machine
end

