-- ==== Sys2Proof/Machine/Parse.lean ====
section
/-! DEFINITION. The parse graph walk (R147 to R152), as a function of the frame's bytes and the two tables. -/

namespace Sys2Proof.Machine

/-- Hardware flags of the flag vector (R151). -/
abbrev flagSecondPass : Nat := 24
abbrev flagDepthExceeded : Nat := 25
abbrev flagWindowEnd : Nat := 26
abbrev flagLenErr : Nat := 27
abbrev flagPadded : Nat := 28
abbrev flagNodeMiss : Nat := 29

/-- A flag of a parse result. -/
def ParseResult.flag (r : ParseResult) (i : Nat) : Bool := r.flags.testBit i

/-- A flag set. -/
def ParseResult.set (r : ParseResult) (i : Nat) : ParseResult := { r with flags := r.flags ||| 2 ^ i }

/-- An anchor. -/
def ParseResult.anchor (r : ParseResult) (l : Nat) : Option Nat := r.anchors.getD l none

/-- LAYER names an anchor that the first node to set it keeps (R150). -/
def ParseResult.mark (r : ParseResult) (l h : Nat) : ParseResult :=
  if l ≠ 0 ∧ r.anchor l = none then { r with anchors := r.anchors.set l (some h) } else r

/-- Fixed-meaning flags count only with their anchor (R152): IP4 and IP6 with L3, UDP and TCP with L4, PTP_EVENT
with APP, the stream tags with STAG. -/
def ParseResult.fixed (r : ParseResult) (i : Nat) : Option Nat :=
  if r.flag i then r.anchor (if i < 2 then 3 else if i < 4 then 4 else if i = 4 then 9 else 2) else none

/-- Outcome of `readable` (R147). -/
inductive Readable where
  | yes | lenErr | window
  deriving DecidableEq, Repr

/-- `k` bytes from `x` can be read inside the claimed bytes and the window (R147). -/
def readable (lim : Nat) (x : Int) (k : Nat) : Readable :=
  if x < 0 ∨ (lim : Int) < x + k then .lenErr else if 192 < x + k then .window else .yes

/-- A read that failed sets its flag (R147). -/
def ParseResult.refuse (r : ParseResult) : Readable → ParseResult
  | .lenErr => r.set flagLenErr
  | .window => r.set flagWindowEnd
  | .yes => r

/-- What a visit to one node leads to. -/
inductive Visit where
  | stop (r : ParseResult)
  | go (node h lim : Nat) (r : ParseResult)
  deriving DecidableEq, Repr

/-- A node's transitions in order: the first valid one that matches, else the default (R147). -/
def nextNode (trans : Nat → Option Nat) (n v : Nat) : Nat → Nat → Nat
  | 0, _ => bits n 26 8
  | k + 1, i =>
    match trans i with
    | some t => if (v ^^^ bits t 0 16) &&& bits t 16 16 = 0 then bits t 32 8 else nextNode trans n v k (i + 1)
    | none => nextNode trans n v k (i + 1)

/-- The length check of a node (R147): the claimed bytes afterwards and the header's own extent, or the end of the
walk. -/
def lengthCheck (bytes : Bytes) (n h lim : Nat) (r : ParseResult) : Except ParseResult (Nat × Option Nat × ParseResult) :=
  if ¬ bit n 82 then .ok (lim, none, r) else
  let x := (h : Int) + signed 7 (bits n 83 7)
  match readable lim x 2 with
  | .yes =>
    let e := be16 bytes x.toNat + bits n 90 8
    if lim < h + e then .error (r.set flagLenErr)
    else if h + e < lim then .ok (h + e, some e, r.set flagPadded)
    else .ok (lim, some e, r)
  | f => .error (r.refuse f)

/-- The advance of a node: fixed, or scaled by a field of a length byte (R147). -/
def advance (bytes : Bytes) (n h lim : Nat) (r : ParseResult) : Except ParseResult Nat :=
  if bits n 34 2 = 1 then
    let x := h + bits n 44 6
    match readable lim x 1 with
    | .yes => .ok (bits n 36 8 + (((byteAt bytes x).toNat >>> bits n 50 3) &&& bits n 53 8) * bits n 61 4)
    | f => .error (r.refuse f)
  else .ok (bits n 36 8)

/-- One visit of the walk, after the checks of depth, validity, claimed bytes and window (R147). -/
def visitNode (trans : Nat → Option Nat) (bytes : Bytes) (n node h lim : Nat) (r : ParseResult) : Visit :=
  let r := { r with visits := r.visits + 1, last := node }
  let r := r.mark (bits n 65 4) h
  let r := if bit n 69 then { r with tags := min 7 (r.tags + 1) } else r
  let r := if bit n 75 then r.set (bits n 70 5) else r
  let r := if bit n 81 then r.set (bits n 76 5) else r
  match lengthCheck bytes n h lim r with
  | .error r => .stop { r with fin := h, lim }
  | .ok (lim, e, r) =>
    if bits n 34 2 = 2 then .stop { r with fin := h, lim } else
    match advance bytes n h lim r with
    | .error r => .stop { r with fin := h, lim }
    | .ok a =>
      if e.any (· < a) ∨ lim < h + a then .stop { r.set flagLenErr with fin := h, lim }
      else match readable lim (h + bits n 0 6 : Nat) 2 with
        | .yes =>
          let v := be16 bytes (h + bits n 0 6) &&& bits n 6 16
          .go (nextNode trans n v (bits n 22 4) (8 * node)) (h + a) lim r
        | f => .stop { r.refuse f with fin := h, lim }

/-- The walk (R147): `nodes` and `trans` answer an entry where it is valid in the frame's bank; at most `depth`
nodes are visited. -/
def walk (nodes trans : Nat → Option Nat) (bytes : Bytes) : Nat → Nat → Nat → Nat → ParseResult → ParseResult
  | 0, _, h, lim, r => { r.set flagDepthExceeded with fin := h, lim }
  | d + 1, node, h, lim, r =>
    match nodes node with
    | none => { r.set flagNodeMiss with fin := h, lim }
    | some n =>
      if lim ≤ h then { r.set flagLenErr with fin := h, lim }
      else if 192 ≤ h then { r.set flagWindowEnd with fin := h, lim }
      else match visitNode trans bytes n node h lim r with
        | .stop r => r
        | .go node h lim r => walk nodes trans bytes d node h lim r

end Sys2Proof.Machine
end

