-- ==== Sys2Proof/Machine/Tables.lean ====
section
/-! DEFINITION. Reading and writing table entries from the inside (R66, R67). -/

namespace Sys2Proof.Machine

/-- Key of slot `i` of table `t` in erg `e`; device tables use erg 4. -/
def tableKey (t e i : Nat) : Nat := (t * 8 + e) * 2 ^ 24 + i

/-- What an entry that nothing has written holds: 0 written and clamped (R308); the LEVEL of class queue 8p + k of
table 0x0050 is k. The least WEIGHT is 1, the least QUEUE of the subscriber map 552, the least interval of a gate list 8 ns. -/
def tableReset (k : Nat) : Nat :=
  if k / 2 ^ 27 = 0x50 then (if k % 2 ^ 24 < 552 then k % 8 * 2 ^ 10 else 0) + 2 ^ 13
  else if k / 2 ^ 27 = 0x51 then 2 ^ 10
  else if k / 2 ^ 27 = 0x52 then 552 * 2 ^ 22
  else if k / 2 ^ 27 = 0x53 then 8 * 2 ^ 8
  else 0

namespace State

/-- Entry of a table with one copy. -/
def tab (s : State) (t e i : Nat) : Nat := sparseGet tableReset (tableKey t e i) s.tabs

/-- Banked entry. -/
def tabB (s : State) (b : Bool) (t i : Nat) : Nat :=
  sparseGet tableReset (tableKey t 4 i) (if b then s.tbank1 else s.tbank0)

/-- Banked entry of an erg. -/
def tabBE (s : State) (b : Bool) (t e i : Nat) : Nat :=
  sparseGet tableReset (tableKey t e i) (if b then s.tbank1 else s.tbank0)

/-- Entry of a table with one copy replaced. -/
def setTab (s : State) (t e i v : Nat) : State := { s with tabs := sparsePut tableReset (tableKey t e i) v s.tabs }

/-- Banked entry replaced. -/
def setTabB (s : State) (b : Bool) (t e i v : Nat) : State :=
  if b then { s with tbank1 := sparsePut tableReset (tableKey t e i) v s.tbank1 }
  else { s with tbank0 := sparsePut tableReset (tableKey t e i) v s.tbank0 }

/-- The slots of a table that hold something, in ascending index order. -/
def listed (s : State) (t e : Nat) : List (Nat × Nat) :=
  (s.tabs.filter fun x => x.1 / 2 ^ 24 = t * 8 + e).map fun x => (x.1 % 2 ^ 24, x.2)

end State

/-- An entry of `w` bits is valid in a bank: V0 and V1 are its two highest bits (R67). -/
def validIn (w : Nat) (b : Bool) (v : Nat) : Bool := bit v (w - 2 + b2n b)

namespace State

/-- A crested entry where it is valid in the bank. -/
def crested (s : State) (b : Bool) (t e i w : Nat) : Option Nat :=
  let v := s.tab t e i
  if validIn w b v then some v else none

end State

/-- The erg that owns a port (R18). -/
def ergOf (p : Nat) : Nat := if p < 32 then p / 8 else if p < 64 then (p - 32) / 8 else if p = 64 then 0 else p - 65

/-- Index k of a port in ERG_PRS_PORTk (R160). -/
def portIndex (p : Nat) : Nat :=
  if p < 32 then p % 8 else if p < 64 then 8 + p % 8 else if p = 64 then 17 else 16

/-- Port of index k in erg `e` (R160). -/
def portAt (e k : Nat) : Nat := if k < 8 then 8 * e + k else if k < 16 then 32 + 8 * e + (k - 8) else if k = 16 then 65 + e else 64

/-- A port exists for a decision (R15, R17). -/
def State.portExists (s : State) (b : Bool) (p : Nat) : Bool :=
  if p < 32 then !(s.cbit b (LNE_QUAD_CFG (p / 4)) 0) || p % 4 == 0 else p < 65

end Sys2Proof.Machine
end

