-- ==== Sys2Proof/Machine/Forward.lean ====
section
/-! DEFINITION. Forwarding: the VLAN, forwarding, prefix and next-hop tables and the resolution of a frame's
destination (R161 to R184), learning, the learn bus and aging (R166 to R176). -/

namespace Sys2Proof.Machine

abbrev tblFdb : Nat := 0x10
abbrev tblVlan : Nat := 0x11
abbrev tblPrefix : Nat := 0x12
abbrev tblNextHop : Nat := 0x13
abbrev tblBloom : Nat := 0x14

/-! ### VLAN table (R163) -/

namespace State

/-- The entry in slot 0 or slot 1 that is valid in the bank, slot 0 first. -/
def twoSlots (s : State) (b : Bool) (e i j : Nat) : Option Nat :=
  match s.crested b tblVlan e i 256 with
  | some v => some v
  | none => s.crested b tblVlan e j 256

/-- Entry of a VID; VID 0 and 4,095 are never read. -/
def vlan (s : State) (b : Bool) (e vid : Nat) : Option Nat :=
  if vid = 0 ∨ vid = 4095 then none else s.twoSlots b e vid (4096 + vid)

/-- Defaults of port index `k`. -/
def portDefault (s : State) (b : Bool) (e k : Nat) : Option Nat :=
  if k = 16 then none else s.twoSlots b e (8192 + 2 * k) (8193 + 2 * k)

end State

/-- Port `p` is a member of a VLAN. -/
def vlanMember (v p : Nat) : Bool := bit v p
/-- Frames leave port `p` without the outer tag. -/
def vlanUntag (v p : Nat) : Bool := bit v (65 + p)
/-- Port `p` is blocked in a VLAN. -/
def vlanBlock (v p : Nat) : Bool := bit v (153 + p)
/-- Port `p` may send frames of the VLAN. -/
def vlanSends (v p : Nat) : Bool := vlanMember v p && !vlanBlock v p

/-! ### Forwarding table (R164 to R170) -/

/-- KIND of a forwarding entry: 1 learned, 2 static. -/
def fdbKind (x : Nat) : Nat := bits x 60 2
/-- FID and address, the key of a forwarding entry. -/
def fdbKey (x : Nat) : Nat := bits x 0 60
/-- Port of a forwarding entry of DEST_TYPE 0. -/
def fdbPort (x : Nat) : Nat := bits x 64 7
/-- A static entry with either flag set. -/
def fdbStatic (x : Nat) : Bool := fdbKind x == 2 && bits x 126 2 != 0
/-- A slot that a placement may take: free, or static with both flags 0 (R72). -/
def fdbFree (x : Nat) : Bool := fdbKind x != 1 && !fdbStatic x

/-- A learned entry of AGE 15 (R165). -/
def learnedEntry (fid mac port : Nat) : Nat := mac + fid * 2 ^ 48 + 2 ^ 60 + port * 2 ^ 64 + 15 * 2 ^ 80

/-- Candidate bucket of a key in T0 or T1 (R164). -/
def fdbHash (t fid mac : Nat) : Nat :=
  crc32cInit (if t = 0 then 0xFFFFFFFF else 0x0F0F0F0F) (beBytes 6 mac ++ leBytes 2 fid) % 2 ^ 14

/-- Slots of a bucket. -/
def fdbBucket (t bucket : Nat) : List Nat := (List.range 4).map fun w => t * 65536 + bucket * 4 + w

/-- The eight candidate slots of a key, T0 before T1. -/
def fdbCandidates (fid mac : Nat) : List Nat := fdbBucket 0 (fdbHash 0 fid mac) ++ fdbBucket 1 (fdbHash 1 fid mac)

/-- The stash slots. -/
def fdbStash : List Nat := (List.range 64).map (131072 + ·)

/-- Granule of a slot (R187). -/
def granule (slot : Nat) : Nat := if slot < 65536 then slot / 1024 else if slot < 131072 then 64 + (slot - 65536) / 1024 else 128

namespace State

/-- Forwarding entry of a slot. -/
def fdb (s : State) (e i : Nat) : Nat := s.tab tblFdb e i

/-- A forwarding entry replaced. -/
def setFdb (s : State) (e i v : Nat) : State := s.setTab tblFdb e i v

/-- The slots that hold a key, lowest first. -/
def fdbFind (s : State) (e fid mac : Nat) : List (Nat × Nat) :=
  (s.listed tblFdb e).filter fun x => fdbKey x.2 = mac + fid * 2 ^ 48

/-- Lookup (R166): a static entry valid in the bank, else a learned one. -/
def fdbLookup (s : State) (b : Bool) (e fid mac : Nat) : Option (Nat × Nat) :=
  let m := s.fdbFind e fid mac
  match m.find? fun x => fdbKind x.2 == 2 && validIn 128 b x.2 with
  | some x => some x
  | none => m.find? fun x => fdbKind x.2 == 1

/-- The victim of a kick: the first learned way in rotation that is not on the path (R168). -/
def kickVictim (s : State) (e : Nat) (bucket path : List Nat) (k : Nat) : Option Nat :=
  ((List.range 4).map fun j => bucket.getD ((k + j) % 4) 0).find? fun i =>
    fdbKind (s.fdb e i) == 1 && !path.contains i

/-- The search for a path of at most eight kicks (R168): the victims' slots in order and the free slot at its end. -/
def kickPath (s : State) (e : Nat) : Nat → Nat → List Nat → List Nat → Option (List Nat × Nat)
  | 0, _, _, _ => none
  | f + 1, k, bucket, path =>
    match s.kickVictim e bucket path k with
    | none => none
    | some i =>
      let x := s.fdb e i
      let t := if i < 65536 then 1 else 0
      let other := fdbBucket t (fdbHash t (bits x 48 12) (bits x 0 48))
      match other.find? fun j => fdbFree (s.fdb e j) with
      | some j => some (path ++ [i], j)
      | none => s.kickPath e f (k + 1) other (path ++ [i])

/-- Where a learned insertion goes (R168): the victims it moves and the slot at the end; none where it fails. -/
def insertPlan (s : State) (e fid mac : Nat) : Option (List Nat × Nat) :=
  match (fdbCandidates fid mac).find? fun i => fdbFree (s.fdb e i) with
  | some i => some ([], i)
  | none =>
    match s.kickPath e 8 0 (fdbBucket 0 (fdbHash 0 fid mac)) [] with
    | some p => some p
    | none =>
      match fdbStash.find? fun i => fdbFree (s.fdb e i) with
      | some i => some ([], i)
      | none => none

/-- The moves of a path, from its far end, then the new entry (R168). -/
def placeAlong (s : State) (e : Nat) : List Nat → Nat → Nat → State
  | [], slot, x => s.setFdb e slot x
  | i :: r, slot, x =>
    let s := s.placeAlong e r slot (s.fdb e i)
    s.setFdb e i x

/-- A learned entry placed as planned; each moved entry counts in RELOCATIONS. -/
def placePlan (s : State) (e x : Nat) (p : List Nat × Nat) : State :=
  (s.placeAlong e p.1 p.2 x).bumpBy (ERG_FWD_RELOCATIONS e) p.1.length

/-- A failed learned insertion (R169). -/
def insertFail (s : State) (e : Nat) : State :=
  ((s.bump (ERG_FWD_INSERT_FAIL e)).setBit (ERG_FWD_IRQ_STATUS e) 0).raise 35 e

/-- A learned entry that a static entry displaced is reinserted, or deleted and counted (R167). -/
def reinsert (s : State) (e x : Nat) : State :=
  match s.insertPlan e (bits x 48 12) (bits x 0 48) with
  | some p => s.placePlan e x p
  | none => s.bump (ERG_FWD_LEARNED_EVICTED e)

/-- A static entry placed (R167): the state, and the slot unless the table is full. -/
def insertStatic (s : State) (e x : Nat) : State × Option Nat :=
  let free := fun i => !fdbStatic (s.fdb e i)
  match (fdbCandidates (bits x 48 12) (bits x 0 48) ++ fdbStash).find? free with
  | none => (s, none)
  | some i =>
    let old := s.fdb e i
    let s := s.setFdb e i x
    (if fdbKind old = 1 then s.reinsert e old else s, some i)

/-! ### Learning (R171 to R174) -/

/-- Learning state of an erg. -/
def fw (s : State) (e : Nat) : ErgFwd := s.fwd.getD e {}

/-- Learning state of an erg replaced. -/
def setFw (s : State) (e : Nat) (f : ErgFwd) : State := { s with fwd := s.fwd.set e f }

/-- An event goes to the source queue, unless an equal one was sent within the last 1 ms or the queue is full
(R171, R172). -/
def sendEvent (s : State) (e : Nat) (ev : LearnEvent) : State :=
  let f := s.fw e
  if f.recent.any fun r => r.1 == ev && decide (s.time.clk - r.2 < 250000) then s
  else if 64 ≤ f.source.length then (s.bump (ERG_FWD_LEARN_SRC_DROPS e)).setBit (ERG_FWD_IRQ_STATUS e) 5
  else s.setFw e { f with source := f.source ++ [ev], recent := ((ev, s.time.clk) :: f.recent).take 16 }

/-- The learn check of a source address seen on port `p` (R171). -/
def learnCheck (s : State) (b : Bool) (e fid mac p : Nat) (moveEn : Bool) : State :=
  match s.fdbLookup b e fid mac with
  | none => s.sendEvent e { fid, mac, port := p, kind := 0 }
  | some (i, x) =>
    if fdbKind x = 2 then s.when (decide (bits x 62 2 ≠ 0 ∨ fdbPort x ≠ p)) fun s => s.bump (ERG_FWD_STATIC_PROTECTED e)
    else if fdbPort x = p then
      let old := bits x 80 4
      let s := s.setFdb e i (setBits x 80 4 15)
      if old ≤ s.rf (ERG_FWD_AGE e) 16 4 then s.sendEvent e { fid, mac, port := p, kind := 1 } else s
    else if moveEn then s.sendEvent e { fid, mac, port := p, kind := 2 }
    else s.bump (ERG_FWD_MOVE_BLOCKED e)

/-- Tokens missing from an erg's bucket now (R172): RATE events per millisecond flow back in. -/
def learnDeficit (s : State) (e : Nat) : Nat :=
  (s.fw e).deficit - s.rf (ERG_FWD_LEARN_RATE e) 0 16 * (s.time.clk - (s.fw e).deficitAt)

/-- The source queue of an erg may send an event (R172). -/
def mayLearn (s : State) (e : Nat) : Bool :=
  !(s.fw e).source.isEmpty &&
    (s.rf (ERG_FWD_LEARN_RATE e) 0 16 == 0 ||
      decide (s.learnDeficit e + 250000 ≤ s.rf (ERG_FWD_LEARN_RATE e) 16 8 * 250000))

/-- An event reaches an erg's inbound queue, or finds it full (R173). -/
def receiveEvent (s : State) (ev : LearnEvent) (e : Nat) : State :=
  let f := s.fw e
  if 256 ≤ f.inbound.length then (s.bump (ERG_FWD_LEARN_QUEUE_DROPS e)).setBit (ERG_FWD_IRQ_STATUS e) 1
  else s.setFw e { f with inbound := f.inbound ++ [ev] }

/-- The learn bus takes one event round-robin and delivers it to all four ergs (R172). -/
def learnBus (s : State) : State :=
  match ((List.range 4).map fun i => (s.busTurn + i) % 4).find? s.mayLearn with
  | none => s
  | some e =>
    match (s.fw e).source with
    | [] => s
    | ev :: r =>
      let s := s.setFw e { s.fw e with
        source := r
        deficit := if s.rf (ERG_FWD_LEARN_RATE e) 0 16 = 0 then 0 else s.learnDeficit e + 250000
        deficitAt := s.time.clk }
      let s := { s with busTurn := (e + 1) % 4 }
      (s.bump (ERG_FWD_LEARN_SENT e)).each (List.range 4) fun s i => s.receiveEvent ev i

/-- A locked granule (R187). -/
def locked (s : State) (e slot : Nat) : Bool :=
  match (s.fw e).lock with
  | some l => decide (l.first ≤ granule slot ∧ granule slot ≤ l.last)
  | none => false

/-- The entries an event finds: learned, or static with either flag set (R173). -/
def eventFinds (s : State) (e : Nat) (ev : LearnEvent) : List (Nat × Nat) :=
  (s.fdbFind e ev.fid ev.mac).filter fun x => fdbKind x.2 == 1 || fdbStatic x.2

/-- The slots that applying an event would write (R173). -/
def eventWrites (s : State) (e : Nat) (ev : LearnEvent) : List Nat :=
  match s.eventFinds e ev with
  | [] => match s.insertPlan e ev.fid ev.mac with
    | some (p, i) => i :: p
    | none => []
  | l =>
    if (l.any fun x => fdbStatic x.2) || (ev.kind != 2 && !l.all fun x => fdbPort x.2 == ev.port) then [] else l.map (·.1)

/-- The learned entries found take the event's port and AGE 15; the rest of them stays (R173). -/
def refreshFound (s : State) (e : Nat) (ev : LearnEvent) (l : List (Nat × Nat)) : State :=
  s.each l fun s x => s.setFdb e x.1 (setBits (setBits x.2 64 7 ev.port) 80 4 15)

/-- What an event does to an erg's table (R173). A learn or refresh event that finds another port does nothing, and a
move event that finds its own port refreshes (log entry 10). -/
def applyEvent (s : State) (e : Nat) (ev : LearnEvent) : State :=
  match s.eventFinds e ev with
  | [] => match s.insertPlan e ev.fid ev.mac with
    | some p => ((s.placePlan e (learnedEntry ev.fid ev.mac ev.port) p).bump (ERG_FWD_LEARN_APPLIED e)).event e 14 1
    | none => s.insertFail e
  | l =>
    if l.any fun x => fdbStatic x.2 then s.bump (ERG_FWD_STATIC_PROTECTED e)
    else if l.all fun x => fdbPort x.2 == ev.port then ((s.refreshFound e ev l).bump (ERG_FWD_LEARN_APPLIED e)).event e 14 1
    else if ev.kind = 2 then ((s.refreshFound e ev l).bump (ERG_FWD_STATION_MOVES e)).event e 14 1
    else s

/-- The head event of an erg's inbound queue is applied, or waits on a lock (R173). -/
def applyHead (s : State) (e : Nat) : State :=
  match (s.fw e).inbound with
  | [] => s
  | ev :: r =>
    if (s.eventWrites e ev).any (s.locked e) then
      if (s.fw e).headHeld then s
      else (s.bump (ERG_FWD_LOCK_HELD_EVENTS e)).setFw e { s.fw e with headHeld := true }
    else (s.setFw e { s.fw e with inbound := r, headHeld := false }).applyEvent e ev

/-! ### Aging (R175, R176) -/

/-- Slots of a forwarding table. -/
abbrev fdbSlots : Nat := 131136

/-- What the scan does at a slot: AGE counts down; at 0 the learned entry is deleted. -/
def ageSlot (s : State) (e i : Nat) : State :=
  let x := s.fdb e i
  if fdbKind x ≠ 1 then s
  else if bits x 80 4 = 0 then (s.setFdb e i 0).bump (ERG_FWD_AGED_OUT e)
  else s.setFdb e i (setBits x 80 4 (bits x 80 4 - 1))

/-- The scan's pace counts from now: it has been held up, or begins (R175, R176). -/
def scanFromNow (s : State) (e : Nat) : State := s.setFw e { s.fw e with scanAt := s.time.clk * fdbSlots }

/-- ERG_FWD_AGE is written: a scan that AGE_EN starts again begins its pace now. -/
def ageWritten (s : State) (e : Nat) : State :=
  let on := s.rbit (ERG_FWD_AGE e) 20
  let s := if on && !(s.fw e).scanning then s.scanFromNow e else s
  s.setFw e { s.fw e with scanning := on }

/-- First slot after the granule of a slot. -/
def granuleEnd (i : Nat) : Nat := if i < 131072 then (i / 1024 + 1) * 1024 else fdbSlots

/-- One step of the scan, when it is due: every slot once in PERIOD × 100 ms at an even pace; the slot it stands at, or the skip of a
locked granule, whose slots take their time (R175, R176). -/
def scanStep (s : State) (e : Nat) : State :=
  if ¬ s.rbit (ERG_FWD_AGE e) 20 then s else
  let f := s.fw e
  let pace := s.rf (ERG_FWD_AGE e) 0 16 * 25000000
  let s := s.elapse (ceilDiv (f.scanAt + pace) fdbSlots - s.time.clk)
  let next := if s.locked e f.scan then granuleEnd f.scan else f.scan + 1
  let s := if s.locked e f.scan then s.bump (ERG_FWD_SCAN_SKIPPED e) else s.ageSlot e f.scan
  s.setFw e { s.fw e with scan := next % fdbSlots, scanAt := f.scanAt + (next - f.scan) * pace }

/-! ### Routing (R177 to R184) -/

/-- A prefix of `l` bits of an address of `w` bits. -/
def maskPrefix (w l a : Nat) : Nat := a / 2 ^ (w - l) * 2 ^ (w - l)

/-- The bytes a prefix hash covers (R179). -/
def prefixBytes (vrf : Nat) (v6 : Bool) (l a : Nat) : Bytes :=
  [BitVec.ofNat 8 vrf, BitVec.ofNat 8 (b2n v6), BitVec.ofNat 8 l] ++ beBytes (if v6 then 16 else 4) a

/-- A length slot's bucket and its three Bloom positions for a key (R179). -/
def prefixPlace (c vrf : Nat) (v6 : Bool) (l a : Nat) : Nat × List Nat :=
  let m := maskPrefix (if v6 then 128 else 32) l a
  let crcA := crc32c (prefixBytes vrf v6 l m)
  let crcB := crc32cInit 0x5A5A5A5A (prefixBytes vrf v6 l m)
  ((bits c 9 15 + bits crcA 0 15 % 2 ^ bits c 24 4) % 32768, [bits crcA 16 16, bits crcB 0 16, bits crcB 16 16])

/-- A bit of a slot's Bloom filter (R181). -/
def bloomBit (s : State) (e slot pos : Nat) : Bool := bit (s.tab tblBloom e (4096 * slot + pos / 16)) (pos % 16)

/-- A bit of a slot's Bloom filter set. -/
def bloomSet (s : State) (e slot : Nat) (pos : Nat) : State :=
  let i := 4096 * slot + pos / 16
  s.setTab tblBloom e i (s.tab tblBloom e i ||| 2 ^ (pos % 16))

/-- The length slots of a family that are enabled in a bank (R179). -/
def lenSlots (s : State) (b : Bool) (e : Nat) (v6 : Bool) : List Nat :=
  ((List.range 12).map fun k => if v6 then 12 + k else k).filter fun k => s.cbit b (ERG_PFX_LEN e k) 8

/-- The entries of one length slot that match a key, where its filter lets it be read (R179 to R181). -/
def prefixHits (s : State) (b : Bool) (e vrf : Nat) (v6 : Bool) (a slot : Nat) : List (Nat × Nat) :=
  let c := s.cfg b (ERG_PFX_LEN e slot)
  let l := bits c 0 8
  let m := maskPrefix (if v6 then 128 else 32) l a
  ((List.range 4).map fun w => (prefixPlace c vrf v6 l a).1 * 4 + w).filterMap fun i =>
    match s.crested b tblPrefix e i 192 with
    | some x => if bits x 128 8 = vrf ∧ bits x 144 1 = b2n v6 ∧ bits x 136 8 = l ∧ bits x 0 128 = m then some (i, x) else none
    | none => none

/-- A length slot is probed: its filter answers present, or is being rebuilt (R180, R181). -/
def probed (s : State) (b : Bool) (e vrf : Nat) (v6 : Bool) (a slot : Nat) : Bool :=
  let c := s.cfg b (ERG_PFX_LEN e slot)
  s.rbit (ERG_PFX_BLOOM_STATUS e) slot || (prefixPlace c vrf v6 (bits c 0 8) a).2.all (s.bloomBit e slot)

/-- The better of two hits: the greater LEN, then the lower index (R180). -/
def betterRoute (best : Option (Nat × Nat)) (x : Nat × Nat) : Option (Nat × Nat) :=
  match best with
  | none => some x
  | some y => if bits y.2 136 8 < bits x.2 136 8 ∨ (bits y.2 136 8 = bits x.2 136 8 ∧ x.1 < y.1) then some x else some y

/-- Route lookup (R180): the counts, and the next hop of the winning entry. -/
def routeLookup (s : State) (b : Bool) (e vrf : Nat) (v6 : Bool) (a : Nat) : State × Option Nat :=
  let slots := s.lenSlots b e v6
  let ps := slots.filter (s.probed b e vrf v6 a)
  let best := (ps.flatMap (s.prefixHits b e vrf v6 a)).foldl betterRoute none
  (((s.bumpBy (ERG_PFX_PROBES e) ps.length).bumpBy (ERG_PFX_PROBES_SKIPPED e) (slots.length - ps.length)).event e 12 ps.length,
    best.map fun x => bits x.2 145 14)

end State

/-! ### Resolving a destination (R161, R162, R177, R184) -/

/-- What the forwarding tables make of a frame (R162, R184). `ctr` is counted when the outcome acts. -/
inductive FwdOutcome where
  /-- blocked ingress port: no destination -/
  | none
  | discard (ctr : Nat)
  | port (p : Nat)
  | group (g : Nat)
  | flood (ports : List Nat)
  /-- queued on a port with the rewrite of a next hop -/
  | routed (p nh : Nat)
  /-- trapped with a reason code of R358 -/
  | trap (reason ctr : Nat)
  deriving DecidableEq, Repr

/-- The forwarding stage's result (R161). -/
structure FwdResult where
  out : FwdOutcome
  vid : Nat
  tagged : Bool
  /-- CPU of the forwarding entry: 0 none, 1 copy, 2 trap -/
  cpu : Nat
  /-- the ingress port is blocked in the VLAN -/
  blocked : Bool
  /-- the lookup of the forwarding table hit or missed; none where it was not made -/
  hit : Option Bool := none
  deriving DecidableEq, Repr

/-- The frame's destination address. -/
def frameDa (f : Frame) : Nat := beAt f.bytes 0 6
/-- The frame's source address. -/
def frameSa (f : Frame) : Nat := beAt f.bytes 6 6
/-- The group bit of an address. -/
def isGroup (a : Nat) : Bool := bit a 40

/-- The offset of the outer tag, where the frame is tagged (R161). -/
def outerTag (f : Frame) : Option Nat := if 0 < f.parse.tags then f.parse.anchor 1 else none

namespace State

/-- A port to which a VLAN entry sends, or the discard that applies (R162, R184). -/
def portOutcome (s : State) (b : Bool) (e v p : Nat) (ok : FwdOutcome) : FwdOutcome :=
  if ¬ s.portExists b p then .discard (ERG_FWD_NO_PORT e)
  else if ¬ vlanSends v p then .discard (ERG_FWD_VLAN_EGRESS_FILTER e)
  else ok

/-- A next hop (R184). -/
def nextHopOutcome (s : State) (b : Bool) (e nh ttl : Nat) : FwdOutcome :=
  match s.crested b tblNextHop 4 nh 128 with
  | none => .discard (ERG_PFX_NH_DISCARD e)
  | some x =>
    if bits x 115 2 = 2 then .discard (ERG_PFX_NH_DISCARD e)
    else if bits x 115 2 = 1 then .trap 4 (ERG_PFX_NH_TRAP e)
    else if bit x 117 ∧ ttl ≤ 1 then .trap 5 (ERG_PFX_TTL_EXPIRED e)
    else if ¬ s.portExists b (bits x 108 7) then .discard (ERG_FWD_NO_PORT e)
    else match s.vlan b e (bits x 96 12) with
      | some v => s.portOutcome b e v (bits x 108 7) (.routed (bits x 108 7) nh)
      | none => .discard (ERG_FWD_VLAN_EGRESS_FILTER e)

/-- Routing of a frame whose forwarding entry has DEST_TYPE 2 (R177, R180). -/
def route (s : State) (f : Frame) (e vrf : Nat) : State × FwdOutcome :=
  let v6 := f.parse.fixed 1
  let v4 := f.parse.fixed 0
  let none' := (s, FwdOutcome.discard (ERG_PFX_NOT_ROUTABLE e))
  match (if v4.isSome then v4 else v6) with
  | none => none'
  | some l3 =>
    let six := v4.isNone
    let fin := if six then l3 + 40 else l3 + 20
    let a := beAt f.bytes (if six then l3 + 24 else l3 + 16) (if six then 16 else 4)
    let group := if six then a / 2 ^ 120 = 0xFF else 0xE0 ≤ a / 2 ^ 24
    if 192 < fin ∨ f.bytes.length - 4 < fin ∨ group then none' else
    match s.routeLookup f.bank e vrf six a with
    | (s, none) =>
      (s, if s.cbit f.bank (ERG_PFX_CFG e) 0 then .trap 3 (ERG_PFX_ROUTE_MISS e) else .discard (ERG_PFX_ROUTE_MISS e))
    | (s, some nh) => (s, s.nextHopOutcome f.bank e nh (byteAt f.bytes (if six then l3 + 7 else l3 + 8)).toNat)

/-- The destination of a forwarding entry (R162). -/
def entryOutcome (s : State) (f : Frame) (e v x : Nat) : State × FwdOutcome :=
  match bits x 62 2 with
  | 0 => (s, if ¬ s.portExists f.bank (fdbPort x) then .discard (ERG_FWD_NO_PORT e)
      else if fdbPort x = f.port then .discard (ERG_FWD_SAME_PORT e)
      else s.portOutcome f.bank e v (fdbPort x) (.port (fdbPort x)))
  | 1 => (s, .group (bits x 64 14))
  | 2 => s.route f e (bits v 145 8)
  | _ => (s, .discard (ERG_FWD_DA_DISCARD e))

/-- The ports of a flood (R162). -/
def floodPorts (s : State) (b : Bool) (v p : Nat) : List Nat :=
  (List.range 65).filter fun q => vlanSends v q && q != p && s.portExists b q

/-- Destination of a frame whose VLAN checks passed, the CPU field of the entry, and whether the lookup hit (R161). -/
def destination (s : State) (f : Frame) (e v : Nat) : State × FwdOutcome × Nat × Option Bool :=
  let da := frameDa f
  if vlanBlock v f.port then (s.bump (ERG_FWD_VLAN_BLOCKED e), .none, 0, none)
  else match s.fdbLookup f.bank e (bits v 130 12) da with
    | some (_, x) =>
      let (s, o) := s.entryOutcome f e v x
      (s, o, bits x 78 2, some true)
    | none =>
      if bit v (if isGroup da then 144 else 143) then (s, .flood (s.floodPorts f.bank v f.port), 0, some false)
      else (s, .discard (ERG_FWD_DA_MISS_DISCARD e), 0, some false)

/-- The ACCEPT check of a port (R163). -/
def acceptOk (accept vid : Nat) : Bool := accept == 0 || (if accept = 1 then vid != 0 else vid == 0)

/-- The resolution of a frame on the general path (R161); none where a VLAN check discards it. -/
def resolve (s : State) (f : Frame) (e : Nat) : State × Option FwdResult :=
  let fail := (s.bump (ERG_FWD_VLAN_DISCARD e), none)
  match s.portDefault f.bank e (portIndex f.port) with
  | none => fail
  | some pd =>
    let tag := outerTag f
    let vid0 := match tag with | some t => be16 f.bytes (t + 2) % 4096 | none => 0
    if vid0 = 4095 ∨ ¬ acceptOk (bits pd 16 2) vid0 then fail else
    let vid := if vid0 = 0 then bits pd 0 12 else vid0
    match s.vlan f.bank e vid with
    | none => fail
    | some v =>
      if bit pd 18 ∧ ¬ vlanMember v f.port then fail else
      let learn := !f.second && s.cbit f.bank (ERG_FWD_CFG e) 0 && bit pd 19 && bit v 142 && !isGroup (frameSa f) && frameSa f != 0
      let s := s.when learn fun s => s.learnCheck f.bank e (bits v 130 12) (frameSa f) f.port (bit pd 20)
      let (s, out, cpu, hit) := s.destination f e v
      (s, some { out, vid, tagged := tag.isSome, cpu, blocked := vlanBlock v f.port, hit })

end State

end Sys2Proof.Machine
end

