-- ==== Sys2Proof/Machine/Classify.lean ====
section
/-! DEFINITION. Classification: express entries, the rule table, stream identification, stream filters and gates,
and meters (R194 to R213), with the seif short parse that feeds the express table (R153). -/

namespace Sys2Proof.Machine

abbrev tblExpress : Nat := 0x20
abbrev tblRule : Nat := 0x21
abbrev tblHandleMap : Nat := 0x22
abbrev tblRange : Nat := 0x23
abbrev tblFilter : Nat := 0x24
abbrev tblFilterState : Nat := 0x25
abbrev tblGate : Nat := 0x26
abbrev tblGateList : Nat := 0x27
abbrev tblMeter : Nat := 0x28
abbrev tblMeterState : Nat := 0x29
abbrev tblRuleCount : Nat := 0x2A
abbrev tblMirror : Nat := 0x2B

/-! ### Reasons for a copy to port 64 (R358) -/

/-- Order in which reasons are chosen when several apply. -/
def reasonRank (r : Nat) : Nat :=
  match r with
  | 7 => 0 | 6 => 1 | 5 => 2 | 4 => 3 | 3 => 4 | 2 => 5 | 8 => 6 | 11 => 7 | _ => 8

/-- A further reason for the pass's one copy to port 64. -/
def addReason (old : Option Nat) (r : Nat) : Option Nat :=
  match old with
  | none => some r
  | some o => some (if reasonRank r < reasonRank o then r else o)

/-! ### The rule key (R199) -/

/-- A byte of the frame, 0 beyond the parse window or at or beyond lim. -/
def keyByte (f : Frame) (i : Nat) : Nat := if i < 192 ∧ i < f.parse.lim then (byteAt f.bytes i).toNat else 0

/-- `n` such bytes in network order. -/
def keyBytes (f : Frame) (i n : Nat) : Nat := (List.range n).foldl (fun a k => a * 256 + keyByte f (i + k)) 0

/-- IP version and anchor of the outermost IP header: true for IPv6. -/
def ipOf (f : Frame) : Option (Bool × Nat) :=
  match f.parse.fixed 0 with
  | some l => some (false, l)
  | none => (f.parse.fixed 1).map fun l => (true, l)

/-- The fields of the key that an IP header fills. -/
structure IpKey where
  sa : Nat := 0
  da : Nat := 0
  proto : Nat := 0
  dscp : Nat := 0
  ecn : Nat := 0
  ttl : Nat := 0
  frag : Bool := false
  deriving DecidableEq, Repr

/-- The IP fields of a frame's key; all 0 where it has no IP header. -/
def ipKey (f : Frame) : IpKey :=
  match ipOf f with
  | none => {}
  | some (false, l) => {
      sa := keyBytes f (l + 12) 4
      da := keyBytes f (l + 16) 4
      proto := keyByte f (l + 9)
      dscp := keyByte f (l + 1) / 4
      ecn := keyByte f (l + 1) % 4
      ttl := keyByte f (l + 8)
      frag := keyBytes f (l + 6) 2 % 0x4000 != 0 }
  | some (true, l) =>
    let tc := keyBytes f l 2 / 16 % 256
    { sa := keyBytes f (l + 8) 16
      da := keyBytes f (l + 24) 16
      proto := keyByte f (l + 6)
      dscp := tc / 4
      ecn := tc % 4
      ttl := keyByte f (l + 7) }

/-- The anchor of UDP or TCP (R199). -/
def l4Of (f : Frame) : Option Nat := match f.parse.fixed 2 with | some l => some l | none => f.parse.fixed 3

/-- FWD of the key (R199). -/
def fwdCode (e : Nat) : FwdOutcome → Nat
  | .none => 6
  | .port _ => 0
  | .group _ => 1
  | .routed _ _ => 2
  | .flood _ => 3
  | .discard c => if c = ERG_FWD_DA_MISS_DISCARD e then 4 else 5
  | .trap _ _ => 5

/-- FWD_PORT of the key (R199). -/
def fwdPort : FwdOutcome → Nat
  | .port p => p
  | .routed p _ => p
  | _ => 127

/-- PCP and DEI of a frame: the outer tag's, or the port defaults of entry `pd` (R163, R195, R212). -/
def framePrio (f : Frame) (pd : Nat) : Nat × Bool :=
  match outerTag f with
  | some t => let tci := be16 f.bytes (t + 2); (tci / 8192, tci.testBit 12)
  | none => (bits pd 12 3, bit pd 15)

/-- PCP and DEI of the key, from the bytes of the outer tag as the key reads them, or the port defaults (R199). -/
def keyPrio (f : Frame) (pd : Nat) : Nat × Bool :=
  match outerTag f with
  | some t => let tci := keyBytes f (t + 2) 2; (tci / 8192, tci.testBit 12)
  | none => (bits pd 12 3, bit pd 15)

/-- UDF and UDF_PARTIAL of the key: 16 bytes from an anchor. -/
def udfOf (f : Frame) (anchor off : Nat) : Nat × Bool :=
  match f.parse.anchor anchor with
  | none => (0, true)
  | some a => (keyBytes f (a + off) 16, decide (192 < a + off + 16 ∨ f.parse.lim < a + off + 16))

/-- Fields laid side by side: low bit and value of each. -/
def packFields (l : List (Nat × Nat)) : Nat := l.foldl (fun a x => a + x.2 * 2 ^ x.1) 0

/-- The key of a frame (R199). -/
def ruleKey (f : Frame) (e : Nat) (r : FwdResult) (pd vrf udfAnchor udfOff : Nat) : Nat :=
  let ip := ipKey f
  let (pcp, dei) := keyPrio f pd
  let l4 := l4Of f
  let tcp := (f.parse.fixed 3).isSome && (f.parse.fixed 2).isNone
  let (udf, part) := udfOf f udfAnchor udfOff
  packFields [(0, f.port), (7, b2n f.second), (8, fwdCode e r.out), (12, fwdPort r.out), (19, r.vid), (31, pcp), (34, b2n dei),
    (35, f.parse.tags), (38, f.parse.flags), (70, keyBytes f 0 6), (118, keyBytes f 6 6),
    (166, keyBytes f (12 + 4 * f.parse.tags) 2), (182, ip.sa), (310, ip.da), (438, ip.proto), (446, ip.dscp), (452, ip.ecn),
    (454, ip.ttl), (462, match l4 with | some l => keyBytes f l 2 | none => 0),
    (478, match l4 with | some l => keyBytes f (l + 2) 2 | none => 0),
    (494, match l4 with | some l => if tcp then keyByte f (l + 13) else 0 | none => 0),
    (502, udf), (630, b2n part), (631, b2n ip.frag), (632, vrf)]

namespace State

/-- The rule a key hits: the lowest-indexed that matches and is valid in the bank (R200). -/
def ruleLookup (s : State) (b : Bool) (e key : Nat) : Option (Nat × Nat) :=
  (s.listed tblRule e).find? fun x => validIn 1408 b x.2 && ((key ^^^ bits x.2 0 640) &&& bits x.2 640 640) == 0

/-- The rule counter of a hit (R202): frames, then octets; both wrap. -/
def countRule (s : State) (e i len : Nat) : State :=
  let x := s.tab tblRuleCount e i
  s.setTab tblRuleCount e i (setBits (setBits x 0 64 (bits x 0 64 + 1)) 64 64 (bits x 64 64 + len))

/-! ### Stream identification (R203 to R206) -/

/-- The Renil stream tag that starts at a byte. -/
def renilAt (bytes : Bytes) (i : Nat) : Nat := beAt bytes i 8

/-- A handle from a tag (R206): the state with the counts, and the handle of a usable tag. -/
def tagHandle (s : State) (e tag : Nat) : State × Option Nat :=
  if bits tag 46 2 ≠ 1 then ((s.bump (ERG_SID_TAG_BAD e)).setBit (ERG_CLS_IRQ_STATUS e) 2, none)
  else if maxHandle < bits tag 16 24 then ((s.bump (ERG_SID_BAD_HANDLE e)).setBit (ERG_CLS_IRQ_STATUS e) 1, none)
  else (s, some (bits tag 16 24))

end State

/-- What identification yields. -/
structure Stream where
  handle : Nat
  mode : Nat
  filter : Option Nat
  deriving DecidableEq, Repr

/-- A stream from an entry's HANDLE, CVN_MODE, FILTER_EN and FILTER. -/
def streamOf (handle mode : Nat) (fen : Bool) (filter : Nat) : Stream := ⟨handle, mode, if fen then some filter else none⟩

/-- The 320 bits of the handle map's key: PROFILE and KEY (R204); none for an IP profile without an IP header. -/
def mapKey (f : Frame) (profile vid : Nat) : Option Nat :=
  let ip := ipKey f
  match profile with
  | 0 => some (packFields [(2, keyBytes f 0 6), (50, vid)])
  | 1 => some (packFields [(0, 1), (2, keyBytes f 6 6), (50, vid)])
  | _ => if (ipOf f).isNone then none else
    let (sp, dp) := match l4Of f with | some l => (keyBytes f l 2, keyBytes f (l + 2) 2) | none => (0, 0)
    some (packFields [(0, 2), (2, ip.da), (130, ip.sa), (258, ip.dscp), (264, ip.proto), (272, dp), (288, sp), (304, vid)])

namespace State

/-- Handle map lookup (R204). -/
def mapLookup (s : State) (b : Bool) (e key : Nat) : Option Stream :=
  let bucket := crc32c (leBytes 40 key) % 2 ^ 14
  ((List.range 4).findSome? fun w =>
    match s.crested b tblHandleMap e (bucket * 4 + w) 384 with
    | some x => if bits x 0 316 = key then some x else none
    | none => none).map fun x => streamOf (bits x 316 24) (bits x 340 2) (bit x 342) (bits x 343 14)

/-- An entry of the range method matches a frame (R205). -/
def rangeMatches (f : Frame) (vrf x : Nat) : Bool :=
  match ipOf f with
  | none => false
  | some (six, _) =>
    let ip := ipKey f
    bits x 128 8 == vrf && bits x 144 1 == b2n six &&
      maskPrefix (if six then 128 else 32) (bits x 136 8) (if bit x 145 then ip.sa else ip.da) == bits x 0 128

/-- The best matching entry: the greatest LEN, then the lowest index (R205). -/
def rangeLookup (s : State) (f : Frame) (e vrf : Nat) : Option Nat :=
  (((s.listed tblRange e).filter fun x => validIn 256 f.bank x.2 && rangeMatches f vrf x.2).foldl betterRoute none).map (·.2)

/-- The range method (R205). -/
def rangeMethod (s : State) (f : Frame) (e vrf : Nat) : State × Option Stream :=
  match s.rangeLookup f e vrf with
  | none => (s, none)
  | some x =>
    match f.parse.anchor (bits x 146 4) with
    | none => (s, none)
    | some a =>
      let i := a + bits x 150 7
      if 192 < i + 2 ∨ f.parse.lim < i + 2 then (s, none) else
      let h := bits x 177 24 + ((be16 f.bytes i >>> bits x 157 4) &&& bits x 161 16)
      if maxHandle < h then ((s.bump (ERG_SID_BAD_HANDLE e)).setBit (ERG_CLS_IRQ_STATUS e) 1, none)
      else (s, some (streamOf h (bits x 201 2) (bit x 203) (bits x 204 14)))

/-- The tag method (R206). -/
def tagMethod (s : State) (f : Frame) (e c : Nat) : State × Option Stream :=
  match f.parse.fixed 5 with
  | none => (s, none)
  | some a =>
    match s.tagHandle e (renilAt f.bytes a) with
    | (s, none) => (s, none)
    | (s, some h) => (s, some (streamOf h (bits c 5 2) (bit c 7) (bits c 8 14)))

/-- A source of identification tried where none before it yielded a handle. -/
def orElse (r : State × Option Stream) (on : Bool) (f : State → State × Option Stream) : State × Option Stream :=
  match r with
  | (s, some x) => (s, some x)
  | (s, none) => if on then f s else (s, none)

/-- Stream identification (R203): rule, tag, handle map, range. -/
def identify (s : State) (f : Frame) (e vid vrf : Nat) (rule : Option Nat) : State × Option Stream :=
  let c := s.cfg f.bank (ERG_SID_PORT e (portIndex f.port))
  let r0 : Option Stream := match rule with
    | some x => if bit x 1329 then some (streamOf (bits x 1330 24) (bits x 1354 2) (bit x 1356) (bits x 1357 14)) else none
    | none => none
  let r := orElse (s, r0) (bit c 4) fun s => s.tagMethod f e c
  let r := orElse r (bit c 0) fun s => (s, (mapKey f (bits c 1 2) vid).bind (s.mapLookup f.bank e))
  let r := orElse r (bit c 3) fun s => s.rangeMethod f e vrf
  match r with
  | (s, some x) => (s.bump (ERG_SID_IDENTIFIED e), some x)
  | (s, none) => (s, none)

/-! ### Stream filters and gates (R207, R208) -/

/-- A counter of a filter's state incremented; each saturates. -/
def filterCount (s : State) (i k : Nat) : State :=
  let x := s.tab tblFilterState 4 i
  s.setTab tblFilterState 4 i (setBits x (32 * k) 32 (satAdd 32 (bits x (32 * k) 32) 1))

/-- The list entry in force at phase `d` of a gate (R208). -/
def gateWalk (s : State) (b : Bool) (base len : Nat) : Nat → Nat → Nat → Option Nat
  | 0, _, _ => none
  | n + 1, i, d =>
    match s.crested b tblGateList 4 ((base + i) % 4096) 64 with
    | none => none
    | some x => if d < bits x 5 30 ∨ i + 1 = len then some x else s.gateWalk b base len n (i + 1) (d - bits x 5 30)

/-- A stream gate at a frame's ingress stamp (R208): whether it is open, and the class its entry gives. -/
def streamGate (s : State) (f : Frame) (g : Nat) : Bool × Option Nat :=
  match s.crested f.bank tblGate 4 g 192 with
  | none => (false, none)
  | some x =>
    let len := bits x 122 7
    if len = 0 then (true, none) else
    let t := totalNs (f.cnt.getD (bits x 0 2) 0)
    let base := bits x 2 48 * 1000000000 + bits x 50 30
    let d := (((t : Int) - base) % (bits x 80 30 : Int)).toNat
    match s.gateWalk f.bank (bits x 110 12) len len 0 d with
    | none => (false, none)
    | some y => (bit y 0, if bit y 1 then some (bits y 2 3) else none)

/-- Stages 5 and 6 of R194 for a filter valid in the bank: the state, and the IPV of a frame that passes. -/
def streamFilter (s : State) (f : Frame) (e i x : Nat) : State × Option (Option Nat) :=
  let s := s.filterCount i 0
  let st := s.tab tblFilterState 4 i
  if bit st (192 + e) then ((s.filterCount i 4).bump (ERG_PSFP_BLOCKED_DROPS e), none)
  else if bits x 0 14 ≠ 0 ∧ bits x 0 14 < f.bytes.length then
    let s := (s.filterCount i 4).bump (ERG_PSFP_SDU_DROPS e)
    if bit x 14 then
      ((s.setTab tblFilterState 4 i (setBits (s.tab tblFilterState 4 i) (192 + e) 1 1)).setBit (ERG_CLS_IRQ_STATUS e) 0, none)
    else (s, none)
  else
    let s := s.filterCount i 3
    if ¬ bit x 15 then (s.filterCount i 1, some none) else
    match s.streamGate f (bits x 16 8) with
    | (true, ipv) => (s.filterCount i 1, some ipv)
    | (false, _) => ((s.filterCount i 2).bump (ERG_PSFP_GATE_DROPS e), none)

end State

/-! ### Meters (R210 to R213) -/

/-- Colours. -/
inductive Colour where
  | green | yellow | red
  deriving DecidableEq, Repr

/-- Tokens, in 2^-20 byte, of a bucket refilled at `rate` × 8 kb/s for `dt` ns and held at `cap` bytes (R212). -/
def refill (tok cap rate dt : Nat) : Nat := min (cap * 2 ^ 20) (tok + rate * dt * 2 ^ 20 / 1000000)

/-- The meter algorithm (R212): parameters, state, frame length, input colour and raw TB0 stamp in ns. -/
def meterRun (p st len : Nat) (cin : Colour) (t : Nat) : Nat × Colour :=
  let alg := bits p 0 2
  let cir := bits p 5 24
  let pir := if alg = 0 then max cir (bits p 29 24) else bits p 29 24
  let last := bits st 88 64
  let dt := t - last
  let tc := if last = 0 then bits p 53 24 * 2 ^ 20 else if last < t then refill (bits st 0 44) (bits p 53 24) cir dt else bits st 0 44
  let tp := if last = 0 then bits p 77 24 * 2 ^ 20 else if last < t then refill (bits st 44 44) (bits p 77 24) pir dt else bits st 44 44
  let last := if last = 0 ∨ last < t then t else last
  let l := len * 2 ^ 20
  let out := fun (tc tp : Nat) (c : Colour) => (tc + tp * 2 ^ 44 + last % 2 ^ 64 * 2 ^ 88, c)
  if alg = 2 then out tc tp cin
  else if alg = 0 then
    if cin = .red ∨ tp < l then out tc tp .red
    else if cin = .yellow ∨ tc < l then out tc (tp - l) .yellow
    else out (tc - l) (tp - l) .green
  else
    if cin = .green ∧ l ≤ tc then out (tc - l) tp .green
    else if cin ≠ .red ∧ l ≤ tp then out tc (tp - l) .yellow
    else out tc tp .red

/-- What a frame has met of meters: the colour it carries on, remarks, and the colours it was given. -/
structure Metered where
  colour : Colour
  rePcp : Option Nat := none
  reDei : Option Nat := none
  reDscp : Option Nat := none
  yellow : Bool := false
  redFwd : Bool := false
  deriving DecidableEq, Repr

/-- A remark field of the parameters: `w` bits at `lo`, enabled by the bit above. -/
def remark (p lo w : Nat) (old : Option Nat) : Option Nat := if bit p (lo + w) then some (bits p lo w) else old

/-- The remarks of a colour; a later meter's win (R213). -/
def Metered.remark (m : Metered) (p : Nat) (c : Colour) : Metered :=
  match c with
  | .green => { m with colour := c }
  | .yellow => {
      colour := c, rePcp := Machine.remark p 101 3 m.rePcp, reDei := Machine.remark p 105 1 m.reDei,
      reDscp := Machine.remark p 107 6 m.reDscp, yellow := true, redFwd := m.redFwd }
  | .red => {
      colour := c, rePcp := Machine.remark p 114 3 m.rePcp, reDei := Machine.remark p 118 1 m.reDei,
      reDscp := Machine.remark p 120 6 m.reDscp, yellow := m.yellow, redFwd := true }

namespace State

/-- A meter acts on a frame of class `cls`: none where it drops the frame (R212, R213). -/
def meter (s : State) (f : Frame) (e i cls : Nat) (m : Metered) : State × Option Metered :=
  let p := s.tabBE f.bank tblMeter e i
  let (st, c) := meterRun p (s.tab tblMeterState e i) f.bytes.length (if bit p 2 then m.colour else .green)
    (totalNs (f.raw.getD 0 0))
  let s := s.setTab tblMeterState e i st
  let s := if c = .yellow then s.event e 10 1 { cls } else if c = .red then s.event e 11 1 { cls } else s
  if c = .red ∧ ¬ bit p 3 then (s.bump (ERG_MTR_RED_DROPS e), none)
  else if c = .yellow ∧ bit p 4 then (s.bump (ERG_MTR_YELLOW_DROPS e), none)
  else (s, some (m.remark p c))

/-- A forwarded frame's colours are counted (R213). -/
def countColours (s : State) (e : Nat) (m : Metered) : State :=
  (s.when m.yellow fun s => s.bump (ERG_MTR_YELLOW e)).when m.redFwd fun s => s.bump (ERG_MTR_RED_FWD e)

/-- The input colour of a frame's first meter (R212). -/
def firstColour (s : State) (f : Frame) (e : Nat) (dei : Bool) : Colour :=
  if s.cbit f.bank (ERG_CLS_CFG e) 11 ∧ dei then .yellow else .green

end State

/-! ### The general path's decision (R194 to R202) -/

/-- What the rule stage leads to. -/
inductive Verdict where
  /-- the forwarding outcome stands -/
  | stand
  | drop
  | send (d : Dest)
  /-- to port 64 -/
  | toCpu
  | wadi (anchor : Nat)
  deriving DecidableEq, Repr

namespace State

/-- The verdict of a rule (R200, R202), with the reason for a copy to port 64. -/
def verdict (s : State) (f : Frame) (e x : Nat) (blocked : Bool) (cpu : Option Nat) : State × Verdict × Option Nat :=
  let cpu := if bit x 1283 then addReason cpu 6 else cpu
  match bits x 1280 3 with
  | 3 => (s.bump (ERG_CLS_RULE_TRAP e), .drop, addReason cpu 7)
  | v =>
    if blocked then (s, .drop, cpu)
    else match v with
      | 0 => (s, .stand, cpu)
      | 2 =>
        let s := s.bump (ERG_CLS_RULE_REDIRECT e)
        if bit x 1284 then (s, .send (.group (bits x 1285 14) false), cpu)
        else
          let p := bits x 1285 7
          if p = 64 then (s, .toCpu, cpu)
          else if s.portExists f.bank p then (s, .send (.port p), cpu)
          else (s.bump (ERG_FWD_NO_PORT e), .drop, cpu)
      | 4 =>
        if f.second then ((s.bump (ERG_PRS_WADI_LOOP e)).setBit (ERG_PRS_IRQ_STATUS e) 1, .drop, cpu)
        else (s.bump (ERG_CLS_RULE_RECIRC e), .wadi (bits x 1325 4), cpu)
      | _ => (s.bump (ERG_CLS_RULE_DENY e), .drop, cpu)

/-- Stage 3 of R194: the forwarding outcome acts. Its destination and next hop; the reason of a copy to port 64 that stands beside
them; and the reason of a copy that stands for the destination, port 64 being named or flooded to. -/
def forwardStage (s : State) (e : Nat) (r : FwdResult) (cpu : Option Nat) : State × Dest × Option Nat × Option Nat × Option Nat :=
  let cpu := if r.cpu = 0 then cpu else addReason cpu 2
  let trapped := r.cpu = 2
  match r.out with
  | .none => (s, .nowhere, none, cpu, none)
  | .discard c => (s.bump c, .nowhere, none, cpu, none)
  | .trap reason c => (s.bump c, .nowhere, none, addReason cpu reason, none)
  | .port p =>
    if trapped then (s, .nowhere, none, cpu, none)
    else if p = 64 then (s, .nowhere, none, cpu, some 11) else (s, .port p, none, cpu, none)
  | .group g => (s, if trapped then .nowhere else .group g true, none, cpu, none)
  | .flood ps =>
    if trapped then (s, .nowhere, none, cpu, none)
    else (s.bump (ERG_FWD_DA_MISS_FLOOD e), .flood (ps.filter (· ≠ 64)), none, cpu, if ps.contains 64 then some 8 else none)
  | .routed p nh =>
    if trapped then (s, .nowhere, none, cpu, none)
    else
      let s := s.bump (ERG_PFX_ROUTED e)
      if p = 64 then (s, .nowhere, none, cpu, some 11) else (s, .port p, some nh, cpu, none)

/-- Stages 4 to 8 of R194 for a frame that goes on: stream identification, filter, gate and meters. -/
def police (s : State) (f : Frame) (e vrf : Nat) (rule : Option Nat) (d : Decision) : State × Decision :=
  let (s, st) := s.identify f e d.vid vrf rule
  let d := match st with | some x => { d with handle := some x.handle, cvnMode := x.mode } | none => d
  let drop := fun (d : Decision) => { d with dest := .nowhere, discarded := true }
  let filt : Option (Nat × Nat) := match st with
    | some x => x.filter.bind fun i => (s.crested f.bank tblFilter 4 i 64).map fun v => (i, v)
    | none => none
  let (s, pass) : State × Option (Option Nat) := match filt with
    | some (i, v) => s.streamFilter f e i v
    | none => (s, some none)
  match pass with
  | none => (s, drop d)
  | some ipv =>
    let d := { d with cls := ipv.getD d.cls }
    let m0 : Metered := { colour := s.firstColour f e d.dei }
    let (s, m1) : State × Option Metered := match rule with
      | some x => if bit x 1303 then s.meter f e (bits x 1304 13) d.cls m0 else (s, some m0)
      | none => (s, some m0)
    match m1 with
    | none => (s, drop d)
    | some m1 =>
      let (s, m2) : State × Option Metered := match filt with
        | some (i, v) =>
          if bit v 24 then
            match s.meter f e (bits v 25 13) d.cls m1 with
            | (s, none) => (s.filterCount i 5, none)
            | r => r
          else (s, some m1)
        | none => (s, some m1)
      match m2 with
      | none => (s, drop d)
      | some m => (s.countColours e m, { d with rePcp := m.rePcp, reDei := m.reDei, reDscp := m.reDscp })

end State

/-- The outcome of lookup and classification: a decision, or the anchor to which the wadi strips the frame; with
the mirror sessions that the rule names. -/
structure Classified where
  dec : Decision
  wadi : Option Nat := none
  mirror : Nat := 0
  deriving DecidableEq, Repr

namespace State

/-- A frame that goes on is policed, and if it passes has the copy to port 64 that stands for its destination; one that does not
keeps the copies that act whatever happens to it (R194). -/
def goesOn (s : State) (f : Frame) (e vrf : Nat) (rule : Option Nat) (d : Decision) (own : Option Nat) : State × Decision :=
  let (s, d) := s.police f e vrf rule { d with discarded := false }
  (s, match own with | some r => if d.discarded then d else { d with cpu := addReason d.cpu r } | none => d)

/-- The general path from a rule hit (or none) to the decision (R194); the rule's class is the frame's whatever the verdict, but on
a pass that ends in recirculation, and on a frame from a blocked port (R195, R200, R202). -/
def decideBy (s : State) (f : Frame) (e pd vrf : Nat) (r : FwdResult) (rule : Option (Nat × Nat)) : State × Classified :=
  let (pcp, dei) := framePrio f pd
  let x := rule.map (·.2)
  let cls := match x with | some x => if bit x 1299 && !r.blocked then bits x 1300 3 else pcp | none => pcp
  let d0 : Decision := { vid := r.vid, tagged := r.tagged, pcp, dei, cls, rule := rule.map (·.1), discarded := true }
  let (s, v, cpu) : State × Verdict × Option Nat := match rule with
    | none => (s.bump (ERG_CLS_RULE_MISS e), .stand, none)
    | some (i, x) =>
      let s := s.when (bit x 1371) fun s => s.countRule e i f.bytes.length
      s.verdict f e x r.blocked none
  let mirror := match rule with | some (_, x) => bits x 1317 8 | none => 0
  match v with
  | .wadi a => (s, { dec := { d0 with cpu, cls := pcp }, wadi := some a, mirror })
  | .drop => (s, { dec := { d0 with cpu }, mirror })
  | .send dest =>
    let (s, d) := s.goesOn f e vrf x { d0 with dest, cpu } none
    (s, { dec := d, mirror })
  | .toCpu =>
    let (s, d) := s.goesOn f e vrf x { d0 with cpu } (some 11)
    (s, { dec := d, mirror })
  | .stand =>
    let (s, dest, nh, cpu, own) := s.forwardStage e r cpu
    if dest = .nowhere ∧ own = none then (s, { dec := { d0 with cpu }, mirror })
    else
      let (s, d) := s.goesOn f e vrf x { d0 with dest, nh, cpu } own
      (s, { dec := d, mirror })

/-- The lookup and rule events of a frame, with its class (R394, R395). -/
def lookupEvents (s : State) (e : Nat) (r : FwdResult) (d : Decision) : State :=
  let s := match r.hit with | some h => s.event e (if h then 7 else 8) 1 { cls := d.cls } | none => s
  s.when d.rule.isSome fun s => s.event e 9 1 { cls := d.cls }

/-- Lookup and classification of a frame on the general path (R161, R194). -/
def classify (s : State) (f : Frame) (e : Nat) : State × Classified :=
  match s.resolve f e with
  | (s, none) => (s, { dec := { discarded := true } })
  | (s, some r) =>
    let pd := (s.portDefault f.bank e (portIndex f.port)).getD 0
    let vrf := match s.vlan f.bank e r.vid with | some v => bits v 145 8 | none => 0
    let c := s.cfg f.bank (ERG_CLS_CFG e)
    let key := ruleKey f e r pd vrf (bits c 0 4) (bits c 4 7)
    match s.decideBy f e pd vrf r (s.ruleLookup f.bank e key) with
    | (s, c) => (s.lookupEvents e r c.dec, c)

end State

/-! ### The seif short parse and express entries (R153, R196, R197) -/

/-- The seif key (R153). -/
structure SeifKey where
  tags : Nat
  pcp : Nat
  dei : Bool
  vid : Nat
  inner : Nat
  etype : Nat
  /-- Renil stream tag -/
  renil : Option Nat
  /-- offset of an R-TAG -/
  rtag : Option Nat
  deriving DecidableEq, Repr

namespace State

/-- The tag count of the short parse, 0 to 3. -/
def seifTags (s : State) (f : Frame) (e : Nat) : Nat :=
  let c := s.cfg f.bank (ERG_SEIF_TPID e)
  let isTag := fun i => be16 f.bytes i == bits c 0 16 || be16 f.bytes i == bits c 16 16
  if ¬ isTag 12 then 0 else if ¬ isTag 16 then 1 else if ¬ isTag 20 then 2 else 3

/-- The key of a frame, none where it has no express decision (R153). -/
def seifKey (s : State) (f : Frame) (e : Nat) : Option SeifKey :=
  let c := s.cfg f.bank (ERG_SEIF_CFG e)
  let n := s.seifTags f e
  if n = 3 ∨ ¬ bit c 0 ∨ f.second ∨ 63 < f.port then none else
  let at0 := 12 + 4 * n
  let ty := be16 f.bytes at0
  let renil := if bit c 1 ∧ ty = s.cf f.bank CVN_RENIL 0 16 then some (renilAt f.bytes at0) else none
  let rtag := if renil.isNone ∧ bit c 2 ∧ ty = 0xF1C1 then some at0 else none
  let skip := if renil.isSome then 8 else if rtag.isSome then 6 else 0
  if f.bytes.length < at0 + skip + 2 then none else
  let tci := be16 f.bytes 14
  let etype := be16 f.bytes (at0 + skip)
  let inner := if n = 2 then be16 f.bytes 18 % 4096 else 0
  if 0 < n then some { tags := n, pcp := tci / 8192, dei := tci.testBit 12, vid := tci % 4096, inner, etype, renil, rtag }
  else (s.portDefault f.bank e (portIndex f.port)).map fun pd =>
    { tags := 0, pcp := bits pd 12 3, dei := bit pd 15, vid := bits pd 0 12, inner, etype, renil, rtag }

/-- The express entry that hits, the lowest-indexed (R196). -/
def expressHit (s : State) (f : Frame) (e : Nat) (k : SeifKey) : Option Nat :=
  ((s.listed tblExpress e).find? fun x => validIn 192 f.bank x.2 && bits x.2 0 4 == portIndex f.port &&
    bits x.2 4 48 == frameDa f && (bit x.2 64 || bits x.2 52 12 == k.vid)).map (·.2)

/-- Handle of an express hit (R196, R206). -/
def expressHandle (s : State) (e x : Nat) (k : SeifKey) : State × Option Nat :=
  let own := if bit x 75 then some (bits x 76 24) else none
  if bit x 102 then
    match k.renil with
    | some tag => match s.tagHandle e tag with
      | (s, some h) => (s, some h)
      | (s, none) => (s, own)
    | none => (s, own)
  else (s, own)

/-- Destination of an express hit (R197). -/
def expressDest (s : State) (f : Frame) (e x : Nat) : State × Dest × Option Nat :=
  let p := bits x 65 7
  if p = f.port then (s.bump (ERG_FWD_SAME_PORT e), .nowhere, none)
  else if p = 64 then (s, .nowhere, some 11)
  else if s.portExists f.bank p then (s, .port p, none)
  else (s.bump (ERG_FWD_NO_PORT e), .nowhere, none)

/-- The decision of an express hit (R195 to R198). -/
def expressDecide (s : State) (f : Frame) (e x : Nat) (k : SeifKey) : State × Decision :=
  let s := s.bump (ERG_CLS_EXPRESS_HITS e)
  let (s, dest, cpu) := s.expressDest f e x
  let d : Decision := { dest, cpu, vid := k.vid, tagged := k.tags != 0, pcp := k.pcp, dei := k.dei, cls := bits x 72 3, express := true }
  if dest = .nowhere ∧ cpu = none then (s, { d with discarded := true }) else
  let (s, handle) := s.expressHandle e x k
  let d := { d with handle, cvnMode := bits x 100 2 }
  if ¬ bit x 103 then (s, d) else
  match s.meter f e (bits x 104 9) d.cls { colour := s.firstColour f e k.dei } with
  | (s, none) => (s, { d with dest := .nowhere, cpu := none, discarded := true })
  | (s, some m) => (s.countColours e m, { d with rePcp := m.rePcp, reDei := m.reDei, reDscp := m.reDscp })

end State

end Sys2Proof.Machine
end

