-- ==== Sys2Proof/Machine/Ports.lean ====
section
/-! DEFINITION. What a port is at an instant: its rate, its link, its largest frame, its priorities that are
paused, and its two sets of counters (R90, R97, R121, R132, R137, R138). -/

namespace Sys2Proof.Machine

/-! Port statistics, R140 -/
abbrev stRxOctets : Nat := 0
abbrev stRxOctetsOk : Nat := 1
abbrev stRxFrames : Nat := 2
abbrev stRxFramesOk : Nat := 3
abbrev stRxFcsErr : Nat := 14
abbrev stRxUndersize : Nat := 15
abbrev stRxFragments : Nat := 16
abbrev stRxOversize : Nat := 17
abbrev stRxJabber : Nat := 18
abbrev stRxCodeErr : Nat := 19
abbrev stRxStomped : Nat := 20
abbrev stRxFifoOvf : Nat := 21
abbrev stRxDisabled : Nat := 22
abbrev stRxPause : Nat := 23
abbrev stRxPfc : Nat := 24
abbrev stRxMacctl : Nat := 25
abbrev stRxPreemptErr : Nat := 26
abbrev stRxFrags : Nat := 27
abbrev stRxLpi : Nat := 28
abbrev stTxOctets : Nat := 29
abbrev stTxFramesOk : Nat := 30
abbrev stTxStomped : Nat := 41
abbrev stTxAborted : Nat := 42
abbrev stTxOversize : Nat := 43
abbrev stTxDisabled : Nat := 44
abbrev stTxFrags : Nat := 45
abbrev stTxPreempted : Nat := 46
abbrev stTxLpi : Nat := 47
abbrev stTxSingleColl : Nat := 48
abbrev stTxMultiColl : Nat := 49
abbrev stTxLateColl : Nat := 50
abbrev stTxExcessColl : Nat := 51
abbrev stTxDeferred : Nat := 52
abbrev stFldStorm : Nat := 53
abbrev stFldFallbacks : Nat := 54
abbrev stFldJabber : Nat := 55
abbrev stFldConflict : Nat := 56
abbrev stPauseWdog : Nat := 57

/-- The lane whose state is the state of port `p`, of a lane port (R98). -/
def State.laneOf (s : State) (p : Nat) : Nat := if s.cbit s.crest.bank (LNE_QUAD_CFG (p / 4)) 0 then p / 4 * 4 else p

/-- Kinds of lane port (R90). -/
inductive PortType where
  | r25 | r10 | x1 | r100
  deriving DecidableEq, Repr

/-- Receive stages, destination address arrival and transmit stages of a port type, in tenths of a nanosecond (R106). -/
def stageDelay : PortType → Nat × Nat × Nat
  | .r25 => (105, 19, 87)
  | .r100 => (120, 5, 90)
  | .r10 => (240, 48, 216)
  | .x1 => (720, 480, 800)

/-- Receive and transmit FEC delay of a port type and FEC: 0 none, 1 Clause 74, 2 Clause 108 or 91 (R106). -/
def fecDelay : PortType → Nat → Nat × Nat
  | .r25, 1 => (939, 60)
  | .r25, 2 => (2398, 140)
  | .r100, 2 => (862, 140)
  | .r10, 1 => (2298, 100)
  | _, _ => (0, 0)

namespace State

/-- Quad of a lane port runs as one 100GBASE-R port in a bank. -/
def quad100 (s : State) (b : Bool) (p : Nat) : Bool := s.cbit b (LNE_QUAD_CFG (p / 4)) 0

/-- Type of a lane port in a bank (R90); a disabled lane has the figures of 25GBASE-R, which nothing uses. -/
def portType (s : State) (b : Bool) (p : Nat) : PortType :=
  if s.quad100 b p then .r100 else match s.cf b (LNE_L_CFG p) 0 2 with
    | 1 => .r10
    | 2 => .x1
    | _ => .r25

/-- A configuration bit of a lane port: those of lane 0 govern 100GBASE-R (R90). -/
def laneCfg (s : State) (p lo w : Nat) : Nat := s.cf s.crest.bank (LNE_L_CFG (s.laneOf p)) lo w

/-- The lane is enabled (R90). -/
def laneOn (s : State) (p : Nat) : Bool := s.quad100 s.crest.bank p || s.laneCfg p 0 2 != 3

/-- LNE_Ll_STATE.STATE of a lane (R96). -/
def laneState (s : State) (p : Nat) : Nat := s.rf (LNE_L_STATE p) 0 3

/-- The port's link is up (R97, R132, R276). -/
def linkUp (s : State) (p : Nat) : Bool :=
  if p < 32 then s.portExists s.crest.bank p && (s.laneState p == 4 || s.laneState p == 5)
  else if p < 64 then s.cbit s.crest.bank (MAC_FLD_CFG p) 0 && !s.rbit (MAC_FLD_STATUS p) 3
  else decide (p < 69)

/-- Rate of a lane or field port in Mb/s (R90, R132); 0 where the lane is disabled. -/
def rate (s : State) (p : Nat) : Nat :=
  if p < 32 then
    if s.quad100 s.crest.bank p then 100000
    else match s.cf s.crest.bank (LNE_L_CFG p) 0 2 with
      | 0 => 25000
      | 1 => 10000
      | 2 => 1000
      | _ => 0
  else 10

/-- Largest frame of a port in a bank (R113, R115, R119, R266). -/
def maxFrame (s : State) (b : Bool) (p : Nat) : Nat := if p < 65 then s.cf b (MAC_MAX_FRAME p) 0 14 else 10240

/-- A priority of a port is stopped by PAUSE or by PFC (R121, R122). -/
def paused (s : State) (p k : Nat) : Bool :=
  decide (p < 32) && (s.rbit (MAC_FC_STATUS p) 0 || s.rbit (MAC_FC_STATUS p) (8 + k))

/-- Preemption is in use on a port (R129). -/
def preempting (s : State) (p : Nat) : Bool := decide (p < 32) && s.rf (MAC_PREEMPT_STATUS p) 0 3 == 3

/-- A class of a port is preemptable (R128). -/
def preemptable (s : State) (b : Bool) (p k : Nat) : Bool := s.preempting p && s.cbit b (MAC_PREEMPT_CFG p) (8 + k)

/-- MAC state of a port. -/
def mac (s : State) (p : Nat) : MacState := s.macs.getD p {}

/-- MAC state of a port replaced. -/
def setMac (s : State) (p : Nat) (m : MacState) : State := { s with macs := s.macs.set p m }

/-! ### Counters (R137 to R139) -/

/-- Value of a port statistic. -/
def statVal (s : State) (p i : Nat) : Nat := s.rf (MAC_STAT_HI p i) 0 16 * 2 ^ 32 + s.rf (MAC_STAT_LO p i) 0 32

/-- A port statistic set. -/
def setStat (s : State) (p i v : Nat) : State := (s.setReg (MAC_STAT_LO p i) (v % 2 ^ 32)).setReg (MAC_STAT_HI p i) (v / 2 ^ 32 % 2 ^ 16)

/-- A port statistic increased; a change of bit 47 sets its HALF bit (R138). A port that does not exist counts
nothing (R15). -/
def stat (s : State) (p i n : Nat) : State :=
  if p < 32 ∧ ¬ s.portExists s.crest.bank p then s else
  let v := s.statVal p i
  let w := (v + n) % 2 ^ 48
  let s := s.setStat p i w
  if bit v 47 = bit w 47 then s
  else (if i < 32 then s.setBit (MAC_STAT_HALF_LO p) i else s.setBit (MAC_STAT_HALF_HI p) (i - 32)).setBit (MAC_IRQ_STATUS p) 0

/-- A raw counter incremented. -/
def rawCtr (s : State) (p k : Nat) : State := s.bump (MAC_RAW p k)

/-- Every statistic and both HALF registers to 0 (R139). -/
def statClear (s : State) (p : Nat) : State :=
  ((s.each (List.range 58) fun s i => s.setStat p i 0).setReg (MAC_STAT_HALF_LO p) 0).setReg (MAC_STAT_HALF_HI p) 0

/-- Size bin of R140, from the bin of 64 bytes. -/
def sizeBin (n : Nat) : Nat :=
  if n ≤ 64 then 0 else if n ≤ 127 then 1 else if n ≤ 255 then 2 else if n ≤ 511 then 3 else if n ≤ 1023 then 4
  else if n ≤ 1518 then 5 else 6

/-- Counter of an address type from a base: unicast, multicast, broadcast. -/
def castIndex (da : Nat) : Nat := if da = 2 ^ 48 - 1 then 2 else if bit da 40 then 1 else 0

end State

end Sys2Proof.Machine
end

