-- ==== Sys2Proof/Machine/Edits.lean ====
section
/-! DEFINITION. The egress edits (R279 to R282), mirror edits (R215), PTP correction (R50 to R53), and the PRP
trailer (R224). -/

namespace Sys2Proof.Machine

/-! ### Checksums and splices -/

/-- RFC 1624: a one's complement checksum after one 16-bit word changed. -/
def csumUpdate (hc old new : Nat) : Nat :=
  let x := (65535 - hc % 65536) + (65535 - old % 65536) + new % 65536
  let x := x % 65536 + x / 65536
  let x := x % 65536 + x / 65536
  65535 - x % 65536

/-- Bytes replaced from `i` on. -/
def putAt (l : Bytes) (i : Nat) (b : Bytes) : Bytes :=
  if l.length < i + b.length then l else l.take i ++ b ++ l.drop (i + b.length)

/-- The 16-bit word at `i` replaced. -/
def putWord (l : Bytes) (i v : Nat) : Bytes := putAt l i (beBytes 2 v)

/-- A copy as it is edited: bytes without FCS, outer tag, number of VLAN tags, and the anchors that edits use. -/
structure Ed where
  b : Bytes
  tag : Option Nat
  tags : Nat
  stag : Option Nat
  l3 : Option Nat
  l4 : Option Nat
  app : Option Nat
  /-- insertions skipped for want of a field (R280) -/
  skipped : Nat := 0
  /-- CE has been set (R275) -/
  marked : Bool := false
  deriving DecidableEq, Repr

/-- An offset at or after `i` moves by `d`. -/
def moveOff (i : Nat) (d : Int) (o : Option Nat) : Option Nat := o.map fun x => if i ≤ x then (Int.ofNat x + d).toNat else x

/-- `x` inserted at `i`. -/
def Ed.insert (e : Ed) (i : Nat) (x : Bytes) : Ed :=
  { e with
    b := e.b.take i ++ x ++ e.b.drop i
    tag := moveOff i x.length e.tag
    stag := moveOff i x.length e.stag
    l3 := moveOff i x.length e.l3
    l4 := moveOff i x.length e.l4
    app := moveOff i x.length e.app }

/-- `n` bytes removed at `i`. -/
def Ed.remove (e : Ed) (i n : Nat) : Ed :=
  { e with
    b := e.b.take i ++ e.b.drop (i + n)
    tag := moveOff (i + n) (-(Int.ofNat n)) e.tag
    stag := moveOff (i + n) (-(Int.ofNat n)) e.stag
    l3 := moveOff (i + n) (-(Int.ofNat n)) e.l3
    l4 := moveOff (i + n) (-(Int.ofNat n)) e.l4
    app := moveOff (i + n) (-(Int.ofNat n)) e.app }

/-- Where stream tags are inserted: after the last VLAN tag (R280). -/
def Ed.afterTags (e : Ed) : Nat :=
  match e.tag with
  | some o => o + 4 * e.tags
  | none => 12

/-! ### PRP trailer (R224) -/

/-- Sequence and path of a valid PRP trailer: path B for LanId 0xB. -/
def prpOf (bytes : Bytes) (tags : Nat) : Option (Nat × Bool) :=
  let n := bytes.length
  if n < 28 then none else
  let i := n - 10
  let w := be16 bytes (i + 2)
  if be16 bytes (i + 4) = 0x88FB ∧ (w / 4096 = 10 ∨ w / 4096 = 11) ∧ w % 4096 + 18 + 4 * tags = n then
    some (be16 bytes i, w / 4096 == 11)
  else none

/-- LSDUsize of a frame of `n` bytes with FCS and `tags` VLAN tags (R224, R280; log entry 21). -/
def lsduSize (n tags : Nat) : Nat := (n - 18 - 4 * tags) % 4096

/-! ### Stream tags -/

/-- Stream tags by the EDIT field that governs them. -/
inductive StreamTag where
  | renil | hsr | rtag
  deriving DecidableEq, Repr

/-- The stream tag at the STAG anchor (R150, R152). -/
def stagKind (r : ParseResult) : Option StreamTag :=
  if (r.fixed 5).isSome then some .renil
  else if (r.fixed 6).isSome then some .rtag
  else if (r.fixed 7).isSome then some .hsr
  else none

/-- Bytes of a stream tag (R280). -/
def StreamTag.size : StreamTag → Nat
  | .renil => 8
  | _ => 6

/-- Lowest bit of a stream tag's field in OAS_EDITp (R286). -/
def StreamTag.field : StreamTag → Nat
  | .renil => 0
  | .hsr => 2
  | .rtag => 4

/-- A Renil stream tag (R242). -/
def renilTag (etype : Nat) (hold path trace : Bool) (handle seq : Nat) : Bytes :=
  beBytes 8 (etype * 2 ^ 48 + 2 ^ 46 + b2n hold * 2 ^ 45 + b2n path * 2 ^ 44 + b2n trace * 2 ^ 43 + handle % 2 ^ 24 * 2 ^ 16 + seq % 2 ^ 16)

/-- The VLAN tags, anchors and bytes of a frame before its edits. -/
def Frame.toEd (f : Frame) : Ed :=
  let t := outerTag f
  { b := f.bytes.take (f.bytes.length - 4)
    tag := t
    tags := if t.isSome then f.parse.tags else 0
    stag := (stagKind f.parse).bind fun _ => f.parse.anchor 2
    l3 := match f.parse.fixed 0 with | some x => some x | none => f.parse.fixed 1
    l4 := f.parse.fixed 2
    app := f.parse.fixed 4 }

/-- The IP header at L3 is version 4. -/
def Frame.ip4 (f : Frame) : Bool := (f.parse.fixed 0).isSome

/-! ### IP and PTP fields -/

/-- The 16-bit word at offset `o` of an IPv4 header changed, its header checksum with it (R184, R213, R275). -/
def putIp4 (b : Bytes) (l3 o v : Nat) : Bytes :=
  putWord (putWord b (l3 + 10) (csumUpdate (be16 b (l3 + 10)) (be16 b (l3 + o)) v)) (l3 + o) v

/-- TTL or hop limit decremented (R184). -/
def Ed.ttl (e : Ed) (v4 : Bool) : Ed :=
  match e.l3 with
  | none => e
  | some l =>
    if v4 then { e with b := putIp4 e.b l 8 (be16 e.b (l + 8) - 256) }
    else { e with b := putAt e.b (l + 7) [byteAt e.b (l + 7) - 1] }

/-- The byte of DSCP and ECN. -/
def Ed.tos (e : Ed) (v4 : Bool) : Option Nat :=
  e.l3.map fun l => if v4 then be16 e.b l % 256 else be16 e.b l / 16 % 256

/-- The byte of DSCP and ECN replaced. -/
def Ed.setTos (e : Ed) (v4 : Bool) (v : Nat) : Ed :=
  match e.l3 with
  | none => e
  | some l =>
    if v4 then { e with b := putIp4 e.b l 0 (be16 e.b l / 256 * 256 + v % 256) }
    else { e with b := putWord e.b l (setBits (be16 e.b l) 4 8 v) }

/-- DSCP remark (R213). -/
def Ed.dscp (e : Ed) (v4 : Bool) (d : Nat) : Ed :=
  match e.tos v4 with
  | some t => e.setTos v4 (d * 4 + t % 4)
  | none => e

/-- CE set on an ECT frame (R275). -/
def Ed.ce (e : Ed) (v4 : Bool) : Ed :=
  match e.tos v4 with
  | some t => if t % 4 = 1 ∨ t % 4 = 2 then { e.setTos v4 (t / 4 * 4 + 3) with marked := true } else e
  | none => e

/-- Residence added to a correctionField, the sum held at the largest value (R52). -/
def corrected (old : Nat) (d : Int) : Nat := unsigned 64 (min (2 ^ 63 - 1) (signed 64 old + d))

/-- The four words at `i` replaced by `v`, a non-zero UDP checksum at `c` following them (R52). -/
def putCorrection (b : Bytes) (i v : Nat) (c : Option Nat) : Bytes :=
  let c' := match c with
    | none => b
    | some c =>
      if be16 b c = 0 then b else
      let h := (List.range 4).foldl (fun h k => csumUpdate h (be16 b (i + 2 * k)) (bits v (48 - 16 * k) 16)) (be16 b c)
      putWord b c (if h = 0 then 65535 else h)
  putAt c' i (beBytes 8 v)

/-- Message types that a TC_MODE corrects (R52). -/
def tcCorrects (mode msg : Nat) : Bool :=
  match mode with
  | 1 => decide (msg ≤ 3)
  | 2 => msg == 0
  | _ => false

namespace State

/-! ### The edit sequence (R279) -/

/-- OAS_EDITp's field of a stream tag. -/
def tagEdit (s : State) (b : Bool) (p : Nat) (k : StreamTag) : Nat := s.cf b (OAS_EDIT p) k.field 2

/-- Path written on port `p` (R228). -/
def txPath (s : State) (c : Copy) : Bool := match c.path with | some x => x | none => s.cbit c.bank (CVN_PORT c.port) 1

/-- Removal of the tag at STAG where the port's field says so. -/
def editRemove (s : State) (c : Copy) (f : Frame) (e : Ed) : Ed :=
  match stagKind f.parse, e.stag with
  | some k, some i => if s.tagEdit c.bank c.port k = 2 then { e.remove i k.size with stag := none } else e
  | _, _ => e

/-- The next hop that rewrites a copy. -/
def editHop (s : State) (c : Copy) (f : Frame) : Option Nat :=
  f.dec.nh.bind fun n => s.crested c.bank tblNextHop 4 n 128

/-- Addresses and TTL of a routed copy (R184). -/
def editL3 (f : Frame) (x : Nat) (e : Ed) : Ed :=
  let e := { e with b := beBytes 6 (bits x 0 48) ++ beBytes 6 (bits x 48 48) ++ e.b.drop 12 }
  if bit x 117 then e.ttl f.ip4 else e

/-- The outer tag of a copy that leaves with VID `vid` (R281). -/
def editTag (s : State) (c : Copy) (f : Frame) (vid : Nat) (e : Ed) : Ed :=
  let untag := (s.vlan c.bank (ergOf f.port) vid).any fun v => vlanUntag v c.port
  match e.tag with
  | some o =>
    if untag then
      let e := e.remove o 4
      { e with tags := e.tags - 1, tag := if e.tags ≤ 1 then none else some o }
    else { e with b := putWord e.b (o + 2) (setBits (be16 e.b (o + 2)) 0 12 vid) }
  | none =>
    if untag then e
    else
      let e := e.insert 12 (beBytes 2 (s.cf c.bank (OAS_EDIT c.port) 16 16) ++
        beBytes 2 (f.dec.pcp * 8192 + b2n f.dec.dei * 4096 + vid % 4096))
      { e with tag := some 12, tags := 1 }

/-- PCP, DEI and DSCP remarks (R213, R281). -/
def editRemarks (f : Frame) (e : Ed) : Ed :=
  let e := match e.tag with
    | some o =>
      let t := be16 e.b (o + 2)
      let t := match f.dec.rePcp with | some v => setBits t 13 3 v | none => t
      let t := match f.dec.reDei with | some v => setBits t 12 1 v | none => t
      { e with b := putWord e.b (o + 2) t }
    | none => e
  match f.dec.reDscp with
  | some d => e.dscp f.ip4 d
  | none => e

/-- A copy carries HOLD: a substitute or a probe, made here or received (R225, R280). -/
def copyHolds (c : Copy) (f : Frame) : Bool :=
  c.kind == 3 || c.kind == 4 ||
    match stagKind f.parse, f.parse.anchor 2 with
    | some .renil, some i => bits (beAt f.bytes i 8) 45 1 == 1 && bits (beAt f.bytes i 8) 46 2 == 1
    | _, _ => false

/-- TRACE of a copy: the descriptor's, 1 on a probe (R241, R257). -/
def copyTrace (c : Copy) (f : Frame) : Bool := c.kind == 4 || f.trace

/-- Insertion of one stream tag after the VLAN tags (R280). -/
def editInsert (s : State) (c : Copy) (f : Frame) (k : StreamTag) (e : Ed) : Ed :=
  if s.tagEdit c.bank c.port k ≠ 1 ∨ stagKind f.parse = some k then e else
  match k, f.seq, f.dec.handle with
  | _, none, _ => { e with skipped := e.skipped + 1 }
  | .renil, some _, none => { e with skipped := e.skipped + 1 }
  | .renil, some q, some h => e.insert e.afterTags
      (renilTag (s.cf c.bank CVN_RENIL 0 16) (copyHolds c f) (s.txPath c) (copyTrace c f) h q)
  | .rtag, some q, _ => e.insert e.afterTags (beBytes 2 0xF1C1 ++ beBytes 2 0 ++ beBytes 2 q)
  | .hsr, some q, _ => e.insert e.afterTags (beBytes 2 0x892F ++ beBytes 2 (b2n (s.txPath c) * 4096) ++ beBytes 2 q)

/-- PATH, HOLD and TRACE of a tag that the copy keeps (R280). -/
def editKept (s : State) (c : Copy) (f : Frame) (e : Ed) : Ed :=
  match stagKind f.parse, e.stag with
  | some .renil, some i =>
    let w := setBits (setBits (setBits (be16 e.b (i + 2)) 13 1 (b2n (copyHolds c f))) 12 1 (b2n (s.txPath c))) 11 1 (b2n (copyTrace c f))
    { e with b := putWord e.b (i + 2) w }
  | some .hsr, some i => { e with b := putWord e.b (i + 2) (setBits (be16 e.b (i + 2)) 12 4 (b2n (s.txPath c))) }
  | _, _ => e

/-- The PRP trailer: kept, appended or removed (R280). -/
def editPrp (s : State) (c : Copy) (f : Frame) (e : Ed) : Ed :=
  let lan := 10 + b2n (s.txPath c)
  let n := e.b.length
  if (prpOf f.bytes f.parse.tags).isSome then
    if s.cf c.bank (OAS_EDIT c.port) 6 2 = 2 then { e with b := e.b.take (n - 6) }
    else { e with b := putWord e.b (n - 4) (setBits (be16 e.b (n - 4)) 12 4 lan) }
  else if s.cf c.bank (OAS_EDIT c.port) 6 2 = 1 then
    match f.seq with
    | none => { e with skipped := e.skipped + 1 }
    | some q => { e with
        b := e.b ++ beBytes 2 q ++ beBytes 2 (lan * 4096 + lsduSize (n + 10) e.tags) ++ beBytes 2 0x88FB }
  else e

/-- LSDUsize of an HSR tag that was inserted (R280). -/
def editHsrSize (s : State) (c : Copy) (f : Frame) (i : Nat) (e : Ed) : Ed :=
  if s.tagEdit c.bank c.port .hsr = 1 ∧ stagKind f.parse ≠ some .hsr ∧ f.seq.isSome then
    { e with b := putWord e.b (i + 2) (setBits (be16 e.b (i + 2)) 0 12 (lsduSize (e.b.length + 4) e.tags)) }
  else e

/-- The time base that serves a PTP domain, the lowest-numbered active entry (R51). -/
def ptpBase (s : State) (b : Bool) (dom : Nat) : Option Nat :=
  (List.range 4).find? fun k => s.cbit b TMB_PTP_DOMAIN_EN k && s.cf b TMB_PTP_DOMAIN_MAP (8 * k) 8 == dom

/-- Offset of a PTP event message in a copy, whole in its bytes (R50). -/
def Ed.ptp (e : Ed) : Option Nat := e.app.filter fun a => decide (a + 34 ≤ e.b.length)

/-- PTP correction at raw counts `raws` of the egress stamp (R51, R52, R54). -/
def editPtp (s : State) (c : Copy) (f : Frame) (raws : List Nat) (e : Ed) : Ed :=
  match Ed.ptp e with
  | none => e
  | some a =>
    match s.ptpBase c.bank (byteAt e.b (a + 4)).toNat with
    | none => e
    | some k =>
      let mode := s.cf c.bank (TMB_PORT_PTP c.port) 0 2
      if f.port = 64 ∨ ¬ tcCorrects mode ((byteAt e.b a).toNat % 16) then e else
      let d : Int := (raws.getD k 0 / 2 ^ 24 : Int) - (f.raw.getD k 0 / 2 ^ 24 : Int)
      let d := if mode = 2 ∧ f.port < 64 then d + s.cf c.bank (TMB_PORT_LINK_DLY f.port) 0 32 else d
      { e with b := putCorrection e.b (a + 8) (corrected (beAt e.b (a + 8) 8) d) (e.l4.map (· + 6)) }

/-- A copy for ports 0 to 63 after every edit but padding and FCS (R279). Each stream tag is inserted before those
inserted earlier, so that they leave in the order HSR, R-TAG, Renil. -/
def editCopy (s : State) (c : Copy) (f : Frame) (raws : List Nat) : Ed :=
  let e := s.editRemove c f f.toEd
  let hop := s.editHop c f
  let e := match hop with | some x => editL3 f x e | none => e
  let e := s.editTag c f (match hop with | some x => bits x 96 12 | none => f.dec.vid) e
  let e := editRemarks f e
  let e := if c.ce then e.ce f.ip4 else e
  let i := e.afterTags
  let e := s.editInsert c f .renil e
  let e := s.editInsert c f .rtag e
  let e := s.editInsert c f .hsr e
  let e := s.editKept c f e
  let e := s.editPrp c f e
  let e := s.editPtp c f raws e
  s.editHsrSize c f i e

/-- A mirror copy's bytes without FCS (R215). -/
def mirrorBytes (x : Nat) (b : Bytes) : Bytes :=
  let b := if bit x 7 then b.take 12 ++ beBytes 2 0x8100 ++ beBytes 2 (bits x 20 3 * 8192 + bits x 8 12) ++ b.drop 12 else b
  if bit x 26 then b.take (bits x 27 14 - 4) else b

/-- Padding to 60 bytes before the FCS (R119). -/
def padded (b : Bytes) : Bytes := b ++ List.replicate (60 - b.length) 0

/-- What leaves of a copy, without FCS: mirror copies and frames sent without lookup carry no edit but padding
(R279, R359); copies to ports 64 to 68 leave as stored, those to a recirculation port stripped (R202). -/
def outBody (s : State) (c : Copy) (f : Frame) (raws : List Nat) : Bytes :=
  match c.own with
  | some b => padded b
  | none =>
    let body := f.bytes.take (f.bytes.length - 4)
    if c.port = 64 then body
    else if 64 < c.port then body.drop ((f.dec.strip.bind f.parse.anchor).getD 0)
    else if f.bypass then padded body
    else padded (s.editCopy c f raws).b

/-- Length of a copy after its edits and padding, with FCS (R293). -/
def outLen (s : State) (c : Copy) (f : Frame) : Nat := (s.outBody c f f.raw).length + 4

/-- The edits of a copy to port `p` need the frame's length (R282): an HSR tag or a PRP trailer goes in where there is a sequence
number (R280). Whether a trailer is there to be removed or kept is known only with the last byte, so an edit of either kind
stands for one (DEDUCED, log entry 137). -/
def needsLength (s : State) (f : Frame) (p : Nat) (seq : Bool) : Bool :=
  (seq && s.tagEdit f.bank p .hsr == 1 && stagKind f.parse != some .hsr) || (seq && s.cf f.bank (OAS_EDIT p) 6 2 == 1) ||
    s.cf f.bank (OAS_EDIT p) 6 2 == 2

end State

end Sys2Proof.Machine
end

