-- ==== Sys2Proof/Machine/Vectors.lean ====
section
/-! DEFINITION. Interrupts (R363, R364, R407): the lines, the vectors and their MSI-X messages. -/

namespace Sys2Proof.Machine

/-- Base of the registers of a DMA channel: receive rings 0 to 15, transmit rings 16 to 31, table channels 32 to 35
(R360, R366). -/
def chanBase (c : Nat) : Nat := if c < 16 then HST (0x400 + c * 0x20) else if c < 32 then HST (0x600 + (c - 16) * 0x20) else
  HST (0x800 + (c - 32) * 0x20)

namespace State

/-- Host-interface state replaced. -/
def setIfc (s : State) (i : HostIf) : State := { s with ifc := i }

/-- The line of a status register whose enable register follows it (R363). -/
def irqLine (s : State) (off : Nat) : Bool := s.reg off &&& s.reg (off + 4) != 0

/-- FLT's line (R336): a pending source that has IRQ. -/
def fltLine (s : State) : Bool :=
  (List.range 64).any fun n => s.rbit (0x40008 + n / 32 * 4) (n % 32) && s.cbit s.crest.bank (0x40100 + 4 * n) 2

/-- `clk` of the completions of a channel that are not acknowledged. -/
def unacked (s : State) (c : Nat) : List Nat := s.ifc.done.getD c []

/-- The line of a ring or a table channel (R363). -/
def ringLine (s : State) (c : Nat) : Bool :=
  let l := s.unacked c
  let us := s.rf (chanBase c + 0x14) 8 16
  match l with
  | [] => false
  | a :: _ => Nat.ble (s.rf (chanBase c + 0x14) 0 8) l.length || (us != 0 && Nat.ble (a + us * 250) s.time.clk)

/-- Records that a ring of the monitors holds unread (R407). -/
def unread (s : State) (prod cons size : Nat) : Nat := (s.rf prod 0 17 + 2 ^ size - s.rf cons 0 17 % 2 ^ size) % 2 ^ size

/-- Vector 28 (R407). -/
def monLine (s : State) : Bool :=
  (if s.rbit MON_DUMP_CFG 1 then s.ifc.pulse
    else Nat.ble (s.rf MON_DUMP_CFG 8 8) (s.unread MON_DUMP_PROD MON_DUMP_CONS (s.rf MON_DUMP_CFG 3 5))) ||
    Nat.ble (s.rf MON_TRC_RING 8 8) (s.unread MON_TRC_PROD MON_TRC_CONS (s.rf MON_TRC_RING 1 5))

/-- The condition of a vector (R363). -/
def vecCond (s : State) (v : Nat) : Bool :=
  if v = 0 then s.irqLine GLB_IRQ_STATUS
  else if v = 1 then s.fltLine
  else if v < 11 then
    s.irqLine ([CRS_IRQ_STATUS, TMB_IRQ_STATUS, PWR_IRQ_STATUS, 0x60030, MON_IRQ_STATUS, HST 0x020, OAS_IRQ_STATUS, CVN_IRQ_STATUS,
      SCH_IRQ_STATUS].getD (v - 2) 0)
  else if v < 15 then
    s.irqLine (ERG_PRS_IRQ_STATUS (v - 11)) || s.irqLine (ERG_FWD_IRQ_STATUS (v - 11)) || s.irqLine (ERG_CLS_IRQ_STATUS (v - 11))
  else if v < 23 then s.irqLine (LNE_IRQ_STATUS (v - 15))
  else if v < 27 then (List.range 69).any fun p => ergOf p == v - 23 && s.irqLine (MAC_IRQ_STATUS p)
  else if v = 27 then (List.range 4).any fun c => s.ringLine (32 + c)
  else if v = 28 then s.monLine
  else if v < 32 then false
  else if v < 64 then s.ringLine (v - 32)
  else false

/-- The vector goes to the management core (R364). -/
def vecMgmt (s : State) (v : Nat) : Bool := s.rbit (HST 0x038 + v / 32 * 4) (v % 32)

/-- The vector's message is masked (R364). -/
def vecMasked (s : State) (v : Nat) : Bool := s.ifc.fmask || s.rbit (HST (0x800C + 16 * v)) 0

/-- The vector's PBA bit (R364). -/
def vecPba (s : State) (v : Nat) : Bool :=
  !s.vecMgmt v && s.rbit (HST 0x000) 10 && s.vecMasked v && s.vecCond v && !s.ifc.service.contains v

/-- 32 bits from a predicate of vectors, from vector `base` up. -/
def vecWord (f : Nat → Bool) (base : Nat) : Nat := (List.range 32).foldl (fun a i => a + b2n (f (base + i)) * 2 ^ i) 0

/-- Vectors whose condition has gone leave service (R364). -/
def vecSettle (s : State) : State := s.setIfc { s.ifc with service := s.ifc.service.filter s.vecCond }

/-- A vector may send its message, but for MIN_US (R364). -/
def vecReady (s : State) (v : Nat) : Bool :=
  Nat.blt v 64 && !s.vecMgmt v && s.vecCond v && !s.ifc.service.contains v && s.rbit (HST 0x000) 10 && !s.vecMasked v

/-- One MSI-X message. -/
def vecSend (s : State) (v : Nat) : State :=
  let e := HST (0x8000 + 16 * v)
  let s := (s.hostWrite (s.reg e / 4 * 4 + s.reg (e + 4) * 2 ^ 32) (leBytes 4 (s.reg (e + 8)))).event 6 6 1
  s.setIfc { s.ifc with
    service := s.ifc.service ++ [v]
    last := sparsePut (fun _ => 0) v (s.time.clk + 1) s.ifc.last
    pulse := s.ifc.pulse && v != 28 }

/-- MSIX_MESSAGE, R364: none in SAFE (R339). -/
def msixMessage (s : State) (v : Nat) : State :=
  if s.mode = .safe ∨ ¬ s.vecReady v then s
  else
    let l := sparseGet (fun _ => 0) v s.ifc.last
    let s := if l = 0 then s else s.elapse (l - 1 + s.rf (HST (0x100 + 4 * v)) 0 16 * 250 - s.time.clk)
    (s.vecSend v).vecSettle

/-- `n` bytes moved by DMA channel `c` (R394). -/
def dmaMoved (s : State) (c n : Nat) : State := s.event 6 5 n { master := 2 + c }

/-- A descriptor completes (R394): where `irq` it counts towards the channel's interrupt (R363). -/
def complete (s : State) (c : Nat) (irq : Bool) : State :=
  let s := s.event 6 4 1 { master := 2 + c }
  if irq then s.setIfc { s.ifc with done := s.ifc.done.set c (s.unacked c ++ [s.time.clk]) } else s

/-- `n` completions acknowledged (R363). -/
def acknowledge (s : State) (c n : Nat) : State := (s.setIfc { s.ifc with done := s.ifc.done.set c ((s.unacked c).drop n) }).vecSettle

/-- COAL.US has passed since the first completion that is not acknowledged (R363). -/
def coalExpire (s : State) (c : Nat) : State :=
  let us := s.rf (chanBase c + 0x14) 8 16
  match s.unacked c with
  | [] => s
  | a :: _ => if us = 0 then s else s.elapse (a + us * 250 - s.time.clk)

/-! ### Channels (R356, R360) -/

/-- The channel's registers say that it runs. -/
def chanOn (s : State) (c : Nat) : Bool := s.rbit (chanBase c) 0 && !s.rbit (chanBase c + 0x1C) 0

/-- Descriptors of a channel. -/
def chanSize (s : State) (c : Nat) : Nat := 2 ^ s.rf (chanBase c) 2 4

/-- The device owns a descriptor of the channel. -/
def chanPosted (s : State) (c : Nat) : Bool :=
  s.rf (chanBase c + 0x0C) 0 12 % s.chanSize c != s.rf (chanBase c + 0x10) 0 12 % s.chanSize c

/-- HEAD moves on. -/
def chanAdvance (s : State) (c : Nat) : State :=
  s.setFld (chanBase c + 0x0C) 0 12 ((s.rf (chanBase c + 0x0C) 0 12 + 1) % s.chanSize c)

/-- The channel's ring stands in management SRAM. -/
def chanSram (s : State) (c : Nat) : Bool := s.rbit (chanBase c) 1

/-- Address of the descriptor at HEAD, of `n` bytes. -/
def chanDesc (s : State) (c n : Nat) : Nat :=
  s.baseAddr (chanBase c + 0x04) (chanBase c + 0x08) (s.chanSram c) + s.rf (chanBase c + 0x0C) 0 12 % s.chanSize c * n

/-- A DMA error: the channel stops at the failing descriptor (R360). -/
def chanError (s : State) (c : Nat) : State :=
  ((s.setBit (chanBase c + 0x1C) 0).raise 18 c (s.rf (chanBase c + 0x0C) 0 12)).setBit (HST 0x020) 1

/-- A range of SRAM goes beyond its end (R360). -/
def sramBeyond (sram : Bool) (a n : Nat) : Bool := sram && Nat.blt sramSize (a + n)

end State

end Sys2Proof.Machine
end

