-- ==== Sys2Proof/Machine/Time.lean ====
section
/-! DEFINITION. Time bases, transmit timestamp queues, TIME_IO pins and the keeper (R38 to R65). -/

namespace Sys2Proof.Machine

namespace State

/-! ### Time bases -/

/-- A time base's count replaced. -/
def setCount (s : State) (n c : Nat) : State :=
  { s with time := { s.time with cnt := s.time.cnt.set n (wrapCount c) } }

/-- TMB_TBn_LOAD as a count (R41). -/
def loadValue (s : State) (n : Nat) : Nat :=
  (s.rf (TMB_TB n + 0x1C) 0 16 * 2 ^ 32 + s.rf (TMB_TB n + 0x20) 0 32) * secUnit + s.rf (TMB_TB n + 0x24) 0 30 * nsUnit

/-- TMB_TBn_STEP as a signed offset (R41). -/
def stepValue (s : State) (n : Nat) : Int :=
  signed 32 (s.reg (TMB_TB n + 0x28)) * secUnit + signed 32 (s.reg (TMB_TB n + 0x2C)) * nsUnit

/-- What every SET and STEP leaves behind (R41), `old` being the count before it: the next edge of the time base's output
pins lies after the new time, and a pulse in progress keeps its WIDTH (R60). -/
def adjusted (s : State) (n old : Nat) : State :=
  let s := ((s.setFld (TMB_TB_STATUS n) 0 1 1).wrapFld (TMB_TB_STATUS n) 8 8).setReg (TMB_TB_LAST_ADJ n) (ns32 (s.count n))
  let tio := (List.range 4).map fun i =>
    let t := s.time.tio.getD i {}
    if s.rf (TMB_TIO i) 2 2 = n then
      { after := some (s.count n), pulseEnd := t.pulseEnd.map fun e => shiftCount e (Int.ofNat (s.count n) - Int.ofNat old) }
    else t
  { s with time := { s.time with tio, setAt := if n = 0 then s.time.clk else s.time.setAt } }

/-- SET (R41). -/
def tbSet (s : State) (n : Nat) : State :=
  let s := s.elapse 1
  (s.setCount n (s.loadValue n)).adjusted n (s.count n)

/-- STEP, saturating at zero (R41). -/
def tbStep (s : State) (n : Nat) : State :=
  let s := s.elapse 1
  (s.setCount n (shiftCount (s.count n) (s.stepValue n))).adjusted n (s.count n)

/-- TAKE (R44): all counts and raw counts at once; DONE clears. -/
def snapTake (s : State) : State :=
  let s := s.clrBit TMB_SNAP 1
  { s with time := { s.time with snap := some (s.time.cnt, s.time.raw) } }

/-- The snapshot registers of one time base. -/
def showSnap (s : State) (n c r : Nat) : State :=
  let sec := c / secUnit
  (((((s.setReg (TMB_TB n) (sec / 2 ^ 32)).setReg (TMB_TB n + 0x04) (sec % 2 ^ 32)).setReg (TMB_TB n + 0x08)
    (totalNs c % 1000000000)).setReg (TMB_TB n + 0x0C) (frac16 c)).setReg (TMB_TB n + 0x10)
    (totalNs r / 2 ^ 32 % 2 ^ 32)).setReg (TMB_TB n + 0x14) (totalNs r % 2 ^ 32)

/-- The snapshot reaches the register bus: the registers take it and DONE sets (R44). -/
def snapDone (s : State) : State :=
  match s.time.snap with
  | none => s
  | some (c, r) =>
    let s := s.each (List.range 4) fun s n => s.showSnap n (c.getD n 0) (r.getD n 0)
    ({ s with time := { s.time with snap := none } }).setBit TMB_SNAP 1

/-! ### Stamps (R45 to R49) -/

/-- Bound of the stamp's deviation in units of 2^-8 ns (R49); `rate` as LNE_Ll_CFG.RATE, 4 for a field port. -/
def stampBound (rate : Nat) : Nat :=
  match rate with
  | 0 => 384
  | 1 => 768
  | 2 => 2048
  | 4 => 10240
  | _ => 384

/-- The deviation of a stamp held within its bound. -/
def boundDev (b : Nat) (dev : Int) : Int := clampInt (-(Int.ofNat b)) b dev

/-- RATE of a port's PHY: the lane's, 0 where the quad is one 100GBASE-R port, 4 for a field port (R49, R90). -/
def phyRate (s : State) (b : Bool) (p : Nat) : Nat :=
  if p < 32 then (if s.cbit b (LNE_QUAD_CFG (p / 4)) 0 then 0 else s.cf b (LNE_L_CFG p) 0 2) else 4

/-- Correction of a stamp at port `p`: its delay register and the deviation (R48, R49). -/
def stampShift (s : State) (off p : Nat) (dev : Int) : Int :=
  if p < 64 then delayUnits (s.rf off 0 16) + boundDev (stampBound (s.phyRate s.crest.bank p)) dev * 2 ^ 32 else 0

/-- The four stamps on the counts, and on the raw counts, at the present instant. -/
def stamps (s : State) (shift : Int) : List Nat × List Nat :=
  (s.time.cnt.map fun c => shiftCount c shift, s.time.raw.map fun c => shiftCount c shift)

/-! ### Transmit timestamp queues (R55 to R57) -/

/-- The queue of a port. -/
def txtsQueue (s : State) (p : Nat) : List TxtsEntry := s.time.txts.getD p []

/-- A queue replaced. -/
def setTxts (s : State) (p : Nat) (q : List TxtsEntry) : State :=
  { s with time := { s.time with txts := s.time.txts.set p q } }

/-- An entry is due (R56): written, or discarded where the queue holds 8; nothing in SAFE. -/
def txtsWrite (s : State) (p : Nat) (e : TxtsEntry) : State :=
  if s.mode = .safe then s
  else if 8 ≤ (s.txtsQueue p).length then
    ((((s.setBit (TMB_TXTS_STATUS p) 4).bump (TMB_TXTS_OVF_CNT p)).setBit TMB_IRQ_STATUS 10).raise 28 p)
  else (s.setTxts p (s.txtsQueue p ++ [e])).setBit TMB_IRQ_STATUS 0

/-- The head entry is removed (R57). -/
def txtsPop (s : State) (p : Nat) : State := s.setTxts p (s.txtsQueue p).tail

/-- TMB_TXTS_LO and _HI as they read (R57, R65). -/
def txtsLo (s : State) (p : Nat) : Nat :=
  match s.txtsQueue p with
  | [] => 0
  | e :: _ => e.ns32

@[inherit_doc txtsLo]
def txtsHi (s : State) (p : Nat) : Nat :=
  match s.txtsQueue p with
  | [] => 0
  | e :: _ => e.frac + e.tb * 2 ^ 8 + b2n e.dropped * 2 ^ 10 + 2 ^ 11 + e.id * 2 ^ 16

/-- TMB_TXTS_PENDING of ports `base` to `base + 31`. -/
def txtsPending (s : State) (base : Nat) : Nat :=
  (List.range 32).foldl (fun a b => a + if (s.txtsQueue (base + b)).isEmpty then 0 else 2 ^ b) 0

/-! ### TIME_IO pins (R58 to R60) -/

/-- Sequencer of a pin. -/
def tio (s : State) (i : Nat) : Tio := s.time.tio.getD i {}

/-- Sequencer of a pin replaced. -/
def setTio (s : State) (i : Nat) (t : Tio) : State := { s with time := { s.time with tio := s.time.tio.set i t } }

/-- MODE of a pin: 1 capture, 2 output. -/
def tioMode (s : State) (i : Nat) : Nat := s.rf (TMB_TIO i) 0 2

/-- Time base of a pin. -/
def tioTb (s : State) (i : Nat) : Nat := s.rf (TMB_TIO i) 2 2

/-- An edge of the selected kind: 1 rising, 2 falling, 3 both. -/
def tioSelects (s : State) (i : Nat) (rising : Bool) : Bool :=
  match s.rf (TMB_TIO i) 4 2 with
  | 1 => rising
  | 2 => !rising
  | _ => true

/-- The capture registers of a pin take a time (R59). -/
def tioCapture (s : State) (i c : Nat) : State :=
  let sec := c / secUnit
  ((((s.setReg (TMB_TIO i + 0x18) (sec / 2 ^ 32)).setReg (TMB_TIO i + 0x1C) (sec % 2 ^ 32)).setReg (TMB_TIO i + 0x20)
    (totalNs c % 1000000000)).setReg (TMB_TIO i + 0x24) (frac16 c))

/-- An edge at a capture pin (R58, R59), ignored in SAFE (R339). The capture deviates by at most 4 ns (R49). -/
def tioEdge (s : State) (i : Nat) (rising : Bool) (dev : Int) : State :=
  if s.tioMode i = 2 ∨ s.mode = .safe then s else
  let s := s.putBit (TMB_TIO_STATUS i) 2 rising
  if s.tioMode i = 1 ∧ s.tioSelects i rising then
    if s.rbit (TMB_TIO_STATUS i) 0 then (s.setBit (TMB_TIO_STATUS i) 1).setBit TMB_IRQ_STATUS (5 + i)
    else ((s.tioCapture i (shiftCount (s.count (s.tioTb i)) (boundDev 1024 dev * 2 ^ 32))).setBit (TMB_TIO_STATUS i) 0).setBit
      TMB_IRQ_STATUS (1 + i)
  else s

/-- START of a pin as a count. -/
def tioStart (s : State) (i : Nat) : Nat :=
  (s.rf (TMB_TIO i + 0x04) 0 16 * 2 ^ 32 + s.rf (TMB_TIO i + 0x08) 0 32) * secUnit + s.rf (TMB_TIO i + 0x0C) 0 30 * nsUnit

/-- PERIOD in nanoseconds. -/
def tioPeriod (s : State) (i : Nat) : Nat := s.reg (TMB_TIO i + 0x10)

/-- Length of a pulse: WIDTH, or PERIOD − 8 ns where WIDTH is not less than PERIOD (R60). -/
def tioWidth (s : State) (i : Nat) : Nat :=
  if s.tioPeriod i ≤ s.reg (TMB_TIO i + 0x14) then s.tioPeriod i - 8 else s.reg (TMB_TIO i + 0x14)

/-- The first START + k × PERIOD strictly later than `a`. -/
def edgeAfter (start period a : Nat) : Nat :=
  if a < start then start else start + ((a - start) / period + 1) * period

/-- The next edge of an output pin (R60). -/
def tioNext (s : State) (i : Nat) : Nat :=
  match (s.tio i).after with
  | none => s.tioStart i
  | some a => edgeAfter (s.tioStart i) (s.tioPeriod i * nsUnit) a

/-- Level of an output pin while its pulse is active or not: POLARITY 0 is active high (R60). -/
def tioDrive (s : State) (i : Nat) (active : Bool) : State :=
  s.putBit (TMB_TIO_STATUS i) 2 (active != s.rbit (TMB_TIO i) 6)

/-- An output pulse starts at its edge (R60). -/
def tioPulse (s : State) (i : Nat) : State :=
  if s.tioMode i ≠ 2 ∨ s.mode = .safe then s else
  let e := s.tioNext i
  let s := s.elapseTo (s.tioTb i) e
  (s.setTio i { after := some e, pulseEnd := some (e + s.tioWidth i * nsUnit) }).tioDrive i true

/-- An output pulse ends after WIDTH (R60). -/
def tioEnd (s : State) (i : Nat) : State :=
  match (s.tio i).pulseEnd with
  | none => s
  | some e =>
    let s := s.elapseTo (s.tioTb i) e
    (s.setTio i { s.tio i with pulseEnd := none }).tioDrive i false

/-- A write to a TIO register of a pin: the next edge is the one the new values compute (R60). -/
def tioWritten (s : State) (i : Nat) : State :=
  if s.tioMode i = 2 then
    let s := s.setTio i { s.tio i with after := some (s.count (s.tioTb i)) }
    if (s.tio i).pulseEnd.isNone then s.tioDrive i false else s
  else s.setTio i {}

/-! ### Keeper (R61 to R64) -/

/-- The present cycle is a second rollover of TB0: its count has passed a second in it, not been set there. -/
def atRollover (s : State) : Bool := decide (s.count 0 % secUnit < s.increment 0) && s.time.setAt != s.time.clk

/-- The next second rollover of TB0, where the present cycle is not one. -/
def toRollover (s : State) : State := if s.atRollover then s else s.elapseTo 0 ((s.count 0 / secUnit + 1) * secUnit)

/-- Realignment of the keeper at a second rollover of TB0 (R61); none while TB0 is held in reset. -/
def keeperRealign (s : State) (err : Int) : State :=
  if s.mainLost ∨ s.timeHeld then s else
  let s := s.toRollover
  let s := s.setKeeper (s.count 0 / secUnit) 0
  let s := { s with time := { s.time with phase := 0 } }
  let s := (s.putBit TMB_KEEPER_STATUS 2 (s.rbit (TMB_TB_STATUS 0) 0)).setBit TMB_KEEPER_STATUS 0
  s.setReg TMB_KEEPER_ERR (unsigned 32 err)

/-- Ticks until the accumulator leaves its 24 bits; none where CORR is 0 and it is inside (R62). -/
def ticksToCarry (s : State) : Option Nat :=
  let c := signed 12 (s.reg TMB_KEEPER_CORR)
  if s.time.acc < 0 ∨ (2 ^ 24 : Int) ≤ s.time.acc then some 0
  else if 0 < c then some (ceilDiv ((2 ^ 24 : Int) - s.time.acc).toNat c.toNat)
  else if c < 0 then some (s.time.acc.toNat / (-c).toNat + 1)
  else none

/-- One tick inserted where the accumulator overflows, one omitted where it underflows (R62). -/
def keeperCarry (s : State) : State :=
  let total := s.keeperSec * 32768 + s.rf TMB_KEEPER_TICKS 0 15
  if s.time.acc < 0 then
    let s := s.setKeeper ((total - 1) / 32768) ((total - 1) % 32768)
    { s with time := { s.time with acc := s.time.acc + 2 ^ 24 } }
  else if (2 ^ 24 : Int) ≤ s.time.acc then
    let s := s.setKeeper ((total + 1) / 32768) ((total + 1) % 32768)
    { s with time := { s.time with acc := s.time.acc - 2 ^ 24 } }
  else s

/-- The accumulator runs to its next overflow or underflow and the tick is corrected (R62). -/
def keeperCorrect (s : State) : State :=
  match s.ticksToCarry with
  | none => s
  | some k =>
    let s := if k = 0 then s else s.elapse (ceilDiv (k * keeperTick - s.time.phase) 256)
    s.keeperCarry

/-- Start of the time bases when the TIME domain leaves power-on reset (R39, R43, R63, R64): TB0 from the keeper
where that is valid, everything else from zero. -/
def timeStart (s : State) : State :=
  let v := s.rbit TMB_KEEPER_STATUS 0
  let c := s.keeperSec * secUnit + s.rf TMB_KEEPER_TICKS 0 15 * (keeperTick * 2 ^ 34)
  let time : Time := {
    clk := s.time.clk, setAt := s.time.clk, phase := s.time.phase, acc := s.time.acc, cnt := [if v then c else 0, 0, 0, 0] }
  let s := { s with time }
  if v then
    (((s.setBit (TMB_TB_STATUS 0) 1).putBit (TMB_TB_STATUS 0) 0 (s.rbit TMB_KEEPER_STATUS 2)).setBit TMB_IRQ_STATUS 9).raise
      29 (s.keeperSec % 2 ^ 32)
  else s

end State

end Sys2Proof.Machine
end

