-- ==== Sys2Proof/Machine/Trace.lean ====
section
/-! DEFINITION. The dust tracers (R402 to R405): which frames are selected, and what each stage writes of them. -/

namespace Sys2Proof.Machine

/-- One step of a tracer's Galois shift register, x^32 + x^22 + x^2 + x + 1 (R402; log entry 27). -/
def lfsrStep (x : Nat) : Nat := if x % 2 = 1 then (x / 2) ^^^ 0x80200003 else x / 2

/-- A 32-bit word rotated left (R402). -/
def rotl32 (x n : Nat) : Nat := (x * 2 ^ n + x / 2 ^ (32 - n)) % 2 ^ 32

namespace State

/-- Monitor state replaced. -/
def setMon (s : State) (m : Mon) : State := { s with mon := m }

/-- The record under way of a frame. -/
def traced (s : State) (root : Nat) : Option Traced := s.mon.traced.find? fun t => t.root == root && t.outcome.isNone

/-- The record under way of a frame changed. -/
def trace (s : State) (root : Nat) (g : Traced → Traced) : State :=
  s.setMon { s.mon with traced := s.mon.traced.map fun t => if t.root = root ∧ t.outcome.isNone then g t else t }

/-- Elapsed nanoseconds of stage `k` + 1 written at raw TB0 nanoseconds `ns` (R405). -/
def traceAt (s : State) (root k ns : Nat) : State :=
  s.trace root fun t => { t with d := t.d.set k (some ((ns + 2 ^ 32 - t.start / nsUnit % 2 ^ 32) % 2 ^ 32)) }

/-- Selection of a first-pass frame of erg `e` (R402 to R404): the register steps; `tag` says that its Renil stream
tag carries TRACE 1 and HOLD 0, `hold` that it carries HOLD 1. -/
def traceSelect (s : State) (f : Frame) (e : Nat) (tag hold : Bool) : State :=
  if ¬ bit s.mon.ergs e then s else
  let x := lfsrStep (s.mon.lfsr.getD e 1)
  let s := s.setMon { s.mon with lfsr := s.mon.lfsr.set e x }
  let k := s.rf MON_TRC_CFG 4 5
  let follow := s.rbit MON_TRC_CFG 9 && tag
  if hold ∨ ¬ (x % 2 ^ k = 0 ∨ follow) then s
  else if 16 ≤ (s.mon.traced.filter fun t => t.erg == e && t.outcome.isNone).length then s.bump MON_TRC_SKIPPED
  else s.setMon { s.mon with traced := s.mon.traced ++ [{
    root := f.root, erg := e, follow := !(x % 2 ^ k == 0), start := f.raw.getD 0 0 }] }

/-- A record ends (R405): what it says of the frame and of the copy followed. -/
def traceDone (s : State) (f : Frame) (c : Option Copy) (outcome : Nat) : State :=
  s.trace f.root fun t => { t with
    outcome := some outcome
    info := [BitVec.ofNat 8 (t.erg + b2n f.dec.seif * 4 + b2n f.second * 8 + b2n t.follow * 16), BitVec.ofNat 8 outcome,
        BitVec.ofNat 8 f.port, BitVec.ofNat 8 (match c with | some c => c.port | none => 127)] ++ leBytes 2 f.bytes.length ++
      [BitVec.ofNat 8 (f.dec.cls % 8 + b2n f.bank * 8), BitVec.ofNat 8 (min 255 t.copies)] ++
      leBytes 3 (f.dec.handle.getD 0) ++
      [BitVec.ofNat 8 (b2n f.dec.handle.isSome + b2n (c.any (·.rsv)) * 2)] ++ leBytes 2 ((c.map (·.queue)).getD 0) ++
      leBytes 2 (match f.dec.rule with | some r => r % 4096 + 32768 | none => 0) ++ leBytes 4 (ns32 (f.cnt.getD 0 0)) ++
      leBytes 2 (f.seq.getD 0) }

/-- The copies accepted of a frame, and the one its record follows (R405): the port copy to the lowest port, else the
CPU copy, else none and the record ends with `outcome`. A copy to a recirculation port is not followed. -/
def traceAdmit (s : State) (f : Frame) (cs : List Copy) (outcome : Nat) : State :=
  if (s.traced f.root).all (·.copy.isSome) ∨ cs.any (fun c => 64 < c.port) then s else
  let ports := cs.filter fun c => c.kind == 0
  let pick := match ports.find? fun c => ports.all fun x => Nat.ble c.port x.port with
    | some c => some c
    | none => cs.find? fun c => c.kind == 5 || c.kind == 6
  match pick with
  | some c => s.trace f.root fun t => { t with copy := some c.id, copies := cs.length }
  | none => (s.trace f.root fun t => { t with copies := cs.length }).traceDone f none outcome

/-- The copy is the one followed. -/
def follows (s : State) (f : Frame) (c : Copy) : Bool := (s.traced f.root).any fun t => t.copy == some c.id

/-- The copy followed ends with an outcome. -/
def traceEnd (s : State) (f : Frame) (c : Copy) (outcome : Nat) : State :=
  if s.follows f c then s.traceDone f (some c) outcome else s

end State

end Sys2Proof.Machine
end

