-- ==== Sys2Proof/Machine/Cells.lean ====
section
/-! DEFINITION. Cells, chains and references (R255 to R262), frames and their copies as they come and go (R79),
and the accounts that admission reads (R268, R269). -/

namespace Sys2Proof.Machine

abbrev tblQueueBuf : Nat := 0x40
abbrev tblGroup : Nat := 0x41
abbrev tblAccount : Nat := 0x42
abbrev tblSeqGen : Nat := 0x43
abbrev tblSeqState : Nat := 0x44
abbrev tblQueueStat : Nat := 0x45
abbrev tblRsvUse : Nat := 0x46

/-! ### Free cells -/

/-- The `n` lowest free cells, fewer where fewer are free, and what stays free (R258). -/
def takeCells : Nat → List (Nat × Nat) → List Nat × List (Nat × Nat)
  | _, [] => ([], [])
  | n, (a, b) :: r =>
    if n = 0 then ([], (a, b) :: r)
    else if n < b - a then ((List.range n).map (a + ·), (a + n, b) :: r)
    else
      let (t, r) := takeCells (n - (b - a)) r
      ((List.range (b - a)).map (a + ·) ++ t, r)

/-- A cell given back. -/
def giveCell (c : Nat) : List (Nat × Nat) → List (Nat × Nat)
  | [] => [(c, c + 1)]
  | (a, b) :: r =>
    if c + 1 < a then (c, c + 1) :: (a, b) :: r
    else if c + 1 = a then (c, b) :: r
    else if c < b then (a, b) :: r
    else if c = b then
      match r with
      | (a', b') :: r' => if a' = c + 1 then (a, b') :: r' else (a, c + 1) :: r
      | [] => [(a, c + 1)]
    else (a, b) :: giveCell c r

/-- Number of cells in ranges. -/
def rangeCells (l : List (Nat × Nat)) : Nat := l.foldl (fun n x => n + (x.2 - x.1)) 0

/-- A cell is free. -/
def isFree (c : Nat) (l : List (Nat × Nat)) : Bool := l.any fun x => decide (x.1 ≤ c ∧ c < x.2)

/-- Cells of a buffer of pool `n` (R263). -/
def poolCells (n : Nat) : Nat := [2, 6, 11, 54].getD n 54

/-- Bytes of a buffer of pool `n` (R263). -/
def poolBytes (n : Nat) : Nat := [256, 1024, 2048, 10240].getD n 0

/-- Cells of `n` bytes (R255). -/
def cellsFor (n : Nat) : Nat := ceilDiv n 192

/-- First cell of a chain. -/
def Chain.first (c : Chain) : Nat := c.cells.headD 0

namespace State

/-- Packet memory changed. -/
def setOas (s : State) (o : Oasis) : State := { s with oas := o }

/-- The chain that begins at a cell. -/
def chain (s : State) (cell : Nat) : Option Chain := s.oas.chains.find? fun c => c.first == cell

/-- A chain replaced by one with the same first cell. -/
def setChain (s : State) (c : Chain) : State :=
  s.setOas { s.oas with chains := s.oas.chains.map fun x => if x.first = c.first then c else x }

/-- Cells given back to the free store, but for those of a leaf word that is no longer trusted (R258, R283). -/
def giveCells (s : State) (cells : List Nat) : State :=
  s.setOas { s.oas with free := (cells.filter fun c => !s.oas.lostWords.contains (c / 64)).foldl (fun l x => giveCell x l) s.oas.free }

/-- A chain freed: shared cells go to the free store, a buffer to its pool (R259). -/
def freeChain (s : State) (c : Chain) : State :=
  let s := s.event 4 4 c.cells.length
  let chains := s.oas.chains.filter fun x => x.first != c.first
  if c.pool = 7 then (s.setOas { s.oas with chains }).giveCells c.cells
  else s.setOas { s.oas with chains, pools := s.oas.pools.set c.pool (s.oas.pools.getD c.pool [] ++ [c.cells]) }

/-- Prefetch queue of a client. -/
def prefetched (s : State) (k : Nat) : List Nat := s.oas.prefetch.getD k []

/-- The free store brings the prefetch queue of a client that stores frames to 16 cells (R258). -/
def prefetch (s : State) (k : Nat) : State :=
  if s.oas.prefetch.length ≤ k then s else
  let (t, free) := takeCells (16 - (s.prefetched k).length) s.oas.free
  s.setOas { s.oas with free, prefetch := s.oas.prefetch.set k (s.prefetched k ++ t) }

/-- The first `n` cells of a list of queues, and what stays in them. -/
def takeQueued : Nat → List (List Nat) → List Nat × List (List Nat)
  | _, [] => ([], [])
  | n, q :: r =>
    let (t, r) := takeQueued (n - q.length) r
    (q.take n ++ t, q.drop n :: r)

/-- A shared chain allocated with REFCNT 0 (R259), from the client's prefetch queue, which is filled before and after, then from the
free store, then from what other clients have prefetched: the manual does not say when a queue is filled, and which queue holds
a cell affects no result (R24, R258; DESIGN CHOICE, log entry 81). -/
def allocShared (s : State) (n owner : Nat) : State × Nat :=
  let s := s.prefetch owner
  let q := s.prefetched owner
  let (more, free) := takeCells (n - q.length) s.oas.free
  let own := q.take n ++ more
  let (rest, queues) := takeQueued (n - own.length) (s.oas.prefetch.set owner (q.drop n))
  let cells := own ++ rest
  let s := s.event 4 3 cells.length
  ((s.setOas { s.oas with
    free
    prefetch := queues
    chains := s.oas.chains ++ [{ cells, ref := 0, owner, pool := 7 }] }).prefetch owner, cells.headD 0)

/-- A REF (R259, R260): refused above 255. -/
def refChain (s : State) (cell : Nat) : State × Bool :=
  match s.chain cell with
  | none => (s, false)
  | some c => if 255 ≤ c.ref then (s.bump OAS_REF_LIMIT, false) else (s.setChain { c with ref := c.ref + 1 }, true)

/-- A FREE or DEREF that is rejected (R262): counted, logged while the log has room; `kind` 0 for a cell that is
free or carries no frame word, 1 for a count already 0. -/
def doubleFree (s : State) (cell client kind : Nat) : State :=
  let s := ((s.bump OAS_DOUBLE_FREE).setBit OAS_IRQ_STATUS 1).raise 43 cell client kind
  let n := s.rf OAS_DFREE_LOG_CTL 8 5
  if n < 16 then
    (s.setReg (OAS_DFREE_LOG n) (cell % 2 ^ 18 + client * 2 ^ 18 + kind * 2 ^ 22 + 2 ^ 31)).setFld OAS_DFREE_LOG_CTL 8 5 (n + 1)
  else s

/-- KIND of a FREE or DEREF of a cell that begins no chain: 1 for a buffer that has returned to its pool, whose REFCNT is 0, else
0 (R262, R286). -/
def noChainKind (s : State) (cell : Nat) : Nat := b2n (s.oas.pools.any fun l => l.any fun b => b.head? == some cell)

/-- A reference given up, the chain freed with its last one. -/
def dropRef (s : State) (c : Chain) : State :=
  if c.ref ≤ 1 then s.freeChain { c with ref := 0 } else s.setChain { c with ref := c.ref - 1 }

/-- A DEREF by the oasis itself (R259, R262). -/
def deref (s : State) (cell : Nat) : State :=
  match s.chain cell with
  | none => s.doubleFree cell 15 (s.noChainKind cell)
  | some c => if c.ref = 0 then s.doubleFree cell 15 1 else s.dropRef c

/-- A FREE by a client (R261, R262): rejected where the cell carries no frame word or the count is 0, and where the
client is not the owner. -/
def freeBy (s : State) (cell client : Nat) : State :=
  match s.chain cell with
  | none => s.doubleFree cell client (s.noChainKind cell)
  | some c =>
    if c.ref = 0 then s.doubleFree cell client 1
    else if c.owner ≠ client then
      ((((s.bump OAS_FOREIGN_FREE).setReg OAS_FOREIGN_LAST (cell % 2 ^ 18 + client * 2 ^ 18 + c.owner * 2 ^ 22)).setBit
        OAS_IRQ_STATUS 0).raise 42 cell client c.owner)
    else s.dropRef c

/-! ### Pools (R263 to R265) -/

/-- Free buffers of a pool. -/
def poolFree (s : State) (n : Nat) : List (List Nat) := s.oas.pools.getD n []

/-- CARVED of a pool: its free buffers and those in use. -/
def carved (s : State) (n : Nat) : Nat := (s.poolFree n).length + (s.oas.chains.filter fun c => c.pool == n).length

/-- TARGET of a pool. -/
def poolTarget (s : State) (n : Nat) : Nat := s.rf (OAS_POOL_CFG n) 0 14

/-- The pools that may serve a size, smallest first. -/
def poolsFor (size : Nat) : List Nat := (List.range 4).filter fun n => decide (size ≤ poolBytes n)

/-- An allocation (R265): the first cell and the pool, or the failure counted. -/
def allocBuffer (s : State) (size client : Nat) : State × Option (Nat × Nat) :=
  let fit := if size = 0 then [] else poolsFor size
  match fit.find? fun n => !(s.poolFree n).isEmpty with
  | none => (((s.bump OAS_ALLOC_FAIL).setBit OAS_IRQ_STATUS 2).raise 44 size, none)
  | some n =>
    let cells := (s.poolFree n).headD []
    let s := s.event 4 3 cells.length
    let s := s.setOas { s.oas with
      pools := s.oas.pools.set n (s.poolFree n).tail
      chains := s.oas.chains ++ [{ cells, ref := 1, owner := client, pool := n }] }
    (if fit.head? = some n then s else s.bump (OAS_POOL_FALLBACK n), some (cells.headD 0, n))

/-! ### Frames and copies -/

/-- The frame with an identifier. -/
def frame (s : State) (id : Nat) : Option Frame := s.frames.find? fun f => f.id == id

/-- A frame replaced. -/
def setFrame (s : State) (f : Frame) : State := { s with frames := s.frames.map fun x => if x.id = f.id then f else x }

/-- The allocation reference of a frame's buffer is released, if its client still holds it (R264). -/
def releaseAlloc (s : State) (id : Nat) : State :=
  match s.frame id with
  | none => s
  | some f =>
    match f.alloc, f.cell with
    | some client, some cell => (s.setFrame { f with alloc := none }).freeBy cell client
    | _, _ => s

/-- A frame removed, its allocation reference with it. -/
def dropFrame (s : State) (id : Nat) : State :=
  let s := s.releaseAlloc id
  { s with frames := s.frames.filter fun x => x.id != id }

/-- The copies of a frame that the device holds. -/
def copiesOf (s : State) (id : Nat) : List Copy := s.oas.copies.filter fun c => c.frame == id

/-- A copy replaced. -/
def setCopy (s : State) (c : Copy) : State :=
  s.setOas { s.oas with copies := s.oas.copies.map fun x => if x.id = c.id then c else x }

/-- Cells of a copy: the charge of its frame (R266, R267). -/
def copyCells (s : State) (c : Copy) : Nat := match s.frame c.frame with | some f => f.charge | none => 0

/-- A frame whose copies have all left (R79, R80): it goes, stays until its last byte has come, or stays for its pin. -/
def settle (s : State) (id : Nat) : State :=
  match s.frame id with
  | none => s
  | some f =>
    if f.stage ≠ .stored ∨ ¬ (s.copiesOf id).isEmpty then s
    else if ¬ f.lastIn then s.setFrame { f with stage := .dropped }
    else if f.pinned.isSome then s
    else s.dropFrame id

/-- A copy leaves the device (R79): its reference, its descriptor and its place in the queue go. -/
def releaseCopy (s : State) (c : Copy) : State :=
  let s := match s.frame c.frame with | some f => s.traceEnd f c 6 | none => s
  let cell := (s.frame c.frame).bind fun f => f.cell
  let s := s.setOas { s.oas with copies := s.oas.copies.filter fun x => x.id != c.id }
  let s := match cell with | some x => s.deref x | none => s
  s.settle c.frame

/-- A requested transmit timestamp of a copy that is discarded (R56). -/
def droppedStamp (s : State) (c : Copy) : State :=
  match c.ts with
  | some (id, tb) => s.txtsWrite c.port { id, tb, ns32 := 0, frac := 0, dropped := true }
  | none => s

/-- A copy discarded before its transmission: a requested timestamp is written as dropped (R56). -/
def discardCopy (s : State) (c : Copy) : State := (s.droppedStamp c).releaseCopy c

/-- A frame counts in the drain count of its bank: from its stamp to its last copy (R79); substitutes and probes do not hold it
there, whether or not its pin still stands (R80, R277). -/
def counted (s : State) (f : Frame) : Bool :=
  f.stage != .dropped && !(f.stage == .stored && (s.copiesOf f.id).all fun c => c.kind == 3 || c.kind == 4)

/-- The frames stamped with a bank that are counted, one for both passes of a frame (R79). -/
def drainCount (s : State) (b : Bool) : Nat :=
  ((s.frames.filter fun f => f.bank == b && s.counted f).map (·.root)).eraseDups.length

/-! ### Accounts (R268, R269) -/

/-- USED of a reservation account. -/
def rsvUsed (s : State) (r : Nat) : Nat :=
  s.frames.foldl (fun n f => if f.charged && f.rsv == some r && f.pinned.isNone then n + f.charge else n) 0

/-- CELLS of an account in the active bank (R269). -/
def account (s : State) (r : Nat) : Nat := bits (s.tabB s.crest.bank tblAccount r) 0 18

/-- The accounts that hold cells in the active bank. -/
def accounts (s : State) : List (Nat × Nat) :=
  ((if s.crest.bank then s.tbank1 else s.tbank0).filter fun x => x.1 / 2 ^ 24 == tblAccount * 8 + 4).map fun x => (x.1 % 2 ^ 24, bits x.2 0 18)

/-- Pinned cells (R277). -/
def pinUsed (s : State) : Nat := s.frames.foldl (fun n f => if f.pinned.isSome then n + f.charge else n) 0

/-- Charged cells of admitted frames that are not written yet. -/
def unwrittenCells (s : State) : Nat :=
  s.frames.foldl (fun n f => match f.cell.bind s.chain with | some c => n + (f.charge - c.cells.length) | none => n) 0

/-- Free cells: those in the free store's bitmap and those it has handed to prefetch queues (R258; DESIGN CHOICE, log entry 81). -/
def freeCells (s : State) : Nat := rangeCells s.oas.free + (s.oas.prefetch.map List.length).sum

/-- shared_free (R268). -/
def sharedFree (s : State) : Nat :=
  s.freeCells
    - ((List.range 4).foldl (fun n i => n + (s.poolTarget i - s.carved i) * poolCells i) 0
      + s.accounts.foldl (fun n x => n + (x.2 - s.rsvUsed x.1)) 0
      + s.unwrittenCells
      + (s.cf s.crest.bank OAS_PIN_CFG 0 18 - s.pinUsed))

/-- Cells allocated, pools included (R286). -/
def cellsUsed (s : State) : Nat := 196608 - s.freeCells

/-- Free descriptors (R257, R286). -/
def descFree (s : State) : Nat := 196608 - s.oas.copies.length

/-- Depth of a queue (R267). -/
def depth (s : State) (q : Nat) : Nat := s.oas.copies.foldl (fun n c => if c.queue = q then n + s.copyCells c else n) 0

/-- A copy's cells are on its reservation account (R267). -/
def onAccount (s : State) (c : Copy) : Bool := c.rsv && (s.frame c.frame).any (·.charged)

/-- Shared depth of a queue (R267). -/
def sharedDepth (s : State) (q : Nat) : Nat :=
  s.oas.copies.foldl (fun n c => if c.queue = q ∧ ¬ s.onAccount c then n + s.copyCells c else n) 0

/-- What an event of a copy carries (R394). -/
def copyAttr (s : State) (c : Copy) : Attr := { cls := ((s.frame c.frame).map (·.dec.cls)).getD 0, queue := c.queue }

/-- A queue statistic of R285 incremented: 0 ENQUEUED, 1 DROP_LIMIT, 2 DROP_SHARED, 3 MARKED. -/
def queueStat (s : State) (q k : Nat) : State :=
  let x := s.tab tblQueueStat 4 q
  s.setTab tblQueueStat 4 q (setBits x (32 * k) 32 (satAdd 32 (bits x (32 * k) 32) 1))

end State

end Sys2Proof.Machine
end

