-- ==== Sys2Proof/Machine/Sched.lean ====
section
/-! DEFINITION. The scheduler (R287 to R304): queues and their attachment, gates and the fit rules, shapers, the
fair choice, the checks of a queue's head, and bound violations. Every decision reads the active bank (R289). -/

namespace Sys2Proof.Machine

abbrev tblQueue : Nat := 0x50
abbrev tblNode : Nat := 0x51
abbrev tblSubMap : Nat := 0x52
abbrev tblGcl : Nat := 0x53
abbrev tblRsv : Nat := 0x54
abbrev tblBound : Nat := 0x55
abbrev tblBoundStat : Nat := 0x56

namespace State

/-! ### Queues and attachment (R287, R309, R310) -/

/-- Queue scheduling entry in the active bank. -/
def qEntry (s : State) (q : Nat) : Nat := s.tabB s.crest.bank tblQueue q

/-- Service node entry in a bank. -/
def nodeEntry (s : State) (b : Bool) (n : Nat) : Nat := s.tabB b tblNode n

/-- Service node of a subscriber queue in a bank. -/
def parent (s : State) (b : Bool) (q : Nat) : Nat := bits (s.tabB b tblQueue q) 0 10

/-- Port to which a queue is attached in a bank, none where its node is detached (R287). -/
def queuePort (s : State) (b : Bool) (q : Nat) : Option Nat :=
  if q < 552 then some (q / 8)
  else
    let p := bits (s.nodeEntry b (s.parent b q)) 0 7
    if s.portExists b p then some p else none

/-- Class by which a queue gates, pauses and preempts (R290). -/
def queueClass (s : State) (q : Nat) : Nat := if q < 552 then q % 8 else bits (s.qEntry q) 109 3

/-- MAX_SDU of a queue, 0 for the port's maximum. -/
def queueSdu (s : State) (q : Nat) : Nat := bits (s.qEntry q) 112 14

/-- The copies of a queue that wait on its list, head first (R257). -/
def waiting (s : State) (q : Nat) : List Copy := s.oas.copies.filter fun c => c.queue == q && c.linked && !c.started

/-- Head of a queue. -/
def headCopy (s : State) (q : Nat) : Option Copy := (s.waiting q).head?

/-! ### Gates (R294, R312) -/

/-- A port has gates in force. -/
def gated (s : State) (p : Nat) : Bool := decide (p < 64) && s.cbit s.crest.bank (SCH_PORT_GATE_CFG p) 0

/-- First index and size of a port's region of the gate control list table. -/
def gateRegion (p : Nat) : Nat × Nat := if p < 32 then (p * 1024, 1024) else (32768 + (p - 32) * 64, 64)

/-- Entry `i` of a port's list: interval and gates, every gate closed where it is not valid. -/
def gateEntry (s : State) (p i : Nat) : Nat × Nat :=
  let (base, size) := gateRegion p
  let x := s.tab tblGcl 4 (base + (s.cf s.crest.bank (SCH_PORT_GATE_CFG p) 3 10 + i) % size)
  (max 8 (bits x 8 30), if validIn 64 s.crest.bank x then bits x 0 8 else 0)

end State

/-- An interval of the cycle: where it starts and ends, its gates, its entry. -/
structure GateSpan where
  lo : Nat
  hi : Nat
  gates : Nat
  entry : Nat
  deriving DecidableEq, Repr

namespace State

/-- The intervals of a port's cycle: the last extends to its end, those that reach beyond are cut (R294). -/
def gateSpansFrom (s : State) (p len cycle : Nat) : Nat → Nat → Nat → List GateSpan
  | 0, _, _ => []
  | n + 1, i, lo =>
    if cycle ≤ lo then [] else
    let (iv, g) := s.gateEntry p i
    let hi := if i + 1 = len then cycle else min cycle (lo + iv)
    { lo, hi, gates := g, entry := i } :: s.gateSpansFrom p len cycle n (i + 1) hi

/-- Cycle of a port in ns. -/
def gateCycle (s : State) (p : Nat) : Nat := max 8 (s.cf s.crest.bank (SCH_PORT_CYCLE_NS p) 0 30)

/-- The intervals of a port's cycle. -/
def gateSpans (s : State) (p : Nat) : List GateSpan :=
  let len := max 1 (s.cf s.crest.bank (SCH_PORT_GATE_CFG p) 13 11)
  s.gateSpansFrom p len (s.gateCycle p) len 0 0

/-- Time base of a port's gates. -/
def gateTb (s : State) (p : Nat) : Nat := s.cf s.crest.bank (SCH_PORT_GATE_CFG p) 1 2

/-- Phase of a port's cycle at total nanoseconds `t` (R208, R294). -/
def gatePhase (s : State) (p t : Nat) : Nat :=
  let b := s.crest.bank
  let base : Nat := (s.cf b (SCH_PORT_BASE_SEC_HI p) 0 16 * 2 ^ 32 + s.cf b (SCH_PORT_BASE_SEC_LO p) 0 32) * 1000000000 +
    s.cf b (SCH_PORT_BASE_NS p) 0 30
  (((t : Int) - (base : Int)) % (s.gateCycle p : Int)).toNat

/-- Phase now. -/
def gateNow (s : State) (p : Nat) : Nat := s.gatePhase p (totalNs (s.count (s.gateTb p)))

/-- The interval in force at a phase. -/
def spanAt (l : List GateSpan) (d : Nat) : Option GateSpan := l.find? fun x => decide (x.lo ≤ d ∧ d < x.hi)

/-- Gates and list entry of a port now, as SCH_PORTp_GATE_STATUS shows them (R313). -/
def gateStatus (s : State) (p : Nat) : Nat × Nat :=
  if ¬ s.gated p then (0xFF, 0)
  else match spanAt (s.gateSpans p) (s.gateNow p) with
    | some x => (x.gates, x.entry)
    | none => (0, 0)

/-- The gate of a class is open now; every gate is closed in SAFE (R300). -/
def gateOpen (s : State) (p k : Nat) : Bool := s.mode != .safe && bit (s.gateStatus p).1 k

/-- Time from phase `d` to the first interval of the cycle, from `d` on and round it, of which `f` holds. -/
def nextSpan (l : List GateSpan) (cycle d : Nat) (f : GateSpan → Bool) : Option Nat :=
  match l.find? fun x => decide (d ≤ x.lo) && f x with
  | some x => some (x.lo - d)
  | none => (l.find? f).map fun x => x.lo + cycle - d

/-- Nanoseconds until the gate of a class next closes; none where it never does. -/
def untilClose (s : State) (p k : Nat) : Option Nat :=
  if ¬ s.gated p then none else nextSpan (s.gateSpans p) (s.gateCycle p) (s.gateNow p) fun x => !bit x.gates k

/-- Nanoseconds until an interval of the list next begins. -/
def untilEntry (s : State) (p : Nat) : Option Nat :=
  if ¬ s.gated p then none else
  let d := s.gateNow p
  match spanAt (s.gateSpans p) d with
  | some x => some (x.hi - d)
  | none => none

/-- The longest run of the cycle in which a class is open, runs joined across the cycle end; none where it never
closes (R299). -/
def longestRun (s : State) (p k : Nat) : Option Nat :=
  let l := s.gateSpans p
  if l.all fun x => bit x.gates k then none else
  let step := fun (a : Nat × Nat) (x : GateSpan) =>
    let cur := if bit x.gates k then a.1 + (x.hi - x.lo) else 0
    (cur, max a.2 cur)
  some ((l ++ l).foldl step (0, 0)).2

/-! ### The fit rules (R296 to R299) -/

/-- FIT_GUARD_NS of a port. -/
def fitGuard (s : State) (p : Nat) : Nat := s.cf s.crest.bank (SCH_PORT_CFG p) 8 8

/-- `(n + 20) × 8 ÷ r + FIT_GUARD_NS` is at most `ns` on port `p`. -/
def takesAtMost (s : State) (p n ns : Nat) : Bool :=
  decide (s.fitGuard p ≤ ns) && decide ((n + 20) * 8000 ≤ (ns - s.fitGuard p) * s.rate p)

/-- A copy of `n` bytes of class `k` fits now (R296). -/
def fits (s : State) (p k n : Nat) : Bool :=
  s.gateOpen p k && match s.untilClose p k with
    | none => true
    | some ns => s.takesAtMost p n ns

/-- Bytes of the shortest non-final fragment (R130). -/
def minFragment (s : State) (p : Nat) : Nat := 64 * (1 + s.cf s.crest.bank (MAC_PREEMPT_CFG p) 2 2) - 4

/-- A preemptable copy of `n` bytes may start because a legal point falls before the close (R298). -/
def mayFragment (s : State) (p k n : Nat) : Bool :=
  s.preemptable s.crest.bank p k && s.gateOpen p k && decide (s.minFragment p + 64 ≤ n) &&
    match s.untilClose p k with
    | none => true
    | some ns => decide ((s.minFragment p + 24) * 8000 ≤ ns * s.rate p)

/-- A copy of `n` bytes of class `k` never fits (R299). -/
def neverFits (s : State) (p k n : Nat) : Bool :=
  s.gated p && !s.preemptable s.crest.bank p k &&
    match s.longestRun p k with
    | none => false
    | some run => !s.takesAtMost p n run

/-! ### Shapers (R293) -/

end State

/-- What an entry says of a child: level, weight and its two shapers. -/
structure ShapeCfg where
  level : Nat
  weight : Nat
  cir : Nat
  pir : Nat
  cbs : Nat
  pbs : Nat
  deriving DecidableEq, Repr

/-- Key of a service node and of a port among the children. -/
abbrev nodeKey (n : Nat) : Nat := 20000 + n
@[inherit_doc nodeKey]
abbrev portKey (p : Nat) : Nat := 30000 + p

/-- Shapers and tags of a child that has never sent: a port's shaper holds its reset burst, queues and nodes the
burst 0 of their reset entries (R293, R308). -/
def shapedReset (k : Nat) : Shaped := if 30000 ≤ k then { tokP := 16384 * 1000000 } else {}

/-- Tokens of one shaper refilled for `dt` ns at `rate` × 8 kb/s and held at `burst` bytes (R293). -/
def refillTokens (tok : Int) (rate burst dt : Nat) : Int := min (burst * 1000000) (tok + rate * dt)

namespace State

/-- Shapers of a child in the active bank. -/
def shapeCfg (s : State) (k : Nat) : ShapeCfg :=
  if 30000 ≤ k then
    { level := 0, weight := 1, cir := 0, pir := s.cf s.crest.bank (SCH_PORT_SHAPER (k - 30000)) 0 24, cbs := 0,
      pbs := s.cf s.crest.bank (SCH_PORT_BURST (k - 30000)) 0 18 }
  else if 20000 ≤ k then
    let x := s.nodeEntry s.crest.bank (k - 20000)
    { level := bits x 7 3, weight := max 1 (bits x 10 12), cir := bits x 22 24, pir := bits x 46 24, cbs := bits x 70 18, pbs := bits x 88 18 }
  else
    let x := s.qEntry k
    { level := bits x 10 3, weight := max 1 (bits x 13 12), cir := bits x 25 24, pir := bits x 49 24, cbs := bits x 73 18, pbs := bits x 91 18 }

/-- Raw nanoseconds of TB0 now. -/
def rawNs (s : State) : Nat := totalNs (s.rawCount 0)

/-- Shapers and tags of a child, refilled to now (R293). -/
def shaped (s : State) (k : Nat) : Shaped :=
  let x := sparseGet shapedReset k s.sched.shaped
  let c := s.shapeCfg k
  if s.rawNs ≤ x.last then x
  else { x with
    tokC := refillTokens x.tokC c.cir c.cbs (s.rawNs - x.last)
    tokP := refillTokens x.tokP c.pir c.pbs (s.rawNs - x.last)
    last := s.rawNs }

/-- Shapers and tags of a child replaced. -/
def setShaped (s : State) (k : Nat) (x : Shaped) : State :=
  { s with sched := { s.sched with shaped := sparsePut shapedReset k x s.sched.shaped } }

/-- The peak shaper of a child allows it (R293). -/
def peakAllows (s : State) (k : Nat) : Bool := (s.shapeCfg k).pir == 0 || decide (0 ≤ (s.shaped k).tokP)

/-- A child is below its committed rate (R291). -/
def committed (s : State) (k : Nat) : Bool := (s.shapeCfg k).cir != 0 && decide (0 ≤ (s.shaped k).tokC)

/-- A send of `c` bytes is charged to a child's shapers in force (R293). -/
def chargeChild (s : State) (k c : Nat) : State :=
  let g := s.shapeCfg k
  let x := s.shaped k
  s.setShaped k { x with
    tokC := if g.cir = 0 then x.tokC else x.tokC - c * 1000000
    tokP := if g.pir = 0 then x.tokP else x.tokP - c * 1000000 }

/-- Every shaper full, as when the SCHED domain returns from off (R293). -/
def fillShapers (s : State) : State :=
  let listed := fun (t : Nat) => (((if s.crest.bank then s.tbank1 else s.tbank0).filter fun x => x.1 / 2 ^ 24 == t * 8 + 4).map fun x => x.1 % 2 ^ 24)
  let keys := listed tblQueue ++ (listed tblNode).map nodeKey ++ (List.range 69).map portKey
  let s := { s with sched := { s.sched with shaped := [], virt := [] } }
  s.each keys fun s k =>
    let g := s.shapeCfg k
    s.setShaped k { tokC := g.cbs * 1000000, tokP := g.pbs * 1000000, last := s.rawNs }

/-- The charged length of a copy on its port (R293). -/
def charge (s : State) (c : Copy) : Nat :=
  match s.frame c.frame with
  | none => 1
  | some f => (max 1 ((s.outLen c f : Int) + signed 7 (s.cf s.crest.bank (SCH_PORT_CFG c.port) 0 7))).toNat

/-! ### The choice (R290 to R292) -/

/-- A tag as 64 bits hold it; the manual gives the tags no other width (R292). -/
def tag64 (x : Nat) : Nat := x % 2 ^ 64

/-- How far tag `x` lies past tag `v`: tags wrap at 64 bits and are compared by their distance (DESIGN CHOICE, log entry 138). -/
def tagPast (v x : Nat) : Int := signed 64 ((x + 2 ^ 64 - tag64 v) % 2 ^ 64)

/-- The later of two tags. -/
def tagMax (v x : Nat) : Nat := if 0 < tagPast v x then x else v

/-- A head copy of `n` bytes may start now under the gates (R296, R298). -/
def gateAllows (s : State) (p k n : Nat) : Bool := 64 ≤ p || s.fits p k n || s.mayFragment p k n

/-- A queue is ready on a port (R290). -/
def queueReady (s : State) (p q : Nat) : Bool :=
  match s.headCopy q with
  | none => false
  | some c =>
    match s.frame c.frame with
    | none => false
    | some f =>
      s.linkUp p && !s.paused p (s.queueClass q) && s.peakAllows q && s.gateAllows p (s.queueClass q) (s.outLen c f)

/-- Queues of a port that hold linked copies. -/
def backlog (s : State) (p : Nat) : List Nat :=
  ((s.oas.copies.filter fun c => c.linked && !c.started && s.queuePort s.crest.bank c.queue == some p).map (·.queue)).eraseDups

/-- Virtual time of a level of a node, 0 to 1,023 a service node, 1,024 + p a port (R292). -/
def virtTime (s : State) (n lvl : Nat) : Nat := sparseGet (fun _ => 0) (n * 8 + lvl) s.sched.virt

/-- Virtual time replaced. -/
def setVirt (s : State) (n lvl v : Nat) : State :=
  { s with sched := { s.sched with virt := sparsePut (fun _ => 0) (n * 8 + lvl) v s.sched.virt } }

end State

/-- A child that offers a frame: its key, the queue the frame stands in, and its charged length. -/
structure Offer where
  key : Nat
  queue : Nat
  c : Nat
  deriving DecidableEq, Repr

namespace State

/-- Finish tag of an offer: a queue's as stored, a node's from the frame it offers now (R292). -/
def finishTag (s : State) (o : Offer) : Nat :=
  let x := s.shaped o.key
  if 20000 ≤ o.key then tag64 (x.s + o.c * 65536 / (s.shapeCfg o.key).weight) else x.f

/-- The offer with the smallest value of a measure, the lower key first on a tie. -/
def smallest (m : Offer → Int) : List Offer → Option Offer
  | [] => none
  | o :: r => match smallest m r with
    | none => some o
    | some x => if m o < m x ∨ (m o = m x ∧ o.key < x.key) then some o else some x

/-- The pick at a level of a node: the smallest finish tag among those whose start tag is not beyond the virtual
time, else the smallest start tag (R292). -/
def wfPick (s : State) (n lvl : Nat) (l : List Offer) : Option Offer :=
  let past := tagPast (s.virtTime n lvl)
  match smallest (fun o => past (s.finishTag o)) (l.filter fun o => decide (past (s.shaped o.key).s ≤ 0)) with
  | some o => some o
  | none => smallest (fun o => past (s.shaped o.key).s) l

/-- The choice at a node: the committed pass, then the excess pass, each from level 7 down (R291). -/
def nodeChoice (s : State) (n : Nat) (l : List Offer) : Option Offer :=
  ((List.range 16).findSome? fun i =>
    let lvl := 7 - i % 8
    let set := l.filter fun o => (s.shapeCfg o.key).level == lvl && (8 ≤ i || s.committed o.key)
    if set.isEmpty then none else s.wfPick n lvl set)

/-- The offer of a queue. -/
def queueOffer (s : State) (q : Nat) : Offer := ⟨q, q, match s.headCopy q with | some c => s.charge c | none => 1⟩

/-- The children of a port that offer a ready frame among given queues: class queues, and service nodes with their own
choice. -/
def offers (s : State) (p : Nat) (qs : List Nat) : List Offer :=
  let ready := qs.filter (s.queueReady p)
  let cls := (ready.filter (· < 552)).map s.queueOffer
  let sub := ready.filter fun q => decide (552 ≤ q)
  let nodes := (sub.map (s.parent s.crest.bank)).eraseDups
  cls ++ nodes.filterMap fun n =>
    if ¬ s.peakAllows (nodeKey n) then none
    else (s.nodeChoice n ((sub.filter fun q => s.parent s.crest.bank q == n).map s.queueOffer)).map fun o =>
      { o with key := nodeKey n }

/-- The queue whose head a port sends next among given queues (R290, R291). -/
def portChoice (s : State) (p : Nat) (qs : List Nat) : Option Offer :=
  if ¬ s.peakAllows (portKey p) then none else s.nodeChoice (1024 + p) (s.offers p qs)

/-- A child becomes backlogged (R292): `c` is the charged length it offers. -/
def startTags (s : State) (n k c : Nat) : State :=
  let g := s.shapeCfg k
  let x := s.shaped k
  let st := tagMax (s.virtTime n g.level) x.f
  s.setShaped k { x with s := st, f := tag64 (st + c * 65536 / g.weight) }

/-- Children of a node at a level that are backlogged: a port's class queues and nodes, or a node's queues. -/
def backlogged (s : State) (p n lvl : Nat) : List Nat :=
  let qs := s.backlog p
  let ks := if n < 1024 then qs.filter fun q => 552 ≤ q && s.parent s.crest.bank q == n
    else qs.filter (· < 552) ++ (((qs.filter (552 ≤ ·)).map (s.parent s.crest.bank)).eraseDups.map nodeKey)
  ks.filter fun k => (s.shapeCfg k).level == lvl

/-- The tags after a child of a node sent `c` bytes; `next` is the length it then offers (R292). -/
def sendTags (s : State) (n k c : Nat) (bl : List Nat) (next : Option Nat) : State :=
  let g := s.shapeCfg k
  let wsum := bl.foldl (fun a k => a + (s.shapeCfg k).weight) 0
  let v0 := s.virtTime n g.level
  let least := bl.foldl (fun (a : Option Nat) k => match a with
    | none => some (s.shaped k).s
    | some m => some (if tagPast v0 (s.shaped k).s < tagPast v0 m then (s.shaped k).s else m)) none
  let v := tagMax (tag64 (v0 + c * 65536 / max 1 wsum)) (least.getD v0)
  let x := s.shaped k
  let f := if 20000 ≤ k then tag64 (x.s + c * 65536 / g.weight) else x.f
  (s.setVirt n g.level v).setShaped k { x with
    s := f
    f := match next with | some m => tag64 (f + m * 65536 / g.weight) | none => f }

/-! ### Bound violations (R304, R305) -/

/-- A violation reported: 0 sent late, 1 late at the head, 2 discarded. -/
def violation (s : State) (rsv port cause ns : Nat) : State :=
  let x := s.tab tblBoundStat 4 rsv
  let s := s.setTab tblBoundStat 4 rsv (setBits x 0 32 (satAdd 32 (bits x 0 32) 1))
  let s := (s.bump SCH_BOUND_VIOLATIONS).setReg SCH_BOUND_LAST (rsv % 4096 + port % 128 * 2 ^ 12 + cause * 2 ^ 20 + 2 ^ 31)
  ((s.setReg SCH_BOUND_LAST_NS (ns % 2 ^ 27)).setBit SCH_IRQ_STATUS 0).raise 48 rsv port cause ns

/-- A reserved copy of KIND 0 is discarded: a violation of cause 2 unless one has been reported of it (R304, R305). -/
def discardViolation (s : State) (c : Copy) : State :=
  match s.frame c.frame with
  | some f => match f.rsv with
    | some r => if c.rsv ∧ c.kind = 0 ∧ ¬ c.reported then s.violation r c.port 2 0 else s
    | none => s
  | none => s

/-- Latency of a copy at a raw TB0 count (R257, R304): bits [26:2] of both stamps, in steps of 4 ns. -/
def latency (raw ing : Nat) : Nat := (totalNs raw / 4 + 2 ^ 25 - totalNs ing / 4 % 2 ^ 25) % 2 ^ 25 * 4

/-! ### The checks of a queue's head (R297, R299, R435) -/

/-- A head copy fails a check: what counts it. The checks of R435 come in its order; a copy cutting through is
exempt, and the egress maximum is one of edited copies, to ports 0 to 63 (R279; log entry 116). A MAX_SDU of 0 is the port's
maximum (R297), which check 4 makes and counts: R434 lets the limit stand only where it is not 0 (DEDUCED, log entry 139). -/
def headFault (s : State) (c : Copy) (f : Frame) : Option (State → State) :=
  let n := s.outLen c f
  if c.cut then none
  else if s.queueSdu c.queue ≠ 0 ∧ s.queueSdu c.queue < n then some fun s => s.bump SCH_SDU_DROPS
  else if c.port < 64 ∧ s.neverFits c.port (s.queueClass c.queue) n then
    some fun s => (s.bump SCH_NO_WINDOW_DROPS).setBit SCH_IRQ_STATUS 3
  else if ¬ s.cbit c.bank (MAC_CFG c.port) 1 then
    some fun s => (s.stat c.port stTxDisabled 1).rawCtr c.port 11
  else if c.port < 64 ∧ s.maxFrame c.bank c.port < n then
    some fun s => (s.stat c.port stTxOversize 1).rawCtr c.port 11
  else none

/-- The head copies of a queue that fail a check are discarded one after another (R435). -/
def headCheck (s : State) (q : Nat) : Nat → State
  | 0 => s
  | n + 1 =>
    match s.headCopy q with
    | none => s
    | some c =>
      match s.frame c.frame with
      | none => s
      | some f =>
        match s.headFault c f with
        | none => s
        | some count =>
          let s := count s
          let s := if s.queueSdu c.queue ≠ 0 ∧ s.queueSdu c.queue < s.outLen c f ∨
              (c.port < 64 ∧ s.neverFits c.port (s.queueClass c.queue) (s.outLen c f)) then s.discardViolation c else s
          State.headCheck (s.discardCopy c) q n

/-- The head of a queue checked. -/
def checkHead (s : State) (q : Nat) : State := s.headCheck q (s.waiting q).length

/-- Copies leave their queues by `g`, and those that become heads are checked (R435). -/
def checkHeads (s : State) (l : List Copy) (g : State → State) : State :=
  (g s).each ((l.map (·.queue)).eraseDups) fun s q => s.checkHead q

/-- A head copy that its gate is open for and that does not fit is counted, once per copy per window (R300). -/
def withheldHead (s : State) (p q : Nat) : State :=
  match s.headCopy q with
  | none => s
  | some c =>
    match s.frame c.frame with
    | none => s
    | some f =>
      let k := s.queueClass q
      let close := (s.untilClose p k).map fun d => totalNs (s.count (s.gateTb p)) + d
      if ¬ s.gateOpen p k ∨ s.gateAllows p k (s.outLen c f) ∨ c.withheld = close then s
      else ((s.setCopy { c with withheld := close }).bump SCH_FIT_WITHHELD).event 4 8 1 (s.copyAttr c)

/-- The heads of a port's queues that do not fit are counted, while its MAC could begin a transmission (R300). -/
def noteWithheld (s : State) (p : Nat) : State :=
  if 64 ≤ p ∨ ¬ s.gated p ∨ ((s.mac p).tx).isSome then s else s.each (s.backlog p) fun s q => s.withheldHead p q

/-- A copy linked to the end of its queue's list (R272), its queue and service node starting their tags where they
had nothing to send (R292), and the head checked (R435). -/
def linkCopy (s : State) (id : Nat) : State :=
  match s.oas.copies.find? fun c => c.id == id with
  | none => s
  | some c =>
    let empty := (s.waiting c.queue).isEmpty
    let p := s.queuePort s.crest.bank c.queue
    let n := s.parent s.crest.bank c.queue
    let nodeIdle := decide (552 ≤ c.queue) && match p with
      | some p => (s.backlog p).all fun q => q < 552 || s.parent s.crest.bank q != n
      | none => false
    let s := s.setOas { s.oas with copies := s.oas.copies.filter (fun x => x.id != id) ++ [{ c with linked := true }] }
    let s := match s.frame c.frame with
      | some f => if s.follows f c then s.traceAt f.root 4 s.rawNs else s
      | none => s
    let len := s.charge c
    let s := if empty then s.startTags (if c.queue < 552 then 1024 + c.queue / 8 else n) c.queue len else s
    let s := match nodeIdle, p with
      | true, some p => s.startTags (1024 + p) (nodeKey n) len
      | _, _ => s
    if empty then (s.checkHead c.queue).noteWithheld c.port else s

/-- Every queue's head checked again, as at a commit (R435). -/
def checkAllHeads (s : State) : State :=
  s.each ((s.oas.copies.filter fun c => c.linked && !c.started).map (·.queue)).eraseDups fun s q => s.checkHead q

end State

end Sys2Proof.Machine
end

