-- ==== Sys2Proof/Machine/Power.lean ====
section
/-! DEFINITION. Power domains: state, votes, demands and wakes (R314 to R325). -/

namespace Sys2Proof.Machine

abbrev domAO : Nat := 0
abbrev domMgmt : Nat := 3
abbrev domHost : Nat := 4
abbrev domNvm : Nat := 5
abbrev domErg (e : Nat) : Nat := 6 + e
abbrev domOasis : Nat := 10
abbrev domCaravan : Nat := 11
abbrev domSched : Nat := 12
abbrev domQuad (q : Nat) : Nat := 13 + q
abbrev domField : Nat := 21

/-- Deepest state of each domain: 0 ON, 1 RET, 2 OFF; 3 for a domain that has ON and OFF but no RET (R314). -/
def domDeepest (d : Nat) : Nat := [0, 0, 0, 1, 0, 3, 2, 2, 2, 2, 1, 2, 1, 2, 2, 2, 2, 2, 2, 2, 2, 2].getD d 0

/-- LOW as it is stored for a domain (R319). -/
def storedLow (d v : Nat) : Nat :=
  let v := min v 2
  match domDeepest d with
  | 3 => if v = 2 then 2 else 0
  | m => min v m

/-- Domain of a lane or field port, of port 64 and of the recirculation ports (R314). -/
def domOfPort (p : Nat) : Nat := if p < 32 then domQuad (p / 4) else if p < 64 then domField else if p = 64 then domOasis else domErg (p - 65)

/-- Domain of a block (R314). -/
def Block.domain : Block → Nat
  | .glb | .crs | .pwr | .hst | .mon => domHost
  | .tmb => 1
  | .flt => 2
  | .nvm => domNvm
  | .lne q => domQuad q
  | .mac p => domOfPort p
  | .erg e => domErg e
  | .oas => domOasis
  | .cvn => domCaravan
  | .sch => domSched

/-- Domain of the register at a BAR0 offset. -/
def domOfReg (off : Nat) : Nat :=
  match blockOf off with
  | some (b, _) => b.domain
  | none => domHost

/-- Offset at which the active-mirror view begins, and the end of BAR0 (R348). -/
abbrev mirrorBase : Nat := 0x4000000
@[inherit_doc mirrorBase] abbrev barEnd : Nat := 0x8000000

/-- The offset belongs to the active-mirror view. -/
def inMirror (addr : Nat) : Bool := Nat.ble mirrorBase addr && Nat.blt addr barEnd

/-- The normal-view offset of an address. -/
def viewOff (addr : Nat) : Nat := if inMirror addr then addr - mirrorBase else addr

namespace State

/-- Power-controller state replaced. -/
def setPow (s : State) (p : Power) : State := { s with pow := p }

/-- STATE of a domain: 0 ON, 1 RET, 2 OFF. -/
def domState (s : State) (d : Nat) : Nat := s.rf (PWR_D_STATUS d) 0 2

/-- PHASE of a domain: 0 steady, 1 entering, 2 waking. -/
def domPhase (s : State) (d : Nat) : Nat := s.rf (PWR_D_STATUS d) 2 2

/-- The domain is ON and ready. -/
def awake (s : State) (d : Nat) : Bool := s.domState d == 0 && s.domPhase d != 2

/-- `clk` at which a domain's entry or wake began. -/
def domSince (s : State) (d : Nat) : Nat := s.pow.since.getD d 0

/-- A phase begins now. -/
def setPhase (s : State) (d st ph : Nat) : State :=
  let s := (s.setFld (PWR_D_STATUS d) 0 2 st).setFld (PWR_D_STATUS d) 2 2 ph
  { s with pow := { s.pow with since := s.pow.since.set d s.time.clk } }

/-- A frame of the ergs' ports is held before its decision (R318). -/
def ergBusy (s : State) (e : Nat) : Bool :=
  (s.frames.any fun f => ergOf f.port == e && f.stage != .stored && f.stage != .dropped) ||
    s.oas.copies.any fun c => c.port < 69 && ergOf c.port == e

/-- A copy is queued for a port that a predicate holds of. -/
def queuedFor (s : State) (f : Nat → Bool) : Bool := s.oas.copies.any fun c => f c.port

/-- Low-power idle is held in both directions on a lane; in 100GBASE-R the port's MAC is that of lane 0 (R109, R318). -/
def idleBoth (s : State) (p : Nat) : Bool := s.rf (MAC_EEE_STATUS (s.laneOf p)) 0 2 == 3

/-- A register access or table request that waits for a domain is in progress there (R318). -/
def demanded (s : State) (d : Nat) : Bool :=
  (s.pow.stalled.head?.any fun x => domOfReg (viewOff x.addr) == d) || s.pow.waiting.any fun w => w.doms.contains d

/-- Port activity of a domain (R318). -/
def portActive (s : State) (d : Nat) : Bool :=
  if 6 ≤ d ∧ d < 10 then s.ergBusy (d - 6)
  else if 13 ≤ d ∧ d < 21 then
    ((List.range 4).any fun l => s.laneState ((d - 13) * 4 + l) == 4 && !s.idleBoth ((d - 13) * 4 + l)) ||
      s.queuedFor (fun p => p < 32 && p / 4 == d - 13) || s.pow.signal.contains (d - 13)
  else if d = 21 then
    s.queuedFor (fun p => 32 ≤ p && p < 64) || s.frames.any fun f => 32 ≤ f.port && f.port < 64 && (!f.lastIn || f.stage == .waiting)
  else if d = domOasis then s.fwd.any fun f => !f.source.isEmpty || !f.inbound.isEmpty
  else if d = domCaravan then s.frames.any fun f => f.stage == .decided && f.dec.handle.isSome
  else if d = domMgmt then s.pow.mgmtEvent
  else false

/-- PORT vote of a domain (R318). -/
def portVote (s : State) (d : Nat) : Bool := s.portActive d || s.demanded d

/-- HW vote of a domain: 0 none, 1 RET, 2 ON (R284, R318). -/
def hwVote (s : State) (d : Nat) : Nat :=
  if d = 21 then (if (List.range 32).any fun j => s.cbit s.crest.bank (MAC_FLD_CFG (32 + j)) 0 then 1 else 0)
  else if d = domOasis then
    if !s.oas.copies.isEmpty || s.frames.any (fun f => f.pinned.isSome || !f.lastIn) then 2
    else if s.cellsUsed = 0 then 0 else 1
  else if d = domSched then
    if !s.oas.copies.isEmpty || (List.range 64).any s.gated then 2 else 0
  else if d = domNvm then (if s.pow.nvmBusy then 2 else 0)
  else 0

/-- A pre-wake vote holds a domain (R301, R317). -/
def schedVote (s : State) (d : Nat) : Bool :=
  s.sched.voting.any fun p =>
    let x := s.cfg s.crest.bank (SCH_PORT_PREWAKE (p / 8))
    (bit x 30 && domOfPort (p / 8) == d) || (6 ≤ d && d < 10 && bit x (26 + (d - 6))) || (bit x 31 && d == domCaravan)

/-- Level of a VOTE register. -/
def voteLevel (s : State) (off : Nat) : Nat := s.rf off 0 2

/-- Vote bits held for a domain, as PWR_Dd_STATUS.VOTES shows them (R317). -/
def voteBits (s : State) (d : Nat) : Nat :=
  b2n (s.voteLevel (PWR_D_VOTE_HOST d) != 0) + b2n (s.voteLevel (PWR_D_VOTE_FW d) != 0) * 2 + b2n (s.schedVote d) * 4 +
    b2n (s.portVote d) * 8 + b2n (d == domCaravan && (s.cvn.sweep.isSome || s.pow.cvnVote)) * 16 +
    b2n (s.rbit PWR_DEBUG d || (d == domMgmt && s.pow.jtag)) * 32 + b2n (s.hwVote d != 0) * 64

/-- The highest vote: 0 none, 1 RET, 2 ON (R319). -/
def want (s : State) (d : Nat) : Nat :=
  let b := s.voteBits d
  if bits b 2 4 ≠ 0 then 2
  else max (max (s.voteLevel (PWR_D_VOTE_HOST d)) (s.voteLevel (PWR_D_VOTE_FW d))) (s.hwVote d)

/-- The power controller makes decisions (R316): not in SAFE, and low states neither before the first RUN, RECOVERY apart, nor in
TEST. -/
def powerRuns (s : State) : Bool := (s.pow.ran || s.mode == .recovery) && s.mode != .test && s.mode != .safe

/-- LOW of a domain. -/
def lowOf (s : State) (d : Nat) : Nat := s.rf (PWR_D_CFG d) 0 2

/-- A quad's lanes allow the state (R320): RET with every lane in DEEP, OFF with every lane in DEEP or disabled. -/
def lanesAllow (s : State) (d goal : Nat) : Bool :=
  !(Nat.ble 13 d && Nat.blt d 21) || (List.range 4).all fun l =>
    let p := (d - 13) * 4 + l
    s.laneState p == 6 || (goal == 2 && !s.laneOn p)

/-- The low state that a domain enters when its idle time expires, 0 where it stays ON (R319, R320). -/
def goalOf (s : State) (d : Nat) : Nat :=
  let goal := if s.want d = 1 then storedLow d (min (s.lowOf d) 1) else s.lowOf d
  if s.powerRuns ∧ s.lanesAllow d goal then goal else 0

/-! ### Idle times (R319) -/

/-- A domain that follows votes (R315). -/
def heeds (d : Nat) : Bool := !(d == 0 || d == 1 || d == 2 || d == 4)

/-- `clk` at which the idle time of a domain runs out, while it counts. -/
def idleEnd (s : State) (d : Nat) : Option Nat := (s.pow.idle.getD d none).filter fun _ => heeds d

/-- The idle time of a domain stops, to start afresh where it next counts. -/
def idleStop (s : State) (d : Nat) : State := s.setPow { s.pow with idle := s.pow.idle.set d none }

/-- A domain's idle time counts from now where it does not count yet: the domain is ON, and nothing votes for ON. It neither
counts while R316 holds the domain ON (DEDUCED, log entry 123). -/
def idleCount (s : State) (d : Nat) : Option Nat :=
  if heeds d && s.powerRuns && s.domState d == 0 && s.domPhase d == 0 && s.want d != 2 then
    some ((s.pow.idle.getD d none).getD (s.time.clk + s.rf (PWR_D_CFG d) 8 16 * 250))
  else none

/-- The idle times as a command leaves them. -/
def idleSettle (s : State) : State := s.setPow { s.pow with idle := (List.range 22).map s.idleCount }

/-! ### Wakes -/

/-- An entry is abandoned (R325). -/
def abandonEntry (s : State) (d : Nat) : State := (s.bump (PWR_D_ENTRY_ABORTED d)).setBit PWR_IRQ_STATUS 0

/-- A demand or an ON vote reaches a domain (R319, R323, R325): an entry in progress, or one that would begin in this cycle, is
abandoned, a low state is left, and the idle time starts afresh; nothing where the domain is waking, nor in SAFE. -/
def wake (s : State) (d : Nat) : State :=
  if s.mode = .safe then s
  else if s.domPhase d = 1 then (s.setPhase d 0 0).abandonEntry d
  else if s.domPhase d = 2 then s
  else if s.domState d = 0 then
    (if s.idleEnd d = some s.time.clk ∧ s.goalOf d ≠ 0 then s.abandonEntry d else s).idleStop d
  else s.setPhase d (s.domState d) 2

/-- A register access or table request to a domain is a demand while it is served (R318, R323, R325); domains that ignore votes
have no use of it. -/
def demand (s : State) (d : Nat) : State := if heeds d then s.wake d else s

/-- Votes have changed: a domain whose votes call for it wakes (R319); a vote for RET abandons an entry to OFF (R325). -/
def revote (s : State) (d : Nat) : State :=
  match s.want d with
  | 2 => s.wake d
  | 1 => if s.domState d = 2 ∨ (s.domPhase d = 1 ∧ s.pow.goal.getD d 1 = 2) then s.wake d else s
  | _ => s

end State

end Sys2Proof.Machine
end

