-- ==== Sys2Proof/Machine/Settle.lean ====
section
/-! DEFINITION. How every command ends, and the commands of the time bases and of the vectors. -/

namespace Sys2Proof.Machine

/-- The state as a command leaves it: the idle times of the domains count where they should (R319), and vectors whose condition
has gone leave service (R364). -/
def State.finished (s : State) : State := s.idleSettle.vecSettle

/-- How every command ends. -/
def finish (s : State) : Result := .next s.finished

/-! ### The commands -/

/-- COAL_TIMER_EXPIRE, R363 -/
def execCoalTimerExpire (ring : Nat) (s : State) : Result := finish (if ring < 36 then s.coalExpire ring else s)

/-- MSIX_MESSAGE, R364 -/
def execMsixMessage (v : Nat) (s : State) : Result := finish (s.msixMessage v)

/-- SNAPSHOT_COMPLETE, R44 -/
def execSnapshotComplete (s : State) : Result := finish s.snapDone

/-- TIO_CAPTURE_EDGE, R58, R59 -/
def execTioCaptureEdge (i : Nat) (rising : Bool) (wait : Nat) (dev : Int) (s : State) : Result :=
  finish (if i < 4 then (s.elapse wait).tioEdge i rising dev else s)

/-- TIO_OUTPUT_EDGE, R60 -/
def execTioOutputEdge (i : Nat) (s : State) : Result := finish (if i < 4 then s.tioPulse i else s)

/-- TIO_PULSE_END, R60 -/
def execTioPulseEnd (i : Nat) (s : State) : Result := finish (if i < 4 then s.tioEnd i else s)

/-- KEEPER_REALIGN, R61 -/
def execKeeperRealign (err : Int) (s : State) : Result := finish (s.keeperRealign err)

/-- KEEPER_TICK_CORRECTION, R62 -/
def execKeeperTickCorrection (s : State) : Result := finish s.keeperCorrect

end Sys2Proof.Machine
end

