-- ==== Sys2Proof/Machine/Oasis.lean ====
section
/-! DEFINITION. Admission of copies, replication, linking and pins (R263 to R282), sequence generation (R278), and the
commands of the oasis's client interface. -/

namespace Sys2Proof.Machine

/-- Way of a keyed table of four ways per bucket that matches, the lowest (R235, R278, R311). -/
def State.fourWays (s : State) (b : Bool) (t w bucket : Nat) (m : Nat → Bool) : Option (Nat × Nat) :=
  (List.range 4).findSome? fun k =>
    match s.crested b t 4 (bucket * 4 + k) w with
    | some x => if m x then some (bucket * 4 + k, x) else none
    | none => none

/-- Bucket of a handle in a table of `2 ^ n` buckets. -/
def handleBucket (n h : Nat) : Nat := crc32c (leBytes 3 h) % 2 ^ n

namespace State

/-! ### Errors of the packet memory (R283) -/

/-- A correctable error of the packet memory, in the word at an address (R283, R334). -/
def eccCorrected (s : State) (word : Nat) : State := ((s.bump OAS_ECC_CORR).setBit OAS_IRQ_STATUS 3).raise 45 word

/-- An uncorrectable error of the packet memory: source 46 with the cell of the data, 47 with the address of the word (R283,
R334). -/
def eccUncorrected (s : State) (src d : Nat) : State := ((s.bump OAS_ECC_UNCORR).setBit OAS_IRQ_STATUS 4).raise src d

/-! ### Queues (R288, R311) -/

/-- Class queue or subscriber queue of a copy to port `p` in class `k` with outgoing VID `vid` (R288). -/
def queueFor (s : State) (b : Bool) (p vid k : Nat) : State × Nat :=
  if 64 ≤ p then (s, 8 * p + k) else
  let bucket := crc32c ([BitVec.ofNat 8 p] ++ leBytes 2 vid ++ [BitVec.ofNat 8 k]) % 4096
  match s.fourWays b tblSubMap 64 bucket fun x => bits x 0 7 == p && bits x 7 12 == vid && bits x 19 3 == k with
  | none => (s, 8 * p + k)
  | some (_, x) =>
    let q := max 552 (bits x 22 14)
    if s.queuePort b q = some p then (s, q) else (s.bump SCH_MAP_MISMATCH, 8 * p + k)

/-- Outgoing VID of a frame's copies (R279). -/
def vidOut (s : State) (f : Frame) : Nat :=
  match f.dec.nh.bind fun n => s.crested f.bank tblNextHop 4 n 128 with
  | some x => bits x 96 12
  | none => f.dec.vid

end State

/-- A copy that is asked for. -/
structure Target where
  port : Nat
  queue : Nat
  kind : Nat
  session : Nat := 0
  reason : Nat := 0
  own : Option Bytes := none
  path : Option Bool := none
  ts : Option (Nat × Nat) := none
  claim : Bool := false
  deriving DecidableEq, Repr

namespace State

/-- The coupling stage forwards a copy stamped at a raw count: by the latest change at or before it, else by the
oldest kept (R244). -/
def coupleState (s : State) (raw : Nat) : Bool :=
  match s.cvn.changes.find? fun c => Nat.ble c.1 raw with
  | some c => c.2
  | none => (s.cvn.changes.getLast?.map (·.2)).getD true

/-- Port `p` is set in a pair of staged bitmaps. -/
def portSet (s : State) (b : Bool) (lo p : Nat) : Bool := if p < 64 then s.cbit b (lo + p / 32 * 4) (p % 32) else false

/-- A copy crosses between the rings of a coupled pair while the stage does not forward (R244). -/
def coupleBlocks (s : State) (f : Frame) (p : Nat) : Bool :=
  s.portSet f.bank CVN_COUPLE_IN_LO f.port && s.portSet f.bank CVN_COUPLE_OUT_LO p && !s.coupleState (f.raw.getD 0 0)

/-- The coupling egress stage: copies of any kind that cross while it does not forward are discarded and counted (R244). -/
def coupleFilter (s : State) (f : Frame) (ts : List Target) : State × List Target :=
  let l := ts.filter fun t => s.coupleBlocks f t.port
  let s := s.each l fun s t => match t.ts with
    | some (id, tb) => s.txtsWrite t.port { id, tb, ns32 := 0, frac := 0, dropped := true }
    | none => s
  (s.bumpBy CVN_COUPLE_BLOCKED l.length, ts.filter fun t => !s.coupleBlocks f t.port)

/-- Ports of a multicast group for a frame (R271): the state, the ports, and whether port 64 gets a copy. -/
def groupPorts (s : State) (f : Frame) (g : Nat) (member : Bool) : State × List Nat × Bool :=
  match s.crested f.bank tblGroup 4 g 128 with
  | none => (s.bump OAS_MC_NO_GROUP, [], false)
  | some x =>
    let v := (s.vlan f.bank (ergOf f.port) f.dec.vid).getD 0
    let ok := fun p => bit x p && p != f.port && s.portExists f.bank p && (!member || vlanSends v p)
    (s, (List.range 64).filter ok, ok 64)

/-- Port copies of a decided frame, in ascending egress port, and the reason of its CPU copy (R267, R271, R358). -/
def portTargets (s : State) (f : Frame) : State × List Nat × Option Nat :=
  match f.dec.dest with
  | .nowhere => (s, [], f.dec.cpu)
  | .port p => (s, [p], f.dec.cpu)
  | .flood ps => (s, (List.range 64).filter ps.contains, f.dec.cpu)
  | .group g m =>
    match s.groupPorts f g m with
    | (s, ps, true) => (s, ps, addReason f.dec.cpu 8)
    | (s, ps, false) => (s, ps, f.dec.cpu)

/-- A port copy, substitute or probe asked for. -/
def forwardTarget (s : State) (f : Frame) (kind p : Nat) : State × Target :=
  let (s, q) := s.queueFor f.bank p (s.vidOut f) f.dec.cls
  (s, { port := p, queue := q, kind })

/-- Targets of several ports. -/
def forwardTargets (s : State) (f : Frame) (kind : Nat) (ps : List Nat) : State × List Target :=
  ps.foldl (fun (a : State × List Target) p => let (s, t) := a.1.forwardTarget f kind p; (s, a.2 ++ [t])) (s, [])

/-- Mirror session in a bank, where it makes copies (R214, R215). -/
def mirrorSession (s : State) (b : Bool) (i : Nat) : Option Nat :=
  (s.crested b tblMirror 4 i 256).filter fun x => s.portExists b (bits x 0 7)

/-- Mirror copies for sessions `is` of bytes without FCS; a session without a copy counts (R215). -/
def mirrorTargets (s : State) (b : Bool) (e kind : Nat) (is : List Nat) (body : Bytes) : State × List Target :=
  is.foldl (fun (a : State × List Target) i =>
    match a.1.mirrorSession b i with
    | none => (a.1.bump (ERG_MIRROR_NO_PORT e), a.2)
    | some x =>
      (a.1.bump (ERG_MIRROR_COPIES e), a.2 ++ [{
        port := bits x 0 7, queue := 8 * bits x 0 7 + bits x 23 3, kind, session := i, reason := 10,
        own := some (mirrorBytes x body) }])) (s, [])

/-- Sessions that mirror what a port receives (`lo` 41) or sends (`lo` 110) in a bank. -/
def sourceSessions (s : State) (b : Bool) (lo p : Nat) : List Nat :=
  (List.range 8).filter fun i => (s.crested b tblMirror 4 i 256).any fun x => bit x (lo + p)

/-- Sessions that take an ingress copy of a frame (R215). -/
def ingressSessions (s : State) (f : Frame) : List Nat :=
  let src := if f.second then [] else s.sourceSessions f.bank 41 f.port
  (List.range 8).filter fun i => !bit f.mirrored i && (src.contains i || bit f.dec.mirror i)

/-- The copy to port 64 for a reason: class queue and kind (R288, R358). -/
def cpuTarget (s : State) (f : Frame) (r : Nat) : Target :=
  { port := 64, queue := 512 + s.cf f.bank (HST_TRAP r) 0 3,
    kind := if [1, 3, 4, 5, 7].contains r ∨ f.dec.dest = .nowhere then 6 else 5, reason := r }

/-! ### Admission (R266 to R270) -/

/-- Buffer profile of a queue in a bank (R268). -/
def profile (s : State) (b : Bool) (q : Nat) : BufProfile :=
  (if b then s.oas.profiles1 else s.oas.profiles0).getD (bits (s.tabB b tblQueueBuf q) 0 6) ⟨196608, 15, 0⟩

/-- Charge of a frame in cells (R266). -/
def chargeFor (s : State) (f : Frame) : Nat :=
  if f.lastIn then cellsFor f.bytes.length
  else cellsFor (if f.port < 65 then s.maxFrame f.bank f.port else 10240)

/-- Reservation index of a handle in a bank (R303, R311). -/
def reservation (s : State) (b : Bool) (h : Option Nat) : Option Nat :=
  h.bind fun h => (s.fourWays b tblRsv 64 (handleBucket 10 h) fun x => bits x 0 24 == h).map fun x => bits x.2 24 12

end State

/-- Why a copy is not admitted (R267). -/
inductive DropWhy where
  | linkDown | noDesc | limit | shared
  deriving DecidableEq, Repr

/-- A reserved copy by its kind (R303). -/
def Target.reservable (t : Target) : Bool := (t.kind == 0 || t.kind == 3 || t.kind == 4) && t.port < 64

namespace State

/-- The judgement of one copy of `c` cells (R267). -/
def judge (s : State) (f : Frame) (c : Nat) (reserved : Bool) (t : Target) : Option DropWhy :=
  let p := s.profile f.bank t.queue
  if ¬ s.linkUp t.port then some .linkDown
  else if reserved ∧ t.reservable then (if s.descFree = 0 then some .noDesc else none)
  else if s.descFree ≤ s.cf f.bank OAS_DESC_CFG 0 18 then some .noDesc
  else if p.limit < s.depth t.queue + c then some .limit
  else if s.sharedFree < c then some .shared
  else if p.alpha ≠ 15 ∧ s.sharedFree * 2 ^ p.alpha < (s.sharedDepth t.queue + c) * 128 then some .shared
  else none

/-- A dropped copy is counted (R267). -/
def countDrop (s : State) (k : Nat) (t : Target) (w : DropWhy) : State :=
  let s := match w with
    | .linkDown => s.bump OAS_LINK_DOWN_DROPS
    | .noDesc => (s.queueStat t.queue 2).bump OAS_DROP_NO_DESC
    | .limit => (s.queueStat t.queue 1).bump OAS_DROP_LIMIT
    | .shared => (s.queueStat t.queue 2).bump OAS_DROP_SHARED
  (s.bump (OAS_PORT_DROPS t.port)).event 4 2 1 { cls := k, queue := t.queue }

/-- A copy of a reserved frame that is dropped breaks its bound, unless its link is down (R267, R305). -/
def dropViolation (s : State) (f : Frame) (t : Target) (w : DropWhy) : State :=
  match f.rsv with
  | some r => if t.kind = 0 ∧ t.reservable ∧ w ≠ .linkDown then s.violation r t.port 2 0 else s
  | none => s

/-- Low-power idle on a port's transmit side, its wake included (R127). -/
def lpiHeld (s : State) (p : Nat) : Bool := Nat.blt p 32 && (s.rbit (MAC_EEE_STATUS p) 0 || (s.mac p).waking)

/-- The egress quad or FIELD domain, the lane, the MAC, OASIS and SCHED are awake (R273). -/
def egressAwake (s : State) (p : Nat) : Bool :=
  s.awake (domOfPort p) && s.awake domOasis && s.awake domSched && !s.lpiHeld p && (32 ≤ p || s.laneState p == 4)

/-- Cycles until the MAC of a port can next begin a transmission of a class: past the frame on the wire and its gap, or past the
next point at which that frame gives way to an express one (R128, R130, R298). -/
def nextBegin (s : State) (p k : Nat) : Nat :=
  match (s.mac p).tx with
  | none => if (s.mac p).busy = 0 then 0 else (s.mac p).busy + ceilDiv (12 * 2000) (max 1 (s.rate p)) - s.time.clk
  | some t =>
    let at0 := fun n => t.since + ceilDiv ((n - t.sent + 20) * 2000) (max 1 (s.rate p)) - s.time.clk
    let n := t.sent + s.minFragment p
    if t.pre ∧ ¬ s.preemptable s.crest.bank p k ∧ n + 64 ≤ t.bytes.length then min (at0 t.bytes.length) (at0 (n + 4)) else at0 t.bytes.length

/-- The queue is ready, and at the instant at which the MAC can next begin, its shapers let a copy of MAX_SDU be chosen at once
and such a copy fits under R296 (R297). Of the conditions of R290, the link and the pause are judged at admission, the gate and
the shaper at that instant (DEDUCED, log entry 140). -/
def sduReady (s : State) (p q : Nat) : Bool :=
  let k := s.queueClass q
  let n := if s.queueSdu q = 0 then s.maxFrame s.crest.bank p else s.queueSdu q
  let t := s.elapse (s.nextBegin p k)
  s.linkUp p && !s.paused p k && t.peakAllows q && t.peakAllows (portKey p) &&
    (q < 552 || t.peakAllows (nodeKey (t.parent t.crest.bank q))) && t.fits p k n

/-- A generator gives the frame a sequence number (R278): none of its own, and its handle has an entry in its bank. -/
def seqEntry (s : State) (f : Frame) : Option Nat :=
  match f.seq, f.dec.handle with
  | none, some h => (s.fourWays f.bank tblSeqGen 64 (handleBucket 12 h) fun x => bits x 0 24 == h).map (·.1)
  | _, _ => none

/-- A copy cuts through (R273). None where TX_EN is 0, whose transmitter sends idles (R119): such a copy is stored, and discarded
at its queue's head (DEDUCED, log entry 136). -/
def cutsThrough (s : State) (f : Frame) (t : Target) : Bool :=
  s.cbit f.bank OAS_CFG 0 && !f.lastIn && t.kind == 0 && t.port < 64 && f.port < 64 && !f.second &&
    s.rate t.port ≤ s.rate f.port && !(s.oas.copies.any fun c => c.queue == t.queue) && s.egressAwake t.port &&
    s.cbit f.bank (MAC_CFG t.port) 1 && s.sduReady t.port t.queue && !s.needsLength f t.port f.seq.isSome && !f.seqTrailer

/-- A copy over its ECN threshold (R275). -/
def marks (s : State) (f : Frame) (c : Nat) (t : Target) : Bool :=
  let m := (s.profile f.bank t.queue).mark
  s.cbit f.bank OAS_CFG 1 && !(t.reservable && f.rsv.isSome) && m != 0 && m < s.depth t.queue + c

/-- Sequence generation (R278): NEXT of the handle's entry in the frame's bank. -/
def generateSeq (s : State) (f : Frame) : State × Frame :=
  match s.seqEntry f with
  | some i =>
    let n := bits (s.tab tblSeqState 4 i) 0 16
    (s.setTab tblSeqState 4 i ((n + 1) % 65536), { f with seq := some n })
  | none => (s, f)

/-- The descriptor of an accepted copy (R257): judged in `s0`, the state before the frame's charge. -/
def newCopy (s0 : State) (f : Frame) (c id : Nat) (t : Target) : Copy :=
  { id, frame := f.id, port := t.port, queue := t.queue, kind := t.kind, session := t.session, bank := f.bank,
    cut := s0.cutsThrough f t, rsv := t.reservable && f.rsv.isSome, ce := s0.marks f c t, path := t.path, ts := t.ts,
    reason := t.reason, own := t.own, claim := t.claim }

/-- An accepted copy takes its reference and its descriptor (R259, R267); a reference that would pass 255 is refused
and the copy is not made (R260). -/
def addCopy (s0 s : State) (f : Frame) (c cell : Nat) (t : Target) : State :=
  match s.refChain cell with
  | (s, false) => s
  | (s, true) =>
    let x := s0.newCopy f c s.oas.nextCopy t
    let s := s.setOas { s.oas with copies := s.oas.copies ++ [x], nextCopy := s.oas.nextCopy + 1 }
    let s := (s.queueStat t.queue 0).event 4 1 1 (s.copyAttr x)
    if x.cut then (s.bump OAS_CUT_THROUGH).event 4 5 1 (s.copyAttr x) else s

/-- Copies that may be sent already are linked: those that cut through, and all of a whole frame (R272). -/
def linkReady (s : State) (f : Frame) (ids : List Nat) : State :=
  s.each ids fun s i =>
    match s.oas.copies.find? fun c => c.id == i with
    | some c => if c.cut ∨ f.lastIn then s.linkCopy i else s
    | none => s

/-- The votes that queued copies cast: their egress domains and SCHED wake (R318, R319). -/
def wakeEgress (s : State) (ps : List Nat) : State :=
  (s.each (ps.map domOfPort).eraseDups fun s d => s.revote d).revote domSched

/-- Owner client of a frame's chain (R256). -/
def ownerOf (f : Frame) : Nat := if f.second then 4 else ergOf f.port

/-- The copies of a frame judged and queued, all against the state before any of its charge (R267); `rsv` is the
frame's reservation, `reserved` says that its copies conform to it. -/
def admitWith (s : State) (f : Frame) (ts : List Target) (rsv : Option Nat) (reserved : Bool) : State :=
  let c := if f.charge = 0 then s.chargeFor f else f.charge
  let f := { f with rsv }
  let judged := ts.map fun t => (t, s.judge f c reserved t)
  let ok := judged.filter fun x => x.2.isNone
  let bad := judged.filterMap fun x => x.2.map fun w => (x.1, w)
  let s1 := s.each bad fun s x =>
    let s := (s.countDrop f.dec.cls x.1 x.2).dropViolation f x.1 x.2
    match x.1.ts with
    | some (id, tb) => s.txtsWrite x.1.port { id, tb, ns32 := 0, frac := 0, dropped := true }
    | none => s
  let why := if f.dec.discarded then 3 else 5
  if ok.isEmpty then ((s1.setFrame { f with stage := .stored }).traceAdmit f [] why).settle f.id
  else
    let s1 := s1.when (!bad.isEmpty) fun s => s.bump OAS_MC_PARTIAL
    let (s1, f) := s1.generateSeq f
    let (s1, cell) := match f.cell with
      | some x => (s1, x)
      | none => s1.allocShared (min c (cellsFor f.bytes.length)) (ownerOf f)
    let fwd := (ok.filter fun x => x.1.kind == 0).map fun x => x.1.port
    let s1 := s1.setFrame { f with
      stage := .stored
      cell := some cell
      charge := c
      charged := reserved
      sentTo := if f.sentTo.isEmpty then fwd else f.sentTo }
    let first := s1.oas.nextCopy
    let s1 := s1.each ok fun s1 x => State.addCopy s s1 f c cell x.1
    let n := s1.oas.nextCopy - first
    let s1 := s1.traceAdmit f ((s1.copiesOf f.id).filter fun x => Nat.ble first x.id) why
    ((s1.linkReady f ((List.range n).map (first + ·))).wakeEgress (ok.map fun x => x.1.port)).settle f.id

/-- Copies judged under a reservation: whether the frame's charge is within its account, and the overflow counted where it is not
(R267). Cells of a pinned frame are on no account (R277). -/
def admitUnder (s : State) (f : Frame) (ts : List Target) (rsv : Option Nat) : State :=
  let (s, ts) := s.coupleFilter f ts
  let c := if f.charge = 0 then s.chargeFor f else f.charge
  let reserved := rsv.any fun r => (f.charged && f.pinned.isNone) || Nat.ble (s.rsvUsed r + c) (s.account r)
  let s := s.when (rsv.isSome && !reserved && !ts.isEmpty) fun s => (s.bump OAS_RSV_OVERFLOW).setBit OAS_IRQ_STATUS 5
  s.admitWith f ts rsv reserved

/-- Admission of a frame's copies under the reservation of its handle (R267, R303). -/
def admitCopies (s : State) (f : Frame) (ts : List Target) : State :=
  (s.admitUnder f ts (if f.bypass then none else s.reservation f.bank f.dec.handle)).releaseAlloc f.id

/-- Every copy of a decided frame (R267): port copies, ingress mirror copies, the CPU copy. -/
def admitFrame (s : State) (f : Frame) : State :=
  let (s, ps, cpu) := s.portTargets f
  let (s, a) := s.forwardTargets f 0 ps
  let is := s.ingressSessions f
  let (s, b) := s.mirrorTargets f.bank (ergOf f.port) 1 is (let r := f.recv.getD f.bytes; r.take (r.length - 4))
  let c := match cpu with | some r => [s.cpuTarget f r] | none => []
  s.admitCopies { f with mirrored := is.foldl (fun m i => m ||| 2 ^ i) f.mirrored } (a ++ b ++ c)

/-! ### Arrival of the last byte (R266, R272, R277) -/

/-- The previous pin of a hold slot is released by a FREE of client 7, a fresh one recorded (R277). -/
def unpin (s : State) (i : Nat) : State :=
  match s.frames.find? fun f => f.pinned == some i with
  | none => s
  | some f =>
    let s := s.setFrame { f with pinned := none }
    let s := match f.cell with | some x => s.freeBy x 7 | none => s
    s.settle f.id

/-- A frame that has passed its checks is pinned for its hold slot (R236, R277): refused where it would pass
OAS_PIN_CFG.CELLS or has no chain. The descriptor number in the slot is a free value (log entry 22). -/
def takePin (s : State) (id i : Nat) : State :=
  let fail := fun (s : State) (f : Frame) => (s.setFrame { f with pinFor := none }).bump CVN_PIN_FAIL
  match s.frame id with
  | none => s.bump CVN_PIN_FAIL
  | some f =>
    match f.cell.bind s.chain with
    | none => fail s f
    | some ch =>
      let freed := match s.frames.find? fun g => g.pinned == some i with | some g => g.charge | none => 0
      if s.cf s.crest.bank OAS_PIN_CFG 0 18 < s.pinUsed - freed + f.charge then fail s f else
      match s.refChain ch.first with
      | (s, false) => fail s f
      | (s, true) =>
        let s := match s.chain ch.first with | some x => s.setChain { x with owner := 7 } | none => s
        let s := s.unpin i
        let s := s.setFrame { f with pinFor := none, pinned := some i }
        let (w, s) := s.draw
        s.setTab 0x33 4 i (setBits (s.tab 0x33 4 i) 0 19 (w.toNat % 2 ^ 18 + 2 ^ 18))

/-- The last byte of a good frame has come: the charge comes down to the real length, its stored copies are linked and
its pin is taken (R266, R272, R277). -/
def frameWhole (s : State) (f : Frame) : State :=
  let f := { f with lastIn := true }
  let s := s.setFrame { f with charge := if f.cell.isSome then cellsFor f.bytes.length else f.charge }
  if f.stage ≠ .stored then s
  else
    let s := s.each ((s.copiesOf f.id).filter fun c => !c.linked) fun s c => s.linkCopy c.id
    let s := match f.pinFor with | some i => s.takePin f.id i | none => s
    s.settle f.id

/-- The last byte of a bad frame has come: copies not linked are released unsent, copies cutting through end stomped
(R272, R274); a frame not yet stored is discarded. -/
def frameBad (s : State) (f : Frame) : State :=
  let f := { f with lastIn := true, bad := true, pinFor := none, charge := if f.cell.isSome then min f.charge (cellsFor f.bytes.length) else f.charge }
  let s := s.setFrame f
  if f.stage ≠ .stored then s.dropFrame f.id
  else (s.each ((s.copiesOf f.id).filter fun c => !c.linked) fun s c => s.releaseCopy c).settle f.id

/-! ### Link down and reattachment (R276, R289) -/

/-- Copies of ports by a predicate that are queued, in queue order. -/
def queuedCopies (s : State) (p : Copy → Bool) : List Copy :=
  let l := s.oas.copies.filter fun c => !c.started && p c
  ((l.map (·.queue)).eraseDups.mergeSort (· ≤ ·)).flatMap fun q => l.filter fun c => c.queue == q

/-- Every copy queued for a port is discarded (R276). -/
def flushPort (s : State) (p : Nat) : State :=
  s.each (s.queuedCopies fun c => c.port == p) fun s c =>
    ((s.discardCopy c).bump OAS_LINK_DOWN_DROPS).bump (OAS_PORT_DROPS p)

/-- Copies in queues that move to another port at a commit are discarded (R289). -/
def reattach (s : State) (old new : Bool) : State :=
  s.each (s.queuedCopies fun c => Nat.ble 552 c.queue && s.queuePort old c.queue != s.queuePort new c.queue) fun s c =>
    ((((s.discardViolation c).discardCopy c).bump SCH_REATTACH_DROPS).bump (OAS_PORT_DROPS c.port)).setBit SCH_IRQ_STATUS 4

/-! ### Frames sent without lookup (R359, R374) -/

/-- A frame put on a class queue of a port without lookup, in a buffer of its own that its sender releases at once
(R264). `body` is without FCS; the timestamp is asked for by identifier and time base. -/
def sendDirect (s : State) (body : Bytes) (p k owner : Nat) (ts : Option (Nat × Nat)) (claim : Bool) : State :=
  match s.allocBuffer (body.length + 4) owner with
  | (s, none) => s
  | (s, some (cell, _)) =>
    let f : Frame := {
      id := s.nextId, port := 64, bytes := withFcs body, bank := s.crest.bank, cnt := s.time.cnt, raw := s.time.raw,
      order := s.rawNs, lastIn := true, stage := .decided, root := s.nextId, cell := some cell, alloc := some owner, bypass := true }
    let s := { s with frames := s.frames ++ [f], nextId := s.nextId + 1 }
    s.admitCopies f [{ port := p, queue := 8 * p + k, kind := 0, ts, claim }]

end State

/-! ### Commands of the client interface (R261 to R265) -/

/-- Client number of a requester (R261). -/
def clientOf : Requester → Nat
  | .host => 5
  | .mgmt => 6

namespace State

/-- OAS_ALLOC_RESULT of a requester. -/
def allocResult (s : State) (rq : Requester) : Nat := match rq with | .host => s.oas.allocHost | .mgmt => s.oas.allocMgmt

/-- OAS_ALLOC_RESULT of a requester replaced. -/
def setAllocResult (s : State) (rq : Requester) (v : Nat) : State :=
  match rq with
  | .host => s.setOas { s.oas with allocHost := v }
  | .mgmt => s.setOas { s.oas with allocMgmt := v }

/-- OAS_ALLOC_REQ (R265). -/
def allocRequest (s : State) (rq : Requester) (size : Nat) : State :=
  match s.allocBuffer size (clientOf rq) with
  | (s, some (cell, pool)) => s.setAllocResult rq (cell % 2 ^ 18 + pool * 2 ^ 18 + 2 ^ 31)
  | (s, none) => s.setAllocResult rq (2 ^ 30 + 2 ^ 31)

/-- A leaf word of the bitmap found wrong (R283): corrected, or no longer trusted, so that the cells it records as free are not
handed out and none of its cells returns to the free store. -/
def bitmapError (s : State) (x : BitmapErr) : State :=
  if x.corrected then s.eccCorrected x.word else
  let s := s.eccUncorrected 47 x.word
  let out := fun (r : Nat × Nat) =>
    [(r.1, min r.2 (64 * x.word)), (max r.1 (64 * x.word + 64), r.2)].filter fun r => decide (r.1 < r.2)
  s.setOas { s.oas with lostWords := (s.oas.lostWords ++ [x.word]).eraseDups, free := s.oas.free.flatMap out }

/-- A pool takes or returns one buffer (R263). -/
def carve (s : State) (n : Nat) : State :=
  let k := poolCells n
  if s.carved n < s.poolTarget n ∧ k ≤ s.sharedFree then
    let (cells, free) := takeCells k s.oas.free
    s.setOas { s.oas with free, pools := s.oas.pools.set n (s.poolFree n ++ [cells]) }
  else if s.poolTarget n < s.carved n then
    match s.poolFree n with
    | [] => s
    | cells :: r => (s.setOas { s.oas with pools := s.oas.pools.set n r }).giveCells cells
  else s

/-- OAS_DFREE_LOG_CTL.CLEAR (R262). -/
def clearFreeLog (s : State) : State :=
  (s.each (List.range 16) fun s i => s.setReg (OAS_DFREE_LOG i) 0).setFld OAS_DFREE_LOG_CTL 8 5 0

end State

/-- POOL_CARVE (R263), with what the codes find in the bitmap as it is read (R283). -/
def execPoolCarve (t : PoolTurn) (s : State) : Result :=
  finish (if t.pool < 4 then (match t.err with | some x => s.bitmapError x | none => s).carve t.pool else s)

end Sys2Proof.Machine
end

