-- ==== Sys2Proof/Machine/Caravan.lean ====
section
/-! DEFINITION. The caravan (R218 to R254): the ledger and its sweep, reports, hold, probes, and coupling. -/

namespace Sys2Proof.Machine

abbrev tblLedger : Nat := 0x30
abbrev tblProfile : Nat := 0x31
abbrev tblHold : Nat := 0x32
abbrev tblHoldState : Nat := 0x33

/-- 35 ms in the units of the counts (R246, R247). -/
def silence : Nat := 35000000 * nsUnit

namespace State

/-- The caravan's own state replaced. -/
def withCvn (s : State) (c : Caravan) : State := { s with cvn := c }

/-! ### Profiles (R221, R222) -/

/-- Profile of a handle: the lowest enabled range that includes it, else profile 0 (R221). -/
def profileIndex (s : State) (b : Bool) (h : Nat) : Nat :=
  match (List.range 32).find? fun i =>
    s.cbit b (CVN_RANGE_LAST i) 31 && Nat.ble (s.cf b (CVN_RANGE_FIRST i) 0 24) h && Nat.ble h (s.cf b (CVN_RANGE_LAST i) 0 24) with
  | some i => s.cf b (CVN_RANGE_LAST i) 24 6
  | none => 0

/-- Stream profile of a handle in a bank (R252). -/
def streamProfile (s : State) (b : Bool) (h : Nat) : Nat := s.tabB b tblProfile (s.profileIndex b h)

/-! ### Reports (R233, R234) -/

/-- Size of a stale-stream ring. -/
def staleSize (s : State) (r : Nat) : Nat := 2 ^ s.rf (CVN_RING_CTL r) 2 5

/-- A report to one ring (R234). A ring whose EN is 0 takes nothing. -/
def ringReport (s : State) (r : Nat) (b : Bytes) : State :=
  if ¬ s.rbit (CVN_RING_CTL r) 0 then s else
  let prod := s.rf (CVN_RING_PROD r) 0 20
  let cons := s.rf (CVN_RING_CONS r) 0 20
  let mark := fun (s : State) (v : Bool) => { s with cvn := { s.cvn with overran := s.cvn.overran.set r v } }
  let s := if prod = cons then mark s false else s
  if (prod + 1) % s.staleSize r = cons % s.staleSize r then
    let s := (s.bump (CVN_RING_DROPS r)).setBit CVN_IRQ_STATUS 3
    if s.cvn.overran.getD r false then s else mark (s.raise 39 r) true
  else
    let sram := s.rbit (CVN_RING_CTL r) 1
    let s := s.dmaWrite sram (s.baseAddr (CVN_RING_BASE_LO r) (CVN_RING_BASE_HI r) sram + 8 * prod) b
    (s.setFld (CVN_RING_PROD r) 0 20 ((prod + 1) % s.staleSize r)).setBit CVN_IRQ_STATUS (1 + r)

/-- A report (R233): handle, kind, SEEN bits and NS32, under profile `prof`. -/
def report (s : State) (prof handle kind seen ns : Nat) : State :=
  let b := leBytes 8 (handle % 2 ^ 24 + kind % 16 * 2 ^ 24 + seen % 4 * 2 ^ 28 + ns % 2 ^ 32 * 2 ^ 32)
  let s := (s.bump CVN_STALE_REPORTS).event 5 8 1
  let s := s.when (bit prof 19) fun s => s.ringReport 0 b
  s.when (bit prof 20) fun s => s.ringReport 1 b

/-- Bits [31:0] of the total nanosecond count of TB0 at a raw TB0 instant (R233). -/
def nsAtRaw (s : State) (raw : Nat) : Nat := ns32 (shiftCount (s.count 0) ((Int.ofNat raw) - s.rawCount 0))

end State

/-! ### Ledger entries (R219, R220) -/

/-- A ledger entry. -/
structure Entry where
  last : Nat
  hist : Nat
  age : Nat
  seenA : Bool
  seenB : Bool
  flag : Bool
  valid : Bool
  deriving DecidableEq, Repr

/-- First slot of a handle's entry (R220). -/
def entrySlot (wide : Bool) (h : Nat) : Nat := if wide then h / 2 * 2 else h

/-- SEEN_B and SEEN_A. -/
def Entry.seen (e : Entry) : Nat := b2n e.seenA + b2n e.seenB * 2

/-- The SEEN bit of a path set; path B is true. -/
def Entry.see (e : Entry) (p : Bool) : Entry := if p then { e with seenB := true } else { e with seenA := true }

namespace State

/-- The entry in a slot. -/
def entry (s : State) (wide : Bool) (i : Nat) : Entry :=
  let x := s.tab tblLedger 4 i
  { last := bits x 0 16, hist := bits x 16 8 + (if wide then s.tab tblLedger 4 (i + 1) % 2 ^ 32 * 256 else 0), age := bits x 24 4,
    seenA := bit x 28, seenB := bit x 29, flag := bit x 30, valid := bit x 31 }

/-- The entry of a slot replaced. -/
def setEntry (s : State) (wide : Bool) (i : Nat) (e : Entry) : State :=
  let s := s.setTab tblLedger 4 i (packFields [(0, e.last % 65536), (16, e.hist % 256), (24, e.age % 16), (28, b2n e.seenA),
    (29, b2n e.seenB), (30, b2n e.flag), (31, b2n e.valid)])
  if wide then s.setTab tblLedger 4 (i + 1) (e.hist / 256 % 2 ^ 32) else s

/-- A parity error found in slot `i`: its entry is rewritten, and the slot recorded (R249). -/
def ledgerParity (s : State) (wide : Bool) (i : Nat) : State :=
  let s := s.setEntry wide (entrySlot wide i) ⟨0, 0, 0, false, false, false, false⟩
  (((s.bump CVN_PARITY).setReg CVN_PARITY_LAST (i % 2 ^ 23)).setBit CVN_IRQ_STATUS 0).raise 38 i

/-! ### The sweep (R230 to R232) -/

/-- Length of a tick in raw nanoseconds, active bank. -/
def tickLen (s : State) : Nat := max 1 (s.cf s.crest.bank CVN_TICK 0 9) * 10000000

/-- Raw TB0 nanoseconds of the next tick: the first after the last one swept, or after the caravan began or TICK changed. -/
def nextTick (s : State) : Nat := (s.cvn.tick / s.tickLen + 1) * s.tickLen

/-- A commit has replaced bank `old`: where TICK has changed, ticks and half ticks are counted anew from now, and none before now is
swept (R230). -/
def tickMoved (s : State) (old : Bool) : State :=
  if s.tickLen = ({ s with crest := { s.crest with bank := old } }).tickLen then s
  else s.withCvn { s.cvn with tick := max s.cvn.tick s.rawNs, ahead := [], half := 0, halfAt := 0, probed := [] }

/-- Path reports of the sweep (R231, steps 4 and 5): the state and the entry with its FLAG. -/
def latent (s : State) (prof i ns : Nat) (e : Entry) : State × Entry :=
  if ¬ bit prof 16 then (s, e) else
  let kind := if e.seenA then 4 else 3
  match bits prof 0 2 with
  | 1 =>
    if e.seenA && e.seenB then (s, { e with flag := false })
    else if e.seenA != e.seenB && !e.flag then (s.report prof i kind e.seen ns, { e with flag := true })
    else (s, e)
  | 2 => if e.seenA != e.seenB then (s.report prof i kind e.seen ns, e) else (s, e)
  | _ => (s, e)

/-- The sweep's step at the entry in slot `i` for the tick at raw nanoseconds `tick` (R231). -/
def sweepSlot (s : State) (tick i : Nat) : State :=
  let prof := s.streamProfile s.crest.bank i
  let wide := bit prof 2
  if wide ∧ i % 2 = 1 then s else
  let e := s.entry wide i
  if ¬ e.valid then s else
  let ns := s.nsAtRaw (tick * nsUnit)
  let old := e.age
  let e := { e with age := min 15 (old + 1) }
  let s := s.when (bits prof 12 4 != 0 && e.age == bits prof 12 4 && old != e.age) fun s => s.report prof i 1 e.seen ns
  let expired := bits prof 8 4 != 0 && Nat.ble (bits prof 8 4) e.age
  let s := s.when expired fun s => (s.bump CVN_RESETS).when (bit prof 18) fun s => s.report prof i 6 e.seen ns
  let e := { e with valid := !expired }
  let (s, e) := s.latent prof i ns e
  s.setEntry wide i { e with seenA := false, seenB := false }

/-- The sweep of a tick (R231): every slot that holds something and has not had the step, in ascending order. -/
def sweepAll (s : State) (tick : Nat) : State :=
  s.each ((s.listed tblLedger 4).filter fun x => !s.cvn.ahead.contains x.1) fun s x => s.sweepSlot tick x.1

/-- A ledger tick (R230): `bad` are slots in which the sweep meets a parity error (R249). None in SAFE. -/
def ledgerTick (s : State) (bad : List Nat) : State :=
  if s.mode = .safe then s else
  let t := s.nextTick
  let s := s.elapseToRaw (t * nsUnit)
  let s := s.each bad fun s i => if i < 5242880 then
    s.ledgerParity (bit (s.streamProfile s.crest.bank i) 2) i else s
  let s := (s.sweepAll t).event 5 7 5242880
  let s := { s with cvn := { s.cvn with tick := t, ahead := [], sweep := some s.time.clk, half := t / (s.tickLen / 2), halfAt := s.time.clk } }
  (s.setBit CVN_STATUS 0).revote domCaravan

/-- The sweep has visited every slot (R230): its length in µs, and the caravan's vote ends. -/
def sweepEnd (s : State) (wait : Nat) : State :=
  match s.cvn.sweep with
  | none => s
  | some t =>
    let s := s.elapse (min wait 1250000)
    let us := ceilDiv (s.time.clk - t) 250
    ((s.clrBit CVN_STATUS 0).setFld CVN_STATUS 16 16 (min 65535 us)).withCvn { s.cvn with sweep := none }

/-! ### Sequence number and path (R223, R224) -/

/-- RX_PATH of a frame's port in its bank: path B is true; port 64 takes path A. -/
def rxPath (s : State) (f : Frame) : Bool := Nat.blt f.port 64 && s.cbit f.bank (CVN_PORT f.port) 0

/-- The Renil stream tag of a frame, version 1 (R242, R243). -/
def renilOf (f : Frame) : Option Nat :=
  ((f.parse.fixed 5).map fun a => renilAt f.bytes a).filter fun t => bits t 46 2 == 1

/-- Sequence number and path from one source of R223. -/
def seqSource (s : State) (f : Frame) (k : Nat) : Option (Nat × Bool) :=
  match k with
  | 1 => (renilOf f).map fun t => (bits t 0 16, bit t 44)
  | 2 => (f.parse.fixed 6).map fun a => (be16 f.bytes (a + 4), s.rxPath f)
  | 3 => (f.parse.fixed 7).map fun a => (be16 f.bytes (a + 4), s.rxPath f)
  | 4 => if f.dec.seif then none else prpOf f.bytes f.parse.tags
  | _ => none

/-- The sources that a profile reads, in order (R223). -/
def seqSources (prof : Nat) : List Nat :=
  match bits prof 3 3 with
  | 1 => [1]
  | 2 => [2]
  | 3 => [3]
  | 4 => [4]
  | _ => [1, 2, 3, 4]

/-- Sequence number and path of a frame under a profile (R223). -/
def seqOf (s : State) (f : Frame) (prof : Nat) : Option (Nat × Bool) := (seqSources prof).findSome? (s.seqSource f)

/-- The frame must be whole before it is decided: its sequence can only come from the trailer (R224; log entry 24). -/
def needsTrailer (s : State) (f : Frame) (prof : Nat) : Bool :=
  !f.dec.seif && (seqSources prof).contains 4 && (((seqSources prof).filter (· != 4)).findSome? (s.seqSource f)).isNone

end State

/-! ### Elimination (R226) -/

/-- Outcomes of the vector recovery algorithm. -/
inductive Judged where
  | accept | outOfOrder | jump | duplicate | rogue
  deriving DecidableEq, Repr

/-- An accepted outcome. -/
def Judged.accepted : Judged → Bool
  | .duplicate | .rogue => false
  | _ => true

/-- The vector recovery algorithm with `h` history bits (R226). -/
def recover (h seq : Nat) (jump : Bool) (e : Entry) : Judged × Entry :=
  if ¬ e.valid then (.accept, { e with last := seq, hist := 0, valid := true }) else
  let d := signed 16 ((seq + 65536 - e.last % 65536) % 65536)
  let n := d.natAbs
  if d = 0 then (.duplicate, e)
  else if 0 < d ∧ n ≤ h then (.accept, { e with hist := ((e.hist * 2 ^ n) ||| 2 ^ (n - 1)) % 2 ^ h, last := seq })
  else if d < 0 ∧ n ≤ h then
    if bit e.hist (n - 1) then (.duplicate, e) else (.outOfOrder, { e with hist := e.hist ||| 2 ^ (n - 1) })
  else if 0 < d ∧ jump then (.jump, { e with last := seq, hist := 0 })
  else (.rogue, e)

/-- History bits of an entry (R226). -/
def histBits (wide : Bool) : Nat := if wide then 40 else 8

namespace State

/-- What an outcome counts (R226). -/
def countJudged (s : State) (j : Judged) : State :=
  match j with
  | .accept => (s.bump CVN_ACCEPTED).event 5 2 1
  | .outOfOrder => ((s.bump CVN_ACCEPTED).bump CVN_OUT_OF_ORDER).event 5 2 1
  | .jump => ((s.bump CVN_ACCEPTED).bump CVN_ROGUE).event 5 2 1
  | .duplicate => (s.bump CVN_DUPLICATES).event 5 3 1
  | .rogue => (s.bump CVN_ROGUE).event 5 4 1

/-- A RESUMED report, where an accepted frame meets its conditions (R231): `e` is the entry before the frame, `seen`
its SEEN bits with the frame's. -/
def resumed (s : State) (f : Frame) (prof i : Nat) (e : Entry) (seen : Nat) : State :=
  s.when (bit prof 17 && bits prof 12 4 != 0 && Nat.ble (bits prof 12 4) e.age) fun s =>
    s.report prof i 2 seen (ns32 (f.cnt.getD 0 0))

/-- Raw TB0 stamp of a frame in nanoseconds. -/
def rawStamp (f : Frame) : Nat := totalNs (f.raw.getD 0 0)

/-- A frame stamped at or after the next tick first applies the sweep's step to its slot (R232). -/
def sweepAhead (s : State) (f : Frame) (i : Nat) : State :=
  if rawStamp f < s.nextTick ∨ s.cvn.ahead.contains i then s
  else (s.sweepSlot s.nextTick i).withCvn { (s.sweepSlot s.nextTick i).cvn with ahead := s.cvn.ahead ++ [i] }

/-- A frame reaches its entry: a parity error found there, in the odd slot of a wide entry where `parity` is true, and the sweep's
step (R232, R249). -/
def openEntry (s : State) (f : Frame) (wide : Bool) (i : Nat) (parity : Option Bool) : State :=
  (s.when parity.isSome fun s => s.ledgerParity wide (i + b2n (wide && parity == some true))).sweepAhead f i

/-- The judgement of a frame against its entry (R226): the state and the outcome. -/
def judgeFrame (s : State) (f : Frame) (prof h seq : Nat) (path : Bool) : State × Judged :=
  let wide := bit prof 2
  let i := entrySlot wide h
  let e := s.entry wide i
  let (j, e') := recover (histBits wide) seq (bit prof 7) e
  let e' := e'.see path
  let s := (s.setEntry wide i (if j.accepted then { e' with age := 0 } else e')).countJudged j
  (s.when j.accepted fun s => s.resumed f prof i e e'.seen, j)

/-- A sequence number would be accepted now (R226). -/
def wouldAccept (s : State) (prof h seq : Nat) : Bool :=
  (recover (histBits (bit prof 2)) seq (bit prof 7) (s.entry (bit prof 2) (entrySlot (bit prof 2) h))).1.accepted

/-- A frame discarded by the caravan: its mirror copies and a CPU copy that does not stand for its destination are still
made (R215, R227, R358; log entry 25). -/
def caravanDiscard (s : State) (f : Frame) : State :=
  let cpu := if f.dec.cpu = some 8 ∨ f.dec.cpu = some 11 then none else f.dec.cpu
  (s.when cpu.isNone fun s => s.traceDone f none 4).admitFrame { f with dec := { f.dec with dest := .nowhere, discarded := true, cpu } }

/-! ### Hold (R235 to R239) -/

/-- CRS_RELOAD bit 15: HOLD frames find no hold entry (R250). -/
def caravanReload (s : State) : Bool := s.rbit CRS_RELOAD 15

/-- The hold entry of a handle in a bank (R235): index and entry. -/
def holdEntry (s : State) (b : Bool) (h : Nat) : Option (Nat × Nat) :=
  if s.caravanReload then none else s.fourWays b tblHold 128 (handleBucket 11 h) fun x => bits x 0 24 == h

/-- Hold state of an index (R253). -/
def holdState (s : State) (i : Nat) : Nat := s.tab tblHoldState 4 i

/-- Fields of a hold state replaced. -/
def setHold (s : State) (i lo w v : Nat) : State := s.setTab tblHoldState 4 i (setBits (s.holdState i) lo w v)

/-- DEADLINE of a hold slot in raw TB0 nanoseconds. -/
def deadline (s : State) (i : Nat) : Nat := bits (s.holdState i) 32 64

/-- PIN_VALID of a hold slot. -/
def pinValid (s : State) (i : Nat) : Bool := bit (s.holdState i) 18

/-- A hold slot's pin is released and its PIN_VALID cleared (R238, R277). -/
def releasePin (s : State) (i : Nat) : State := (s.setHold i 18 1 0).unpin i

/-- A copy on port `p` leaves with a Renil stream tag in a bank (R237, R280). -/
def leavesTagged (s : State) (b : Bool) (f : Frame) (p : Nat) : Bool :=
  if stagKind f.parse = some .renil then s.tagEdit b p .renil != 2
  else s.tagEdit b p .renil == 1 && f.seq.isSome && f.dec.handle.isSome

/-- Copies of a pinned frame under the active bank, on its own reservation (R80, R237, R241). -/
def sendPinned (s : State) (f : Frame) (ts : List Target) : State :=
  let b := f.bank
  let s := s.admitUnder { f with bank := s.crest.bank } ts f.rsv
  match s.frame f.id with
  | some g => s.setFrame { g with bank := b }
  | none => s

/-- The substitute of a pinned frame (R237): ports where it would leave without a tag are skipped and counted. -/
def substitute (s : State) (f : Frame) : State :=
  let ps := f.sentTo.filter (s.leavesTagged s.crest.bank f)
  let s := s.bumpBy CVN_SUBST_UNTAGGED (f.sentTo.length - ps.length)
  let (s, ts) := s.forwardTargets { f with bank := s.crest.bank } 3 ps
  ((s.sendPinned f ts).bump CVN_SUBSTITUTES).event 5 5 1

/-- FLAG of a handle's entry set, its profile read in a bank (R221, R236, R237). -/
def flagEntry (s : State) (b : Bool) (h : Nat) (v : Bool) : State :=
  let wide := bit (s.streamProfile b h) 2
  let i := entrySlot wide h
  s.setEntry wide i { s.entry wide i with flag := v }

/-- The end of a hold (R238). -/
def holdExhausted (s : State) (i h : Nat) : State :=
  let prof := s.streamProfile s.crest.bank h
  let wide := bit prof 2
  let s := s.releasePin i
  let s := s.report prof (entrySlot wide h) 5 (s.entry wide (entrySlot wide h)).seen (ns32 (s.count 0))
  ((s.bump CVN_HOLD_EXHAUSTED).setBit CVN_IRQ_STATUS 4).raise 40 h

/-- What the check of a hold slot does (R237 to R239). -/
def holdCheckNow (s : State) (i : Nat) : State :=
  match s.frames.find? fun f => f.pinned == some i with
  | none => s.setHold i 18 1 0
  | some f =>
    match (if s.caravanReload then none else s.crested s.crest.bank tblHold 4 i 128) with
    | none => s.releasePin i
    | some x =>
      let h := bits x 0 24
      if max 1 (bits x 60 8) ≤ bits (s.holdState i) 20 8 then s.holdExhausted i h
      else
        let s := (s.substitute f).flagEntry s.crest.bank h true
        let s := s.setHold i 20 8 (bits (s.holdState i) 20 8 + 1)
        s.setHold i 32 64 (s.deadline i + max 1 (bits x 24 20) * 1000)

/-- The caravan casts or ends its vote for a hold check or a probe (R250, R317). -/
def castCvn (s : State) (v : Bool) : State := { s with pow := { s.pow with cvnVote := v } }

/-- The work of a hold check or a probe, for which the caravan votes its domain on: one that is not on wakes first (R250). -/
def whileOn (s : State) (g : State → State) : State :=
  if s.awake domCaravan then (g (s.castCvn true)).castCvn false else (s.castCvn true).wake domCaravan

/-- Raw TB0 count at which a hold slot is checked (R237). -/
def checkAt (s : State) (i : Nat) : Nat := (s.deadline i + s.cf s.crest.bank CVN_HOLD_CFG 0 16) * nsUnit

/-- The check of a hold slot at DEADLINE + SETTLE_NS (R237): none without a pin and none in SAFE. -/
def holdCheck (s : State) (i : Nat) : State :=
  if s.mode = .safe ∨ ¬ s.pinValid i then s else s.whileOn fun s => (s.elapseToRaw (s.checkAt i)).holdCheckNow i

/-- A check that an accepted frame finds outstanding: its deadline lies before the frame's stamp (R239). -/
def checkDue (s : State) (f : Frame) (i : Nat) : Bool := s.pinValid i && Nat.blt (s.deadline i) (rawStamp f)

/-- The check that is outstanding when a frame stamped after the deadline is accepted: its instant has come (R239). -/
def checkFirst (s : State) (f : Frame) (i : Nat) : State := if s.checkDue f i then s.holdCheckNow i else s

/-- A frame stamped at or before its deadline that comes after the check (R239). -/
def holdLate (s : State) (f : Frame) (i x : Nat) (flag : Bool) : State :=
  s.when (flag && Nat.ble (rawStamp f + max 1 (bits x 24 20) * 1000) (s.deadline i)) fun s =>
    (s.bump CVN_HOLD_LATE).setBit CVN_IRQ_STATUS 6

/-- The hold slot after an accepted frame (R236). -/
def holdFresh (s : State) (f : Frame) (i x : Nat) (path : Bool) : State :=
  let s := s.setHold i 32 64 (rawStamp f + max 1 (bits x 24 20) * 1000 + bits x 44 16 * 1000)
  let s := s.setHold i 20 8 0
  let s := s.flagEntry f.bank (bits x 0 24) false
  if bit (s.holdState i) 19 = path then s else (s.setHold i 19 1 (b2n path)).bump CVN_SWITCHOVERS

/-- An accepted HOLD frame is admitted and pinned, now or when its last byte comes (R236, R277). -/
def admitHeld (s : State) (f : Frame) (i : Nat) : State :=
  let s := s.admitFrame { f with pinFor := if f.lastIn then none else some i }
  if f.lastIn then s.takePin f.id i
  else s.when ((s.frame f.id).any fun g => g.stage == .dropped) fun s => s.bump CVN_PIN_FAIL

/-- A HOLD frame with a sequence number (R235, R236). -/
def holdFrame (s : State) (f : Frame) (prof h seq : Nat) (path : Bool) : State :=
  match s.holdEntry f.bank h with
  | none =>
    match (s.bump CVN_HOLD_NO_ENTRY).judgeFrame f prof h seq path with
    | (s, j) => if j.accepted then s.admitFrame f else s.caravanDiscard f
  | some (i, x) =>
    let s := if s.wouldAccept prof h seq then s.checkFirst f i else s
    let flag := (s.entry (bit prof 2) (entrySlot (bit prof 2) h)).flag
    match s.judgeFrame f prof h seq path with
    | (s, j) =>
      if j.accepted then ((s.holdLate f i x flag).holdFresh f i x path).admitHeld f i else s.caravanDiscard f

/-! ### What is offered (R218, R222, R225, R433) -/

/-- A frame that carries HOLD = 1 (R225). -/
def holdTagged (s : State) (f : Frame) (mode prof h tag : Nat) : State :=
  let probe := bit tag 43
  let s := s.bump (if probe then CVN_PROBES_RX else CVN_HOLD_IN)
  if mode = 2 then
    let wide := bit prof 2
    let i := entrySlot wide h
    let s := s.when probe fun s => s.setEntry wide i ((s.entry wide i).see (bit tag 44))
    s.caravanDiscard f
  else if probe then s.caravanDiscard f
  else s.admitFrame f

/-- A SUPERVISE frame (R433). -/
def supervise (s : State) (f : Frame) (prof h : Nat) (path : Option Bool) : State :=
  let wide := bit prof 2
  let i := entrySlot wide h
  let e := s.entry wide i
  let e' := match path with | some p => e.see p | none => e
  let s := (s.setEntry wide i { e' with age := 0, valid := true }).bump CVN_ACCEPTED
  (s.resumed f prof i e e'.seen).admitFrame f

/-- A frame with a handle in a mode other than bypass (R222 to R226). -/
def ledgerFrame (s : State) (f : Frame) (mode prof h : Nat) (sp : Option (Nat × Bool)) (parity : Option Bool) : State :=
  let wide := bit prof 2
  let i := entrySlot wide h
  let s := s.event 5 1 1
  match (renilOf f).filter fun t => bit t 45 with
  | some t => (if mode = 2 then s.openEntry f wide i parity else s).holdTagged f mode prof h t
  | none =>
    if mode = 3 then (s.openEntry f wide i parity).supervise f prof h (sp.map (·.2)) else
    match sp with
    | none => if bit prof 6 then (s.bump CVN_NO_SEQ).caravanDiscard f else (s.bump CVN_NO_SEQ).admitFrame f
    | some (seq, path) =>
      let s := s.openEntry f wide i parity
      if mode = 2 then s.holdFrame f prof h seq path
      else match s.judgeFrame f prof h seq path with
        | (s, j) => if j.accepted then s.admitFrame f else s.caravanDiscard f

/-- The caravan mode of a frame (R222). -/
def caravanMode (f : Frame) (prof : Nat) : Nat := if f.dec.cvnMode = 0 then bits prof 0 2 else f.dec.cvnMode

/-- A HOLD frame that would be accepted waits for the check of its slot, whose deadline lies before its stamp: the substitute goes at
the check, and then the frame is accepted (R239). -/
def holdWaits (s : State) (f : Frame) (parity : Option Bool) : Bool :=
  match f.dec.handle with
  | none => false
  | some h =>
    let prof := s.streamProfile f.bank h
    match s.holdEntry f.bank h, s.seqOf f prof with
    | some (i, _), some (seq, _) =>
      caravanMode f prof == 2 && !((renilOf f).any fun t => bit t 45) && s.checkDue f i && Nat.blt (s.rawCount 0) (s.checkAt i) &&
        (s.openEntry f (bit prof 2) (entrySlot (bit prof 2) h) parity).wouldAccept prof h seq
    | _, _ => false

/-- The earlier of two frames in the order of R143: order stamp, first passes before second passes, ingress port. -/
def earlier (a b : Frame) : Bool :=
  Nat.blt a.order b.order || (a.order == b.order && ((!a.second && b.second) || (a.second == b.second && Nat.blt a.port b.port)))

/-- Frame `g` came through the port of `f` before it. -/
def arrivedBefore (g f : Frame) : Bool := g.port == f.port && !g.second && !f.second && Nat.blt g.id f.id

/-- A frame waits at the caravan while one that goes before it is still to be offered: among the frames of the general path of its erg
in the order of R143, among the frames of its port in arrival order (R155, R228). A frame that waits for a hold check holds up
its own handle alone, and a frame not yet decided one that an express entry gives the same handle (DEDUCED, log entry 141). -/
def caravanHeld (s : State) (f : Frame) : Bool :=
  f.dec.handle.isSome && !f.dec.discarded && s.frames.any fun g =>
    g.id != f.id && g.dec.handle.isSome && !g.dec.discarded &&
      match g.stage with
      | .decided => (arrivedBefore g f || (!f.dec.seif && !g.dec.seif && ergOf g.port == ergOf f.port && earlier g f)) &&
          (g.dec.handle == f.dec.handle || !s.holdWaits g none)
      | .stored | .dropped => false
      | _ => g.dec.express && g.dec.handle == f.dec.handle && arrivedBefore g f

/-- A decided frame is offered to the caravan (R218): its sequence number is read whatever its mode (R278). -/
def offer (s : State) (f : Frame) (parity : Option Bool) : State :=
  match f.dec.handle with
  | none => s.admitFrame f
  | some h =>
    let prof := s.streamProfile f.bank h
    if s.needsTrailer f prof ∧ ¬ f.lastIn then s else
    let sp := s.seqOf f prof
    let f := { f with seq := sp.map (·.1), seqTrailer := sp.isSome && s.needsTrailer f prof }
    if f.dec.discarded ∨ 5242880 ≤ h then s.admitFrame f else
    match caravanMode f prof with
    | 0 => s.admitFrame f
    | mode =>
      if ¬ s.awake domCaravan then s.wake domCaravan
      else if s.holdWaits f parity then s
      else s.ledgerFrame f mode prof h sp parity

/-- CARAVAN_OFFER: a decided frame, while the oasis is on; none in SAFE, where the ledger stays as it was (R230). -/
def caravanOffer (s : State) (id : Nat) (parity : Option Bool) : State :=
  match s.frame id with
  | none => s
  | some f =>
    if f.stage ≠ .decided ∨ s.mode = .safe ∨ s.caravanHeld f then s
    else if s.awake domOasis then (s.traceAt f.root 3 s.rawNs).offer f parity
    else s.wake domOasis

/-- Time passes to the tick or half tick at which slot `i` is next probed, once at each (R241). -/
def probeInstant (s : State) (i : Nat) : State :=
  let half := s.tickLen / 2 * nsUnit
  let next := sparseGet (fun _ => 0) i s.cvn.probed
  let k := if s.cvn.halfAt = s.time.clk ∧ next ≤ s.cvn.half then s.cvn.half else max (ceilDiv (s.rawCount 0) half) next
  let s := s.elapseToRaw (k * half)
  s.withCvn { s.cvn with half := k, halfAt := s.time.clk, probed := sparsePut (fun _ => 0) i (k + 1) s.cvn.probed }

/-- A path probe, at a tick or half a tick later (R241): none without a pin, nor in SAFE. -/
def probe (s : State) (i : Nat) : State :=
  if s.mode = .safe ∨ ¬ s.pinValid i ∨ s.caravanReload then s else
  match s.crested s.crest.bank tblHold 4 i 128, s.frames.find? fun f => f.pinned == some i with
  | some x, some f =>
    if ¬ bit x 75 ∨ ¬ s.portExists s.crest.bank (bits x 68 7) then s
    else s.whileOn fun s =>
      let (s, t) := (s.probeInstant i).forwardTarget { f with bank := s.crest.bank } 4 (bits x 68 7)
      (s.sendPinned f [{ t with path := some (!bit (s.holdState i) 19) }]).bump CVN_PROBES_TX
  | _, _ => s

/-! ### Coupled pairs (R244 to R248) -/

/-- The device's MAC address in the active bank. -/
def deviceMac (s : State) : Nat := s.cf s.crest.bank GLB_MAC_HI 0 16 * 2 ^ 32 + s.cf s.crest.bank GLB_MAC_LO 0 32

/-- The coupling mode in force: claim mode in TEST and RECOVERY (R247). -/
def coupleMode (s : State) : Nat :=
  match s.mode with
  | .test | .recovery => 1
  | _ => s.rf CVN_COUPLE_CTL 0 2

/-- The device's own claim (R246). -/
def ownClaim (s : State) : Nat := if s.cvn.yielding then 0 else s.reg CVN_COUPLE_CLAIM

/-- The device wins (R246). -/
def wins (s : State) : Bool :=
  s.cvn.ownAt.isSome && s.ownClaim != 0 && s.cvn.heard.all fun h =>
    match h with
    | none => true
    | some h => Nat.blt h.claim s.ownClaim || (h.claim == s.ownClaim && Nat.blt h.mac s.deviceMac)

/-- The forwarding state set at this instant; a change is recorded and raised (R244). -/
def setForwarding (s : State) (v : Bool) : State :=
  if s.cvn.fwd = v then s else
  let s := s.withCvn { s.cvn with fwd := v, changes := ((s.rawCount 0, v) :: s.cvn.changes).take 4 }
  let status := b2n v + b2n s.cvn.win * 2 + b2n s.cvn.yielding * 4 + b2n s.cvn.silentAt.isSome * 8 +
    b2n s.cvn.ownAt.isSome * 16 + (s.cvn.heard.filter (·.isSome)).length * 256
  (s.setBit CVN_IRQ_STATUS 5).raise 41 status

/-- The rules of R246 and R247 applied to the claims as they stand. -/
def coupleEval (s : State) : State :=
  let w := s.wins
  let lost := s.cvn.win && !w
  let s := s.withCvn { s.cvn with win := w }
  match s.coupleMode with
  | 0 => (s.withCvn { s.cvn with dualAt := none }).setForwarding true
  | 1 => (s.withCvn { s.cvn with dualAt := none }).setForwarding (w && s.cvn.silentAt.isNone)
  | _ =>
    let dual := if w then none else if lost ∧ s.rf CVN_COUPLE_CTL 18 13 ≠ 0 then some (s.rawCount 0) else s.cvn.dualAt
    (s.withCvn { s.cvn with dualAt := dual }).setForwarding (w || dual.isSome)

/-- The mode in force may have changed from `old`: entering claim mode starts the silence (R247, R248). -/
def coupleModeWas (s : State) (old : Nat) : State :=
  let s := if s.coupleMode = 1 then (if old = 1 then s else s.withCvn { s.cvn with silentAt := some (s.rawCount 0) })
    else s.withCvn { s.cvn with silentAt := none }
  s.coupleEval

/-- A claim frame without FCS (R245). -/
def claimBody (s : State) : Bytes :=
  let b := s.crest.bank
  let da := s.cf b CVN_CLAIM_DA_HI 0 16 * 2 ^ 32 + s.cf b CVN_CLAIM_DA_LO 0 32
  beBytes 6 da ++ beBytes 6 s.deviceMac ++ beBytes 2 (s.cf b CVN_CLAIM_ETYPE 0 16) ++ [1, BitVec.ofNat 8 (b2n s.cvn.yielding)] ++
    beBytes 2 (s.rf CVN_COUPLE_CTL 2 16) ++ beBytes 4 (s.reg CVN_COUPLE_CLAIM) ++ beBytes 6 s.deviceMac ++
    beBytes 4 s.cvn.claimSeq ++ List.replicate 28 0

/-- A claim frame queued on NOTIFY_PORT (R245, R248), in class 7 (log entry 26). -/
def sendClaim (s : State) : State :=
  let p := s.cf s.crest.bank CVN_COUPLE_NOTIFY 0 7
  if 64 ≤ p ∨ ¬ s.portExists s.crest.bank p then s
  else
    let b := s.claimBody
    (s.withCvn { s.cvn with claimSeq := (s.cvn.claimSeq + 1) % 2 ^ 32 }).sendDirect b p 7 6 none true

/-- The firmware services run (R245, R246). -/
def servicesRun (s : State) : Bool :=
  match s.mode with
  | .run | .handover => !s.boot.paused
  | _ => false

/-- A copy of a claim frame begins to leave: the own claim stands from now (R246). -/
def claimSent (s : State) : State := (s.withCvn { s.cvn with ownAt := some (s.rawCount 0) }).coupleEval

/-- The device yields or ends its yield as the links of the watched ports say (R248). -/
def watchLinks (s : State) : State :=
  let down := (List.range 32).any fun p => s.cbit s.crest.bank CVN_COUPLE_WATCH p && !s.linkUp p
  if ¬ down then (if s.cvn.yielding then (s.withCvn { s.cvn with yielding := false }).coupleEval else s) else s

/-- The link of a watched lane port goes down (R248). -/
def watchedDown (s : State) (p : Nat) : State :=
  if ¬ s.cbit s.crest.bank CVN_COUPLE_WATCH p then s
  else if s.cvn.yielding then s
  else ((s.withCvn { s.cvn with yielding := true }).sendClaim).coupleEval

/-- A frame of the claim address and type (R245). -/
def isClaim (s : State) (f : Frame) : Bool :=
  frameDa f == s.cf f.bank CVN_CLAIM_DA_HI 0 16 * 2 ^ 32 + s.cf f.bank CVN_CLAIM_DA_LO 0 32 &&
    be16 f.bytes 12 == s.cf f.bank CVN_CLAIM_ETYPE 0 16

/-- The place for a heard claim: its sender's, a free one, else that of the oldest; true where a claim is lost (R246). -/
def heardSlot (l : List (Option Heard)) (mac : Nat) : Nat × Bool :=
  match l.findIdx? fun h => h.any fun h => h.mac == mac with
  | some i => (i, false)
  | none =>
    match l.findIdx? fun h => h.isNone with
    | some i => (i, false)
    | none =>
      let stamp := fun i => match l.getD i none with | some h => h.stamp | none => 0
      ((List.range 4).foldl (fun a i => if stamp i < stamp a then i else a) 0, true)

/-- A received claim frame (R245, R246): consumed or discarded as bad. -/
def claimReceived (s : State) (f : Frame) : State :=
  let mac := beAt f.bytes 22 6
  if byteAt f.bytes 14 ≠ 1 ∨ be16 f.bytes 16 ≠ s.rf CVN_COUPLE_CTL 2 16 ∨ mac = s.deviceMac then
    (s.bump CVN_CLAIMS_BAD).dropFrame f.id
  else
    let claim := if (byteAt f.bytes 15).toNat % 2 = 1 then 0 else beAt f.bytes 18 4
    let (i, lost) := heardSlot s.cvn.heard mac
    let s := (s.bump CVN_CLAIMS_RX).when lost fun s => s.bump CVN_CLAIM_TABLE_FULL
    let s := (s.withCvn { s.cvn with heard := s.cvn.heard.set i (some { mac, claim, stamp := f.raw.getD 0 0 }) }).coupleEval
    if s.rbit CVN_COUPLE_CTL 31 then s.admitCopies { f with lastIn := true } [s.cpuTarget f 9] else s.dropFrame f.id

/-- A heard claim is forgotten 35 ms after its last frame (R246). -/
def claimForget (s : State) (i : Nat) : State :=
  match s.cvn.heard.getD i none with
  | none => s
  | some h =>
    let s := s.elapseToRaw (h.stamp + silence)
    (s.withCvn { s.cvn with heard := s.cvn.heard.set i none }).coupleEval

/-- The own claim lapses 35 ms after the last claim frame sent (R246). -/
def ownClaimLapse (s : State) : State :=
  match s.cvn.ownAt with
  | none => s
  | some t => ((s.elapseToRaw (t + silence)).withCvn { (s.elapseToRaw (t + silence)).cvn with ownAt := none }).coupleEval

/-- The silence of claim mode ends (R247). -/
def silenceEnd (s : State) : State :=
  match s.cvn.silentAt with
  | none => s
  | some t => ((s.elapseToRaw (t + silence)).withCvn { (s.elapseToRaw (t + silence)).cvn with silentAt := none }).coupleEval

/-- DUAL_US has passed (R247). -/
def dualExpire (s : State) : State :=
  match s.cvn.dualAt with
  | none => s
  | some t =>
    let s := s.elapseToRaw (t + s.rf CVN_COUPLE_CTL 18 13 * 1000 * nsUnit)
    (s.withCvn { s.cvn with dualAt := none }).coupleEval

/-! ### Power (R250) -/

/-- The CARAVAN domain goes off: entries return to VALID = 0, every pin is released, and hold entries, hold state and the sweep are
lost (R250, R322). -/
def caravanOff (s : State) : State :=
  let s := s.each (s.frames.filterMap (·.pinned)) fun s i => s.unpin i
  let s := s.withCvn { s.cvn with ahead := [], sweep := none, half := 0, halfAt := 0, probed := [] }
  { s with tabs := s.tabs.filter fun x =>
      !([tblLedger * 8 + 4, tblHold * 8 + 4, tblHoldState * 8 + 4].contains (x.1 / 2 ^ 24)) }

end State

/-! ### The commands -/

/-- CARAVAN_OFFER, R226 -/
def execCaravanOffer (id : Nat) (parity : Option Bool) (s : State) : Result := finish (s.caravanOffer id parity)

/-- LEDGER_TICK, R230 -/
def execLedgerTick (bad : List Nat) (s : State) : Result := finish (s.ledgerTick bad)

/-- SWEEP_END, R231 -/
def execSweepEnd (wait : Nat) (s : State) : Result := finish (s.sweepEnd wait)

/-- HOLD_CHECK, R237 -/
def execHoldCheck (i : Nat) (s : State) : Result := finish (if i < 8192 then s.holdCheck i else s)

/-- PATH_PROBE_SEND, R241 -/
def execPathProbeSend (i : Nat) (s : State) : Result := finish (if i < 8192 then s.probe i else s)

/-- CLAIM_FRAME_SEND, R245 -/
def execClaimFrameSend (s : State) : Result := finish (if s.servicesRun then s.sendClaim else s)

/-- CLAIM_FORGET, R246 -/
def execClaimForget (i : Nat) (s : State) : Result := finish (s.claimForget i)

/-- OWN_CLAIM_LAPSE, R246 -/
def execOwnClaimLapse (s : State) : Result := finish s.ownClaimLapse

/-- CLAIM_SILENCE_END, R247 -/
def execClaimSilenceEnd (s : State) : Result := finish s.silenceEnd

/-- COUPLE_DUAL_EXPIRE, R247 -/
def execCoupleDualExpire (s : State) : Result := finish s.dualExpire

end Sys2Proof.Machine
end

