-- ==== Sys2Proof/Machine/Sha.lean ====
section
/-! DEFINITION. SHA-256 and HMAC-SHA-256, which R370, R371 and R377 name, over words held as numbers below `2 ^ 32`.
The constants are computed from what they are, fractional parts of roots of primes, and a block is compressed by one
pass in which the message schedule and the working words move on together. -/

namespace Sys2Proof.Machine

/-- The largest number of at most `b` further bits that, put on `r`, has a `k`th power of at most `n`. -/
def rootFrom (k n : Nat) : Nat → Nat → Nat
  | 0, r => r
  | b + 1, r => rootFrom k n b (if (r + 2 ^ b) ^ k ≤ n then r + 2 ^ b else r)

/-- The first 32 bits behind the binary point of the `k`th root of `p`. -/
def rootFraction (k p : Nat) : Nat := rootFrom k (p * 2 ^ (32 * k)) 37 0 % 2 ^ 32

/-- The first 64 primes: below `18 * 18` no number is prime that a smaller one from 2 to 17 divides. -/
def shaPrimes : List Nat :=
  (List.range 312).filter fun p => 1 < p && (List.range 18).all fun d => d < 2 || p ≤ d || p % d != 0

/-- The exclusive or of `x` turned right by each amount of `t` and of `x` shifted right by `z` (32 where only turned words
are meant). -/
def mixed (t : List Nat) (z x : Nat) : Nat :=
  t.foldl (fun a n => a ^^^ (x >>> n ||| x <<< (32 - n)) % 2 ^ 32) (x >>> z)

/-- A compression under way: the next 16 words of the schedule, earliest first, and the working words, first to last. -/
structure ShaRun where
  ahead : List Nat
  work : List Nat
  deriving DecidableEq, Repr

/-- One round under a constant `k`: the earliest word of the schedule is used up and one is formed at its far end, the
working words move one place and the first and the fifth take new values. -/
def ShaRun.round (r : ShaRun) (k : Nat) : ShaRun :=
  match r.ahead, r.work with
  | w :: later, [a, b, c, d, e, f, g, h] =>
    let fresh := w + mixed [7, 18] 3 (later.getD 0 0) + later.getD 8 0 + mixed [17, 19] 10 (later.getD 13 0)
    let chosen := (e &&& f) + (max32 - e &&& g)
    let most := (a &&& (b ||| c)) ||| (b &&& c)
    let step := h + k + w + chosen + mixed [6, 11, 25] 32 e
    { ahead := later ++ [fresh % 2 ^ 32]
      work := [(step + most + mixed [2, 13, 22] 32 a) % 2 ^ 32, a, b, c, (d + step) % 2 ^ 32, e, f, g] }
  | _, _ => r

/-- The hash so far with the first `n` blocks of `m` taken in, under the round constants `ks`. -/
def absorb (ks : List Nat) : Nat → List Nat → Bytes → List Nat
  | 0, hash, _ => hash
  | n + 1, hash, m =>
    let run : ShaRun := { ahead := (List.range 16).map fun i => beAt m (4 * i) 4, work := hash }
    absorb ks n (List.zipWith (fun x y => (x + y) % 2 ^ 32) hash (ks.foldl ShaRun.round run).work) (m.drop 64)

/-- A message closed by a 1 bit, zeros up to 8 bytes short of a block, and its length in bits. -/
def shaClosed (m : Bytes) : Bytes :=
  m ++ 0x80 :: List.replicate (63 - (m.length + 8) % 64) 0 ++ beBytes 8 (8 * m.length)

/-- SHA-256 of a message: the hash starts at the square roots of the first 8 primes, and the rounds take the cube roots
of the first 64. -/
def sha256 (m : Bytes) : Bytes :=
  (absorb (shaPrimes.map (rootFraction 3)) ((m.length + 8) / 64 + 1) ((shaPrimes.take 8).map (rootFraction 2))
    (shaClosed m)).flatMap (beBytes 4)

/-- HMAC-SHA-256 under a key of at most 64 bytes. -/
def hmacSha256 (key m : Bytes) : Bytes :=
  let inner := (List.range 64).map fun i => byteAt key i ^^^ 0x36
  let outer := (List.range 64).map fun i => byteAt key i ^^^ 0x5C
  sha256 (outer ++ sha256 (inner ++ m))

end Sys2Proof.Machine
end

