-- ==== Sys2Proof/Machine/Nvm.lean ====
section
/-! DEFINITION. The NVM: header copies, slot entries and image checks (R368 to R372). -/

namespace Sys2Proof.Machine

/-- Offset of a register of the NVM block (R391). -/
abbrev NVM (o : Nat) : Nat := 0x60000 + o

/-- Slot kinds and states (R370). -/
abbrev kindFw : Nat := 1
abbrev kindCrest : Nat := 2
abbrev slotEmpty : Nat := 0
abbrev slotBuilding : Nat := 1
abbrev slotStaged : Nat := 2
abbrev slotActive : Nat := 3
abbrev slotPending : Nat := 4
abbrev slotPrevious : Nat := 5
abbrev slotBad : Nat := 6

namespace State

/-- `n` bytes of the NVM. -/
def nvmBytes (s : State) (a n : Nat) : Bytes := s.nvm.readAll a n

/-- A little-endian field of the NVM. -/
def nvmLe (s : State) (a n : Nat) : Nat := ofLe (s.nvmBytes a n)

/-- Bytes written to the NVM. -/
def nvmWrite (s : State) (a : Nat) (b : Bytes) : State := { s with nvm := s.nvm.writeAll a b }

/-! ### Headers (R369) -/

end State

/-- Address of header copy A or B. -/
def headerAddr (copyB : Bool) : Nat := if copyB then 0x1000 else 0

namespace State

/-- A header copy is valid: magic, format, CRC, and the class in force (R368, R369). -/
def headerGood (s : State) (copyB : Bool) (cls : Nat) : Bool :=
  let a := headerAddr copyB
  s.nvmBytes a 4 == [0x56, 0x47, 0x4E, 0x48] && s.nvmLe (a + 4) 2 == 1 &&
    s.nvmLe (a + 508) 4 == crc32c (s.nvmBytes a 508) && s.nvmLe (a + 12) 1 == cls

/-- The copy to use: the valid one, of two the one with the higher GENERATION (R369). -/
def chooseHeader (s : State) (cls : Nat) : Option Bool :=
  match s.headerGood false cls, s.headerGood true cls with
  | true, true => some (Nat.blt (s.nvmLe (headerAddr false + 8) 4) (s.nvmLe (headerAddr true + 8) 4))
  | true, false => some false
  | false, true => some true
  | false, false => none

/-- Address of the header in use. -/
def header (s : State) : Nat := headerAddr (s.rbit (NVM 0) 2)

/-- A little-endian field of the header in use; 0 where none is valid. -/
def headerField (s : State) (o n : Nat) : Nat := if s.boot.header then s.nvmLe (s.header + o) n else 0

/-- The header rewritten: the other copy takes the present bytes with some replaced, GENERATION + 1 and its CRC, and is the
one in use from then on (R369). -/
def rewriteHeader (s : State) (new : List (Nat × Bytes)) : State :=
  if ¬ s.boot.header then s else
  let copyB := !s.rbit (NVM 0) 2
  let a := headerAddr copyB
  let gen := leBytes 4 (s.headerField 8 4 + 1)
  let s := s.nvmWrite a (s.nvmBytes s.header 508)
  let s := (s.nvmWrite (a + 8) gen).each new fun s x => s.nvmWrite (a + x.1) x.2
  (s.nvmWrite (a + 508) (leBytes 4 (crc32c (s.nvmBytes a 508)))).putBit (NVM 0) 2 copyB

/-- MGMT_KEY (R369, R378). -/
def mgmtKey (s : State) : Bytes := s.nvmBytes (s.header + 32) 32

/-- Port `p` carries update frames in RECOVERY entered from LOAD (R369, R379). -/
def recoveryPort (s : State) (p : Nat) : Bool := Nat.blt p 64 && bit (s.headerField 16 8) p

/-! ### Slots (R370) -/

/-- A field of slot entry `j`. -/
def slotField (s : State) (j o n : Nat) : Nat := s.headerField (64 + 32 * j + o) n

/-- Address and size of a slot's area. -/
def slotBase (s : State) (j : Nat) : Nat := s.slotField j 4 4
@[inherit_doc slotBase]
def slotSize (s : State) (j : Nat) : Nat := s.slotField j 8 4

/-- A slot's area lies within the part and meets no header and no other slot. -/
def slotGood (s : State) (j : Nat) : Bool :=
  let lo := s.slotBase j
  let hi := lo + s.slotSize j
  Nat.ble 0x2000 lo && Nat.ble hi (2 ^ s.rf (NVM 0) 8 8) &&
    (List.range 8).all fun i => i == j || s.slotField i 0 1 == 0 || Nat.ble hi (s.slotBase i) || Nat.ble (s.slotBase i + s.slotSize i) lo

/-- STATE of a slot entry; EMPTY where its area cannot be used. -/
def slotState (s : State) (j : Nat) : Nat := if s.slotGood j then s.slotField j 1 1 else slotEmpty

/-- Slot entries of a kind. -/
def slotsOf (s : State) (kind : Nat) : List Nat := (List.range 8).filter fun j => s.slotField j 0 1 == kind

/-- The slot entry of a kind in a state. -/
def slotIn (s : State) (kind st : Nat) : Option Nat := (s.slotsOf kind).find? fun j => s.slotState j == st

/-- The slot entry of a kind and a number. -/
def slotNumbered (s : State) (kind i : Nat) : Option Nat := (s.slotsOf kind).find? fun j => s.slotField j 2 1 == i

/-- STATE of slot entries as the header holds it. -/
def stateAt (j st : Nat) : Nat × Bytes := (64 + 32 * j + 1, [BitVec.ofNat 8 st])

/-- STATE of slot entries rewritten. -/
def setSlots (s : State) (l : List (Nat × Nat)) : State := s.rewriteHeader (l.map fun x => stateAt x.1 x.2)

/-- The part holds two slots of each kind (R367, R368). -/
def twoSlot (s : State) : Bool := s.rbit (NVM 0) 0

/-- Content of a slot. -/
def slotBytes (s : State) (j : Nat) : Bytes := s.nvmBytes (s.slotBase j) (s.slotField j 12 4)

/-! ### Images (R371, R372) -/

end State

/-- The check of a firmware image against MIN_SVN (R371). -/
def firmwareGood (b : Bytes) (minSvn : Nat) : Bool :=
  let le := fun (o n : Nat) => ofLe ((b.drop o).take n)
  b.take 4 == [0x56, 0x47, 0x4E, 0x46] && Nat.ble 256 (le 4 4) && Nat.ble (le 4 4) 786432 && Nat.ble (le 4 4) b.length &&
    Nat.ble (le 4 4 + le 20 4) 983040 && Nat.ble minSvn (le 12 4) &&
    sha256 ((b.drop 32).take 64) == Config.keyHash &&
    Config.ecdsaVerifies ((b.drop 32).take 64) ((b.drop 96).take 64)
      (sha256 (b.take 96 ++ List.replicate 64 0 ++ (b.take (le 4 4)).drop 160))

/-- The header of a crest image (R372). -/
def crestHeaderGood (b : Bytes) : Bool :=
  b.take 4 == [0x56, 0x47, 0x4E, 0x43] && Nat.ble 64 (ofLe ((b.drop 4).take 4)) && Nat.ble (ofLe ((b.drop 4).take 4)) b.length &&
    ofLe ((b.drop 60).take 4) == crc32c (b.take 60)

/-- A section of a crest image (R372). -/
structure Section where
  kind : Nat
  erg : Nat
  table : Nat
  first : Nat
  body : Bytes
  /-- the CRC of the body is right and the body lies within the image -/
  good : Bool
  deriving DecidableEq, Repr

/-- The section at an offset of a crest image. -/
def sectionAt (b : Bytes) (o : Nat) : Section :=
  let le := fun (k n : Nat) => ofLe ((b.drop (o + k)).take n)
  let body := (b.drop (o + 16)).take (le 8 4)
  { kind := le 0 1, erg := le 1 1, table := le 2 2, first := le 4 4, body
    good := Nat.ble (le 8 4) 65536 && body.length == le 8 4 && Nat.ble (o + 16) b.length && le 12 4 == crc32c body }

/-- The sections of a crest image, `n` of them from an offset. -/
def sectionsFrom (b : Bytes) : Nat → Nat → List Section
  | 0, _ => []
  | n + 1, o => sectionAt b o :: sectionsFrom b n (o + 16 + (sectionAt b o).body.length)

namespace State

/-- Several free values as bytes: bytes that the manual does not give (log entry 32). -/
def drawBytes (s : State) : Nat → State × Bytes
  | 0 => (s, [])
  | n + 1 =>
    match s.draw with
    | (w, s) => match s.drawBytes n with | (s, b) => (s, BitVec.ofNat 8 w.toNat :: b)

end State

end Sys2Proof.Machine
end

