-- ==== Sys2Proof/Machine/Egress.lean ====
section
/-! DEFINITION. Transmission: what a MAC begins and ends (R119, R120, R290 to R300), preemption at the egress (R128,
R130, R298), the bound check (R304), gates as they change (R294, R300), and pre-wake votes (R301, R302). -/

namespace Sys2Proof.Machine

namespace State

/-! ### A transmission on the wire -/

/-- Transmission of a port replaced. -/
def setTx (s : State) (p : Nat) (t : Option Tx) : State := s.setMac p { s.mac p with tx := t }

/-- The copy that a transmission sends. -/
def txCopy (s : State) (t : Tx) : Option Copy := s.oas.copies.find? fun c => c.id == t.copy

/-- Class by which a transmission gates. -/
def txClass (s : State) (t : Tx) : Nat := match s.txCopy t with | some c => s.queueClass c.queue | none => 0

/-- Cycles in which a port sends `n` bytes. -/
def txCycles (s : State) (p n : Nat) : Nat := ceilDiv (n * 2000) (max 1 (s.rate p))

/-- Bytes of a transmission that have crossed the balls, 8 bytes of preamble going before them. -/
def txSent (s : State) (p : Nat) (t : Tx) : Nat := min t.bytes.length (t.sent + ((s.time.clk - t.since) * s.rate p / 2000 - 8))

/-- Time in units of 2^-40 ns from the first bit of the preamble to the first of the destination address (R48, R405). -/
def preamble (s : State) (p : Nat) : Int := ((64000 * 2 ^ 40 / max 1 (s.rate p) : Nat) : Int)

/-- Time passes until `n` bytes of a transmission have crossed the balls. -/
def elapseSent (s : State) (p : Nat) (t : Tx) (n : Nat) : State :=
  s.elapse (t.since + s.txCycles p (n - t.sent + 8) - s.time.clk)

/-- A transmission is preempted with `n` bytes of its frame sent (R130); the frame counts once. -/
def preemptAt (s : State) (p : Nat) (t : Tx) (n : Nat) : State :=
  let s := s.setMac p { s.mac p with tx := none, held := some { t with sent := n, cuts := n :: t.cuts } }
  s.when (t.frags == 0) fun s => s.stat p stTxPreempted 1

/-- A preemptable transmission gives way at the next legal point: a fragment of the least size, 64 bytes still to come
(R130, Clause 99.4.4); its mCRC and a gap follow. None where no such point is left. -/
def giveWay (s : State) (p : Nat) (t : Tx) : Option State :=
  let s := s.elapseSent p t (t.sent + s.minFragment p)
  let n := s.txSent p t
  if t.pre ∧ n + 64 ≤ t.bytes.length then some ((s.preemptAt p t n).elapse (s.txCycles p 16)) else none

/-- The held continuation goes on when its gate is open (R298). -/
def resumeTx (s : State) (p : Nat) : State :=
  match (s.mac p).held with
  | none => s
  | some t =>
    if ¬ s.gateOpen p (s.txClass t) then s
    else (s.setMac p { s.mac p with held := none, tx := some { t with frags := t.frags + 1, since := s.time.clk } }).stat p stTxFrags 1

/-! ### Pre-wake and gates that close (R298, R300 to R302) -/

/-- LEAD_NS of a port. -/
def lead (s : State) (p : Nat) : Nat := s.cf s.crest.bank (SCH_PORT_PREWAKE p) 0 18

/-- A class is in CLASSES of a port. -/
def prewakes (s : State) (p k : Nat) : Bool := s.gated p && s.lead p != 0 && s.cbit s.crest.bank (SCH_PORT_PREWAKE p) (18 + k)

/-- Domains for which a port votes (R301). -/
def prewakeDomains (s : State) (p : Nat) : List Nat :=
  let x := s.cfg s.crest.bank (SCH_PORT_PREWAKE p)
  (if bit x 30 then [domOfPort p] else []) ++ ((List.range 4).filter fun e => bit x (26 + e)).map domErg ++
    (if bit x 31 then [domCaravan] else [])

/-- Nanoseconds until a class next goes from closed to open; none where it never does. -/
def untilOpen (s : State) (p k : Nat) : Option Nat :=
  let l := s.gateSpans p
  let opens := (l.zip (l.getLast?.toList ++ l)).filterMap fun x => if bit x.1.gates k && !bit x.2.gates k then some x.1 else none
  nextSpan opens (s.gateCycle p) (s.gateNow p) fun _ => true

/-- A frame is on the wire while its gate is closed earlier than foreseen (R300). -/
def gateOverrun (s : State) (p : Nat) (t : Tx) : State :=
  ((((s.setTx p (some { t with overran := true })).bump SCH_GATE_OVERRUN).bump (SCH_PORT_GATE_OVERRUN p)).setBit
    SCH_IRQ_STATUS 2).raise 50 p

/-- The transmission of a port whose gate is closed: preempted at the last legal point whose mCRC and gap end by now (R298),
else, as where the gate closes earlier than foreseen, it completes and the overrun counts (R300). -/
def gateClosed (s : State) (p : Nat) : State :=
  match (s.mac p).tx with
  | none => s
  | some t =>
    if s.gateOpen p (s.txClass t) ∨ t.bytes.length ≤ s.txSent p t ∨ t.overran then s
    else
      let n := min (s.txSent p t - 16) (t.bytes.length - 64)
      if t.pre ∧ ¬ t.early ∧ t.sent + s.minFragment p ≤ n then s.preemptAt p t n else s.gateOverrun p t

/-- Nanoseconds until the gate of a class closes: 0 where it is closed, none where it stays open. -/
def openFor (s : State) (p k : Nat) : Option Nat := if s.gateOpen p k then s.untilClose p k else some 0

/-- The frame that port `p` sends saw its gate close later in `was` than it closes now (R300). -/
def gateEarly (s was : State) (p : Nat) : State :=
  match (s.mac p).tx with
  | none => s
  | some t =>
    match s.openFor p (s.txClass t), was.openFor p (was.txClass t) with
    | some d, some d' => if d < d' then s.setTx p (some { t with early := true }) else s
    | some _, none => s.setTx p (some { t with early := true })
    | none, _ => s

/-- Votes of classes whose gate has closed, or is no longer gated, end, but for those already cast for the next opening (R301). -/
def dropVotes (s : State) (p old new : Nat) : State :=
  { s with sched := { s.sched with voting := s.sched.voting.filter fun v =>
      !(v / 8 == p && (!s.gated p || (bit old (v % 8) && !bit new (v % 8) &&
        match s.untilOpen p (v % 8) with | some d => Nat.blt (s.lead p) d | none => true))) } }

/-- A gate of CLASSES has opened while a voted domain is not awake (R302). -/
def prewakeLate (s : State) (p old new : Nat) : State :=
  let opened := (List.range 8).any fun k => s.prewakes p k && bit new k && !bit old k
  match (s.prewakeDomains p).find? fun d => !s.awake d with
  | some d => if opened then ((s.bump SCH_PREWAKE_LATE).setBit SCH_IRQ_STATUS 1).raise 49 p d else s
  | none => s

/-- The gates of a port are `new` after they were `old`: what they end, the votes they end, and wakes that come late (R300 to
R302). -/
def gatesChanged (s : State) (p old new : Nat) : State := ((s.gateClosed p).dropVotes p old new).prewakeLate p old new

/-- Every gated port after a commit, a SET or a STEP that followed state `was` (R300 to R302). -/
def gatesMoved (s was : State) : State :=
  s.each (List.range 64) fun s p =>
    if s.gated p || was.gated p then (s.gateEarly was p).gatesChanged p (was.gateStatus p).1 (s.gateStatus p).1 else s

/-! ### The start of a transmission -/

/-- A send is charged to the tags and shapers on its path, the copy being the head of queue `q` (R292, R293); answers
the charged length and the state in which the copy is no longer a head. -/
def chargeSend (s : State) (p : Nat) (c : Copy) : State :=
  let q := c.queue
  let n := if q < 552 then 1024 + p else s.parent s.crest.bank q
  let len := s.charge c
  let bl := s.backlogged p n (s.shapeCfg q).level
  let root := s.backlogged p (1024 + p) (s.shapeCfg (nodeKey n)).level
  let s := s.setCopy { c with started := true }
  let s := s.sendTags n q len bl ((s.headCopy q).map s.charge)
  let s := if q < 552 then s else s.sendTags (1024 + p) (nodeKey n) len root none
  let s := s.chargeChild q len
  let s := if q < 552 then s else s.chargeChild (nodeKey n) len
  s.chargeChild (portKey p) len

/-- What the edits count (R51, R275, R280). An event message without a time base for its domain is counted as each of its copies
leaves: the manual does not say whether R51 counts messages or copies (DESIGN CHOICE, log entry 120). -/
def countEdits (s : State) (c : Copy) (f : Frame) : State :=
  if c.own.isSome ∨ f.bypass then s else
  let e := s.editCopy c f f.raw
  let s := s.bumpBy OAS_EDIT_SKIPPED e.skipped
  let s := s.when e.marked fun s => ((s.queueStat c.queue 3).bump OAS_ECN_MARKED).event 4 9 1 (s.copyAttr c)
  match Ed.ptp e with
  | some a => if (s.ptpBase c.bank (byteAt e.b (a + 4)).toNat).isNone then (s.bump TMB_PTP_UNMAPPED).setBit TMB_IRQ_STATUS 11 else s
  | none => s

/-- Where a copy of `n` bytes that cuts through is cut (R434): the length, and whether MAX_SDU is the limit. -/
def cutAt (s : State) (c : Copy) (f : Frame) (n : Nat) : Option (Nat × Bool) :=
  let m := s.maxFrame f.bank f.port
  let sdu := s.queueSdu c.queue
  let out := s.maxFrame c.bank c.port
  let a := if m < f.bytes.length then [(m + n - f.bytes.length, false)] else []
  let b := if sdu ≠ 0 ∧ sdu < n then [(sdu, true)] else []
  let d := if out < n then [(out, false)] else []
  (a ++ b ++ d).foldl (fun r x => match r with | none => some x | some y => if x.1 < y.1 then some x else some y) none

/-- The transmission of a copy whose body, without FCS, is `body` (R119, R274, R434). -/
def newTx (s : State) (c : Copy) (f : Frame) (body : Bytes) (cnt raw : List Nat) : Tx :=
  let pre := s.preemptable s.crest.bank c.port (s.queueClass c.queue)
  match if c.cut then s.cutAt c f (body.length + 4) else none with
  | some (x, sdu) => {
      copy := c.id, bytes := withStompedFcs (body.take (x - 4)), stomp := true, sduCut := sdu, pre, cnt, raw, since := s.time.clk }
  | none => { copy := c.id, bytes := withFcs body, pre, cnt, raw, since := s.time.clk }

/-- The bound check of a reserved copy of KIND 0 at its egress stamp (R304). -/
def boundSent (s : State) (c : Copy) (f : Frame) (raw : Nat) : State :=
  match f.rsv with
  | none => s
  | some r =>
    if ¬ c.rsv ∨ c.kind ≠ 0 ∨ ¬ s.cbit s.crest.bank SCH_CFG 0 then s else
    let lat := latency raw (f.raw.getD 0 0)
    let x := s.tab tblBoundStat 4 r
    let s := if bits x 32 27 < lat then s.setTab tblBoundStat 4 r (setBits x 32 27 lat) else s
    let bound := bits (s.tabB c.bank tblBound r) 0 27
    if bound ≠ 0 ∧ bound < lat ∧ ¬ c.reported then s.violation r c.port 0 lat else s

/-- The transmit timestamp that a copy asked for (R56). -/
def stampSent (s : State) (c : Copy) (cnt : List Nat) : State :=
  match c.ts with
  | none => s
  | some (id, tb) =>
    let x := cnt.getD tb 0
    s.txtsWrite c.port { id, tb, ns32 := ns32 x, frac := frac8 x, dropped := false }

/-- Egress mirror copies of a frame as it leaves (R215); a mirror copy is not mirrored again (log entry 28). -/
def egressMirrors (s : State) (c : Copy) (f : Frame) (body : Bytes) : State :=
  if c.own.isSome then s else
  let is := (s.sourceSessions c.bank 110 c.port).filter fun i => !bit f.mirrored i
  if is.isEmpty then s else
  let (s, ts) := s.mirrorTargets c.bank 0 2 is body
  let (s, ts) := s.coupleFilter f ts
  s.admitWith { f with mirrored := is.foldl (fun m i => m ||| 2 ^ i) f.mirrored } ts f.rsv f.charged

/-- Stages D6 and D7 of a record: the preamble leaves 64 bit times before the destination address (R405). -/
def traceSent (s : State) (c : Copy) (f : Frame) (raw : Nat) : State :=
  if ¬ s.follows f c then s else
  let d7 := totalNs raw
  (s.traceAt f.root 5 (d7 + 2 ^ 32 - 64000 / max 1 (s.rate c.port))).traceAt f.root 6 d7

/-- What the corrected egress stamp of a transmission gives rise to: the timestamp entry, the bound check, the record. -/
def stampEffects (s : State) (t : Tx) (c : Copy) (f : Frame) : State :=
  ((s.stampSent c t.cnt).boundSent c f (t.raw.getD 0 0)).traceSent c f (t.raw.getD 0 0)

/-- A field port, whose attempts may collide: its stamp stands when the frame has left (log entry 31). -/
def isField (p : Nat) : Bool := Nat.ble 32 p && Nat.blt p 64

/-- A transmission goes onto the wire; a preemptable frame takes the next frame count (R130). -/
def sendTx (s : State) (p : Nat) (t : Tx) : State :=
  if t.pre then s.setMac p { s.mac p with tx := some { t with smd := (s.mac p).smd }, smd := ((s.mac p).smd + 1) % 4 }
  else s.setTx p (some t)

/-- A copy's transmission begins: the first bit of its preamble crosses the transmit balls now, the instant of R294, and
its destination address 8 bytes later, where the egress stamp is taken (log entry 29). Substitutes
and probes leave under the active bank (R80). A further attempt after a collision is charged and counted no more. -/
def beginTx (s : State) (c : Copy) (f : Frame) (dev : Int) : State :=
  let p := c.port
  let c := if c.kind = 3 ∨ c.kind = 4 then { c with bank := s.crest.bank } else c
  let (cnt, raw) := s.stamps (s.stampShift (TMB_PORT_TX_DLY p) p dev + s.preamble p)
  let body := s.outBody c f raw
  let t := s.newTx c f body cnt raw
  if c.coll ≠ 0 then (s.setCopy { c with started := true }).setTx p (some t) else
  let s := s.countEdits c f
  let a := s.copyAttr c
  let s := ((s.event 4 6 1 a).event 4 7 (body.length + 4) a).event 4 10 (b2n c.rsv) a
  let s := (s.chargeSend p c).sendTx p t
  let s := if isField p then s else s.stampEffects t c f
  let s := s.egressMirrors c f body
  if c.claim then s.claimSent else s

/-- Uncorrectable data in the cell at a place in a frame's chain: the frame is bad and will not be pinned, and its copies that have
not begun are discarded, but for `keep`, which cuts through and will end stomped (R274, R277, R283). -/
def eccData (s : State) (f : Frame) (place : Nat) (keep : Option Nat) : State :=
  let cells := match f.cell.bind s.chain with | some c => c.cells | none => []
  let s := (s.setFrame { f with bad := true, pinFor := none }).eccUncorrected 46 (cells.getD place (f.cell.getD 0))
  let l := (s.copiesOf f.id).filter fun c => !c.started && some c.id != keep
  s.checkHeads l fun s => s.each l fun s c => s.discardCopy c

/-- A structure that is no longer trusted: its queue is discarded as at a link-down, and its chain's cells stay out of
the free store until a reset of the domain (R283). -/
def eccStructure (s : State) (f : Frame) (q word : Nat) : State :=
  let s := (s.eccUncorrected 47 word).setFrame { f with cell := none }
  s.each (s.queuedCopies fun c => c.queue == q) fun s c =>
    ((s.discardCopy c).bump OAS_LINK_DOWN_DROPS).bump (OAS_PORT_DROPS c.port)

/-- The head of a queue is read and sent (R283, R290). -/
def sendHead (s : State) (q : Nat) (dev : Int) (ecc : Ecc) : State :=
  match s.headCopy q with
  | none => s
  | some c =>
    match s.frame c.frame with
    | none => s
    | some f =>
      match ecc with
      | .good => s.beginTx c f dev
      | .corrected word => (s.eccCorrected word).beginTx c f dev
      | .structural word => (s.eccStructure f q word).checkHead q
      | .data place =>
        if c.cut ∧ ¬ f.lastIn then (s.eccData f place (some c.id)).beginTx c { f with bad := true, pinFor := none } dev
        else s.eccData f place none

/-- The port's transmitter may run (R30, R273, R276): the data plane forwards, or the port is one that the ROM enables. -/
def mayTransmit (s : State) (p : Nat) : Bool :=
  Nat.blt p 64 && (s.forwarding || (s.mode == .recovery && s.recoveryPort p)) && s.linkUp p && s.egressAwake p

/-- The queue the MAC of a port would send from now: any while it is idle, an express one past a preemptable frame on
the wire or held (R128, R298). -/
def nextQueue (s : State) (p : Nat) : Option Nat :=
  let m := s.mac p
  let qs := s.backlog p
  let qs := if m.tx.isSome || m.held.isSome then qs.filter fun q => !s.preemptable s.crest.bank p (s.queueClass q) else qs
  (s.portChoice p qs).map (·.queue)

/-- A MAC begins what its port root chooses (R290), lets an express frame past, or goes on with a continuation (R298). -/
def startOn (s : State) (p : Nat) (tx : TxStart) : State :=
  let s := s.elapse tx.wait
  if ¬ s.mayTransmit p then s else
  let s := s.noteWithheld p
  match (s.mac p).tx with
  | some t =>
    match s.nextQueue p, s.giveWay p t with
    | some _, some s' => match s'.nextQueue p with
      | some q => s'.sendHead q tx.dev tx.ecc
      | none => s'
    | _, _ => s
  | none =>
    match s.nextQueue p with
    | some q => s.sendHead q tx.dev tx.ecc
    | none => s.resumeTx p

/-! ### The end of a transmission -/

/-- Octets of a frame in a port's bandwidth window (R401). -/
def bwTx (s : State) (p n : Nat) : State :=
  s.setMon { s.mon with tx := s.mon.tx.set p (s.mon.tx.getD p 0 + n + (if s.rbit (MON 0x070) 20 then 20 else 0)) }

@[inherit_doc bwTx]
def bwRx (s : State) (p n : Nat) : State :=
  s.setMon { s.mon with rx := s.mon.rx.set p (s.mon.rx.getD p 0 + n + (if s.rbit (MON 0x070) 20 then 20 else 0)) }

/-- A frame of `n` bytes to address `da` has left whole with a good FCS (R140). -/
def countSent (s : State) (p n da : Nat) : State :=
  (((s.stat p stTxFramesOk 1).stat p (31 + castIndex da) 1).stat p (34 + sizeBin n) 1).rawCtr p 8

/-- A frame has left whole with a stomped FCS (R120). -/
def countStomped (s : State) (p : Nat) : State := (s.stat p stTxStomped 1).rawCtr p 9

/-- The collisions of the frame that has been sent (R132). -/
def countCollisions (s : State) (p : Nat) (c : Copy) : State :=
  if c.coll = 0 then s else if c.coll = 1 then s.stat p stTxSingleColl 1 else s.stat p stTxMultiColl 1

/-- The last byte of a transmission has crossed the balls. -/
def txDone (s : State) (p : Nat) (t : Tx) (c : Copy) (f : Frame) : State :=
  let bad := t.stomp || (c.cut && f.bad)
  let n := t.bytes.length
  let s := (s.stat p stTxOctets n).bwTx p n
  let s := if bad then s.countStomped p else s.countSent p n (beAt t.bytes 0 6)
  let s := s.when t.sduCut fun s => s.bump SCH_SDU_DROPS
  let s := s.countCollisions p c
  let s := if isField p then s.stampEffects t c f else s
  let s := (s.traceEnd f c (b2n bad)).setMac p { s.mac p with tx := none, busy := s.time.clk }
  ((s.releaseCopy c).checkHead c.queue).noteWithheld p

/-- FRAME_TRANSMIT_END: not before every byte of the copy has been sent, nor before the last byte of a frame that cuts
through has come. -/
def endOn (s : State) (p wait : Nat) : State :=
  let s := s.elapse wait
  match (s.mac p).tx with
  | none => s
  | some t =>
    match s.txCopy t with
    | none => s.setTx p none
    | some c =>
      match s.frame c.frame with
      | none => s.setTx p none
      | some f =>
        if c.cut ∧ ¬ f.lastIn ∧ ¬ t.stomp then s
        else (s.elapseSent p t t.bytes.length).txDone p t c f

/-! ### Transmissions cut short (R120) -/

/-- The entry of a copy whose destination address has not crossed the balls after all: dropped, with nanoseconds 0, and none
where SAFE cuts it short (R56). -/
def unstamp (s : State) (c : Copy) : State :=
  match c.ts, (s.txtsQueue c.port).getLast? with
  | some (id, tb), some e =>
    if e.id = id ∧ e.tb = tb ∧ ¬ e.dropped then
      s.setTxts c.port ((s.txtsQueue c.port).dropLast ++
        if s.mode = .safe then [] else [{ e with ns32 := 0, frac := 0, dropped := true }])
    else s
  | _, _ => s

/-- One transmission, in progress or held, is cut short with `n` bytes sent. -/
def cutShort (s : State) (p : Nat) (t : Tx) (n : Nat) : State :=
  let s := (((s.stat p stTxOctets n).bwTx p n).stat p stTxAborted 1).rawCtr p 10
  match s.txCopy t with
  | none => s
  | some c =>
    let s := match s.frame c.frame with | some f => s.traceEnd f c 2 | none => s
    let s := if isField p then (if 6 ≤ n then s.stampSent c t.cnt else s.droppedStamp c) else if 6 ≤ n then s else s.unstamp c
    s.releaseCopy c

/-- The entry of a field port's transmission whose destination address has crossed the balls (R56). -/
def fieldStamp (s : State) (p : Nat) : State :=
  match (s.mac p).tx with
  | some t => match s.txCopy t with
    | some c => if 6 ≤ s.txSent p t then s.stampSent c t.cnt else s
    | none => s
  | none => s

/-- The transmission of a port and its held continuation are cut short. -/
def abortTx (s : State) (p : Nat) : State :=
  let m := s.mac p
  let s := s.setMac p { m with tx := none, held := none, busy := s.time.clk, backoff := none }
  let s := match m.tx with | some t => s.cutShort p t (s.txSent p t) | none => s
  match m.held with | some t => s.cutShort p t t.sent | none => s

/-! ### Low-power idle (R127) -/

/-- The transmit side leaves low-power idle; TW_NS begins. -/
def lpiLeave (s : State) (p : Nat) : State :=
  if p < 32 ∧ s.rbit (MAC_EEE_STATUS p) 0 then
    let s := s.clrBit (MAC_EEE_STATUS p) 0
    s.setMac p { s.mac p with waking := true, busy := s.time.clk }
  else s

/-! ### Gate changes and pre-wake votes (R294, R301) -/

/-- GATE_ENTRY_CHANGE: the interval in force ends. -/
def gateChange (s : State) (p : Nat) : State :=
  if 64 ≤ p ∨ s.mode = .safe then s else
  match s.untilEntry p with
  | none => s
  | some d =>
    let tb := s.gateTb p
    let old := (s.gateStatus p).1
    let s := s.elapseTo tb ((totalNs (s.count tb) + d) * nsUnit)
    let new := (s.gateStatus p).1
    (s.gatesChanged p old new).noteWithheld p

/-- Classes of a port whose votes are still to be cast, with the nanoseconds until that is due. -/
def votesDue (s : State) (p : Nat) : List (Nat × Nat) :=
  (List.range 8).filterMap fun k =>
    if s.prewakes p k ∧ ¬ s.sched.voting.contains (p * 8 + k) then (s.untilOpen p k).map fun d => (k, d - s.lead p) else none

/-- PREWAKE_VOTE: the next votes of a port are cast when due, their domains wake, and low-power idle ends (R301). -/
def prewakeVote (s : State) (p : Nat) : State :=
  if 64 ≤ p ∨ s.mode = .safe then s else
  let l := s.votesDue p
  match (l.map (·.2)).min? with
  | none => s
  | some d =>
    let tb := s.gateTb p
    let s := s.elapseTo tb (s.count tb + d * nsUnit)
    let new := (l.filter fun x => x.2 == d).map fun x => p * 8 + x.1
    let s := { s with sched := { s.sched with voting := s.sched.voting ++ new } }
    let s := s.each (s.prewakeDomains p) fun s dom => s.wake dom
    if s.cbit s.crest.bank (SCH_PORT_PREWAKE p) 30 then s.lpiLeave p else s

/-! ### The age check (R304) -/

/-- A reserved head copy older than its bound at raw nanoseconds `ns` is reported once, with its age (cause 1). -/
def ageHead (s : State) (ns q : Nat) : State :=
  match s.headCopy q with
  | none => s
  | some c =>
    match s.frame c.frame with
    | none => s
    | some f =>
      match f.rsv with
      | none => s
      | some r =>
        let age := latency (ns * nsUnit) (f.raw.getD 0 0)
        let bound := bits (s.tabB c.bank tblBound r) 0 27
        if c.rsv ∧ c.kind = 0 ∧ ¬ c.reported ∧ bound ≠ 0 ∧ bound < age then
          (s.setCopy { c with reported := true }).violation r c.port 1 age
        else s

/-- BOUND_AGE_CHECK: at the next raw TB0 count that is a multiple of 10,000 ns. -/
def ageCheck (s : State) : State :=
  let t := (s.rawNs / 10000 + 1) * 10000
  let s := s.elapseToRaw (t * nsUnit)
  if s.mode = .safe ∨ ¬ s.cbit s.crest.bank SCH_CFG 0 then s else
  s.each ((s.oas.copies.filter fun c => c.linked && !c.started).map (·.queue)).eraseDups fun s q => s.ageHead t q

end State

/-! ### The commands -/

/-- FRAME_TRANSMIT_START, R290 -/
def execFrameTransmitStart (p : Nat) (tx : TxStart) (s : State) : Result :=
  finish (if (s.mac p).backoff.isSome then s.elapse tx.wait else s.startOn p tx)

/-- FRAME_TRANSMIT_END, R120 -/
def execFrameTransmitEnd (p wait : Nat) (s : State) : Result := finish (s.endOn p wait)

/-- GATE_ENTRY_CHANGE, R294 -/
def execGateEntryChange (p : Nat) (s : State) : Result := finish (s.gateChange p)

/-- PREWAKE_VOTE, R301 -/
def execPrewakeVote (p : Nat) (s : State) : Result := finish (s.prewakeVote p)

/-- BOUND_AGE_CHECK, R304 -/
def execBoundAgeCheck (s : State) : Result := finish s.ageCheck

end Sys2Proof.Machine
end

