-- ==== Sys2Proof/Machine/Lanes.lean ====
section
/-! DEFINITION. Serial lanes (R90 to R110): the lane states, link-up and link-down, forward error correction, equalisers,
low-power states and test patterns. A lane port is named by its port number; in 100GBASE-R mode by its lane 0. -/

namespace Sys2Proof.Machine

namespace State

/-! ### Lanes of a port -/

/-- Lanes that carry port `p`, in a quad mode (R90). -/
def lanesOf (s : State) (b : Bool) (p : Nat) : List Nat := if s.quad100 b p then (List.range 4).map (p / 4 * 4 + ·) else [p]

/-- A field of LNE_Ll_STATE of several lanes set. -/
def setLanes (s : State) (ls : List Nat) (lo w v : Nat) : State := s.each ls fun s l => s.setFld (LNE_L_STATE l) lo w v

/-- AN_EN of a port. -/
def anEn (s : State) (p : Nat) : Bool := s.laneCfg p 4 1 == 1

/-- The port is 1000BASE-X. -/
def is1000 (s : State) (p : Nat) : Bool := !s.quad100 s.crest.bank p && s.laneCfg p 0 2 == 2

/-- TRAIN runs Clause 72 training; 1000BASE-X always uses adaptive equalisation (R96). -/
def trains (s : State) (p : Nat) : Bool := s.laneCfg p 5 1 == 1 && !s.is1000 p

/-- The lanes run in this mode (R99): held in LOAD and SAFE, those the ROM enables in RECOVERY entered from LOAD. -/
def lanesRun (s : State) (p : Nat) : Bool :=
  match s.mode with
  | .load | .safe => false
  | .recovery => s.recFromHandover || s.recoveryPort p
  | _ => true

/-- A command names a lane port that exists and may move. -/
def laneMoves (s : State) (p : Nat) : Bool := Nat.blt p 32 && s.laneOf p == p && s.lanesRun p

/-! ### Preemption verify state (R129) -/

/-- The verify state set; every change sets the interrupt bit. -/
def setVerify (s : State) (p v : Nat) : State :=
  if s.rf (MAC_PREEMPT_STATUS p) 0 3 = v then s
  else (s.setFld (MAC_PREEMPT_STATUS p) 0 3 v).setBit (MAC_IRQ_STATUS p) 2

/-- Verification starts, or the port goes straight to SUCCEEDED. -/
def verifyStart (s : State) (p : Nat) : State :=
  if s.cbit s.crest.bank (MAC_PREEMPT_CFG p) 1 then s.setVerify p 3
  else if 2 ≤ s.rf (MAC_PREEMPT_STATUS p) 0 3 then s
  else (s.setVerify p 2).setMac p { s.mac p with verifies := 0 }

/-- The verify state as a commit or a link that has come up leaves it. -/
def verifyEval (s : State) (p : Nat) : State :=
  if ¬ s.cbit s.crest.bank (MAC_PREEMPT_CFG p) 0 then s.setVerify p 0
  else
    let s := if s.rf (MAC_PREEMPT_STATUS p) 0 3 = 0 then s.setVerify p 1 else s
    if s.laneState p = 4 then s.verifyStart p else s

/-- The link has gone down: back to INITIAL, from VERIFYING too, of which the table of R129 says nothing (DESIGN CHOICE, log entry
130). -/
def verifyDown (s : State) (p : Nat) : State :=
  if s.rf (MAC_PREEMPT_STATUS p) 0 3 = 0 then s else s.setVerify p 1

/-! ### Link up and link down (R97) -/

/-- A link-down event of a port whose lane enters state `st`: counted, flagged, raised; the transmission is cut short
(R120), the queues are discarded (R276), and the pair yields if the port is watched (R248). -/
def linkDown (s : State) (p st : Nat) : State :=
  let s := ((s.bump (LNE_L_LINK_DOWN p)).setBit (LNE_IRQ_STATUS (p / 4)) (4 + p % 4)).raise 30 p st
  let s := (s.setFld (MAC_EEE_STATUS p) 0 2 0).setMac p { s.mac p with waking := false, reasm := none }
  (((s.abortTx p).flushPort p).verifyDown p).watchedDown p

/-- The link of a port comes up. -/
def linkUpEvent (s : State) (p : Nat) : State :=
  ((s.setBit (LNE_IRQ_STATUS (p / 4)) (p % 4)).watchLinks).verifyEval p

/-- The lane state of a port's lanes, with the instant of its entry. -/
def enterState (s : State) (ls : List Nat) (p st : Nat) : State :=
  (s.setLanes ls 0 3 st).setMac p { s.mac p with laneAt := s.time.clk, skewBad := false }

/-- A port moves to a state on lanes `ls`; leaving ACTIVE or NAP is a link-down event, entering ACTIVE from a state
other than NAP brings the link up, and from NAP verification may start (R129). -/
def laneTo (s : State) (ls : List Nat) (p st : Nat) : State :=
  let old := s.laneState p
  let s := s.enterState ls p st
  if (old = 4 ∨ old = 5) ∧ st ≠ 4 ∧ st ≠ 5 then s.linkDown p st
  else if st = 4 ∧ old ≠ 4 ∧ old ≠ 5 then s.linkUpEvent p
  else if st = 4 ∧ old = 5 then s.verifyEval p
  else s

/-! ### Equalisers (R102, R103) -/

/-- Applied PRE, MAIN and POST: MAIN is held so that the three do not pass 63. -/
def txEff (pre main post : Nat) : Nat := pre % 16 + min (main % 64) (63 - pre % 16 - post % 32) * 16 + post % 32 * 1024

/-- The stored transmit equaliser applies. -/
def applyTxEq (s : State) (l : Nat) : State :=
  let x := s.cfg s.crest.bank (LNE_L_TX_EQ l)
  s.setReg (LNE_L_TX_EQ_EFF l) (txEff (bits x 0 4) (bits x 4 6) (bits x 10 5))

/-- Lanes whose transmitters hold trained coefficients. -/
def setTrained (s : State) (t : List Nat) : State := { s with lns := { s.lns with trained := t } }

/-- The stored transmit equalisers of lanes apply, in place of trained ones. -/
def storedTxEq (s : State) (ls : List Nat) : State :=
  (s.each ls fun s l => s.applyTxEq l).setTrained (s.lns.trained.filter fun l => !ls.contains l)

/-- The trained transmit equaliser of a lane applies (R101, R102). -/
def trainedTxEq (s : State) (l : Nat) (eq : Equaliser) : State :=
  (s.setReg (LNE_L_TX_EQ_EFF l) (txEff eq.pre eq.main eq.post)).setTrained (s.lns.trained.filter (· != l) ++ [l])

/-- The equaliser values of a lane in a list over the lanes of its port, lane 0 first; zeros beyond the list. -/
def eqOf (s : State) (eqs : List Equaliser) (l : Nat) : Equaliser := eqs.getD (l - s.laneOf l) ⟨0, 0, 0, 0, 0⟩

/-- The receiver of a lane as it has adapted: a fixed CTLE step where CTLE_ADAPT is 0, no taps where DFE_EN is 0, and the present
taps while frozen in TEST; in NAP the CTLE rests (R103, R109). -/
def applyRxEq (s : State) (l : Nat) (eq : Equaliser) : State :=
  let c := s.cfg s.crest.bank (LNE_L_RX_EQ l)
  let s := if s.laneState l = 5 then s else s.setFld (LNE_L_RX_EQ_STATE l) 0 4 (if bit c 4 then eq.ctle else bits c 0 4)
  if s.mode = .test ∧ s.rbit (LNE_L_TEST l) 8 then s
  else s.setFld (LNE_L_RX_EQ_STATE l) 4 25 (if bit c 5 then eq.dfe else 0)

/-! ### The sequence (R96) -/

/-- Lock bits of lanes cleared: CDR, block, marker, FEC, hi_ber. -/
def unlock (s : State) (ls : List Nat) : State := s.setLanes ls 4 5 0

/-- A port returns to DETECT: its locks go; a port whose link was up gives up its trained coefficients (R97, R101). -/
def toDetect (s : State) (ls : List Nat) (p : Nat) : State :=
  let s := if s.laneState p = 4 ∨ s.laneState p = 5 then s.storedTxEq ls else s
  (s.unlock ls).laneTo ls p 0

/-- Effective FEC of a port (R91): 0 none, 1 Clause 74, 2 Clause 108 or 91; `partner` where auto-negotiation ran. Of 10GBASE-R,
the device itself requests Clause 74 where FEC is 1 or 3, so that the partner's request adds nothing (DESIGN CHOICE, log entry
128). -/
def effectiveFec (s : State) (p : Nat) (partner : Option Partner) : Nat :=
  if s.quad100 s.crest.bank p then (if partner.isSome || s.cbit s.crest.bank (LNE_QUAD_CFG (p / 4)) 1 then 2 else 0)
  else match s.laneCfg p 0 2, s.laneCfg p 2 2, partner with
    | 0, 1, none => 1
    | 0, 2, none => 2
    | 0, _, none => 0
    | 0, 1, some a => b2n a.baseR
    | 0, 2, some a => if a.rs then 2 else 0
    | 0, 3, some _ => 2
    | 1, 1, none => 1
    | 1, 3, none => 1
    | 1, 1, some a => b2n a.baseR
    | 1, 3, some a => b2n a.baseR
    | _, _, _ => 0

/-- The one technology ability that a port advertises in EXCHANGE (R100); none for 1000BASE-X, which runs Clause 37. -/
def advertised (s : State) (p : Nat) : Option Tech :=
  let cable := s.laneCfg p 7 1 == 1
  if s.quad100 s.crest.bank p then some (if cable then .cr4 else .kr4)
  else match s.laneCfg p 0 2 with
    | 0 => some (if cable then .cr25 else .kr25)
    | 1 => some .kr10
    | _ => none

/-- The ability that the port advertises is the partner's too (R96, R100). -/
def common (s : State) (p : Nat) (a : Partner) : Bool :=
  match s.advertised p with
  | some t => a.techs.contains t
  | none => s.is1000 p

/-- The reference of a port's quad is good and its PLL locked (R94, R96). -/
def quadReady (s : State) (p : Nat) : Bool := s.rf (LNE_QUAD_STATUS (p / 4)) 0 2 == 3

/-- A lane in DETECT has received a signal for 1 ms, or its quad is ready for EXCHANGE, which needs no signal: a port with AN_EN
goes to EXCHANGE, another to TRAIN once every lane of it has a signal (R96, R98). -/
def signalDetect (s : State) (l : Nat) : State :=
  let p := s.laneOf l
  if ¬ s.laneMoves p ∨ ¬ s.laneOn p ∨ s.laneState p ≠ 0 ∨ ¬ s.quadReady p then s else
  let ls := s.lanesOf s.crest.bank p
  if s.anEn p then s.laneTo ls p 1
  else
    let s := s.setLanes [l] 3 1 1
    if ls.all fun l => s.rbit (LNE_L_STATE l) 3 then (s.setLanes ls 9 2 (s.effectiveFec p none)).laneTo ls p 2 else s

/-- Auto-negotiation has failed. -/
def anFail (s : State) (p : Nat) : State :=
  if ¬ s.laneMoves p ∨ s.laneState p ≠ 1 then s
  else ((s.setBit (LNE_L_STATE p) 11).satFld (LNE_L_FAIL_CNT p) 0 16 1).toDetect (s.lanesOf s.crest.bank p) p

/-- Auto-negotiation is complete on lane 0 of a port (R91, R98, R100, R125): it fails without a common ability. -/
def anComplete (s : State) (p : Nat) (a : Partner) : State :=
  if ¬ s.laneMoves p ∨ s.laneState p ≠ 1 then s
  else if ¬ s.common p a then s.anFail p
  else
    let ls := s.lanesOf s.crest.bank p
    let s := (s.setLanes [p] 3 1 1).setLanes ls 9 2 (s.effectiveFec p (some a))
    (s.setFld (MAC_FC_STATUS p) 2 2 a.pause).laneTo ls p 2

/-- TRAIN ends when the last lane is ready, with trained coefficients (R101, R102), or with the stored ones where equalisation
settled without training. -/
def trained (s : State) (p : Nat) (train : Bool) (eqs : List Equaliser) : State :=
  if ¬ s.laneMoves p ∨ s.laneState p ≠ 2 ∨ s.trains p ≠ train then s else
  let ls := s.lanesOf s.crest.bank p
  let s := s.each ls fun s l => (if train then s.trainedTxEq l (s.eqOf eqs l) else s.storedTxEq [l]).applyRxEq l (s.eqOf eqs l)
  (s.setLanes ls 3 1 1).laneTo ls p 3

/-- Equalisers have settled: TRAIN without training ends, and later the receivers track (R96, R103). -/
def eqSettle (s : State) (p : Nat) (eqs : List Equaliser) : State :=
  if s.laneMoves p ∧ 3 ≤ s.laneState p ∧ s.laneState p ≤ 5 then
    s.each (s.lanesOf s.crest.bank p) fun s l => s.applyRxEq l (s.eqOf eqs l)
  else s.trained p false eqs

/-- Time passes until `n` cycles after a port's entry to its lane state. -/
def elapseLane (s : State) (p n : Nat) : State := s.elapse ((s.mac p).laneAt + n - s.time.clk)

/-- The max_wait_timer has expired (R96). -/
def trainTimeout (s : State) (p : Nat) : State :=
  if ¬ s.laneMoves p ∨ s.laneState p ≠ 2 ∨ ¬ s.trains p then s
  else (((s.elapseLane p 125000000).setBit (LNE_L_STATE p) 12).satFld (LNE_L_FAIL_CNT p) 16 16 1).toDetect (s.lanesOf s.crest.bank p) p

/-- Skews of the lanes of a 100GBASE-R port (R104). -/
def setSkews (s : State) (p : Nat) (skews : List Nat) : State :=
  let s := s.each (List.range 4) fun s l => s.setFld (LNE_L_STATE (p + l)) 16 8 (min 255 (skews.getD l 0))
  s.setFld (LNE_QUAD_STATUS (p / 4)) 8 8 (min 255 (skews.foldl max 0))

/-- Lock is reached on every lane of a port, unless the skew of a 100GBASE-R port exceeds 180 ns: then it stays in LOCK (R104).
`rx` and `tx` are what word alignment adds to the delays of R48; a 100GBASE-R port reports them in lane 0 alone (DESIGN
CHOICE, log entry 127). -/
def lockAchieved (s : State) (p : Nat) (skews : List Nat) (rx tx : Nat) : State :=
  if ¬ s.laneMoves p ∨ s.laneState p ≠ 3 then s else
  let wide := s.quad100 s.crest.bank p
  let s := if wide then s.setSkews p skews else s
  if wide ∧ 180 < skews.foldl max 0 then s.setMac p { s.mac p with skewBad := true } else
  let ls := s.lanesOf s.crest.bank p
  let fec := s.rf (LNE_L_STATE p) 9 2
  let s := s.setLanes ls 3 6 (7 + b2n wide * 8 + b2n (fec != 0) * 16)
  let figures := stageDelay (s.portType s.crest.bank p)
  let fecs := fecDelay (s.portType s.crest.bank p) fec
  let deskew := if wide then s.rf (LNE_QUAD_STATUS (p / 4)) 8 8 * 256 else 0
  let dly := fun (tenths align : Nat) => min (2 ^ 20 - 1) (tenths * 256 / 10 + align)
  let s := s.setFld (LNE_L_TS_RX_DLY p) 0 20 (dly (figures.1 + fecs.1) (deskew + rx))
  (s.setFld (LNE_L_TS_TX_DLY p) 0 20 (dly (figures.2.2 + fecs.2) tx)).laneTo ls p 4

/-- LOCK has not been reached within LNE_LOCK_TIMEOUT: the port shows the skews last measured on it, where there are any
newer ones, and a skew found too large is reported (R104). -/
def lockTimeout (s : State) (p : Nat) (skews : List Nat) : State :=
  if ¬ s.laneMoves p ∨ s.laneState p ≠ 3 then s else
  let s := s.elapseLane p (s.rf (LNE_QUAD (p / 4) + 0x00C) 0 10 * 250000)
  let wide := s.quad100 s.crest.bank p && !skews.isEmpty
  let s := if wide then s.setSkews p skews else s
  let s := s.when ((s.mac p).skewBad || wide && Nat.blt 180 (skews.foldl max 0)) fun s => (s.setBit (LNE_QUAD_STATUS (p / 4)) 2).setBit (LNE_IRQ_STATUS (p / 4)) 13
  s.toDetect (s.lanesOf s.crest.bank p) p

/-- What a lane has lost shows in its lock bits. -/
def loseLock (s : State) (l : Nat) : LockKind → State
  | .cdr => s.setLanes [l] 4 1 0
  | .block => s.setLanes [l] 5 1 0
  | .marker => s.setLanes [l] 6 1 0
  | .fec => s.setLanes [l] 7 1 0
  | .hiBer => s.setLanes [l] 8 1 1

/-- A lane loses a lock in ACTIVE: its port goes to LOCK (R96, R98). -/
def laneLockLoss (s : State) (l : Nat) (what : LockKind) : State :=
  let p := s.laneOf l
  if ¬ s.laneMoves p ∨ s.laneState p ≠ 4 then s else (s.loseLock l what).laneTo (s.lanesOf s.crest.bank p) p 3

/-- The signal that a lane receives is lost in ACTIVE or in NAP: its port goes to DETECT (R96, R98, R110). -/
def laneSignalLoss (s : State) (l : Nat) : State :=
  let p := s.laneOf l
  if ¬ s.laneMoves p ∨ ¬ (s.laneState p = 4 ∨ s.laneState p = 5) then s
  else (s.setLanes [l] 3 1 0).toDetect (s.lanesOf s.crest.bank p) p

/-- LNE_QUAD_CTL.RESTART: the lanes named return to DETECT; any bit restarts a 100GBASE-R port. -/
def laneRestart (s : State) (q mask : Nat) : State :=
  if s.quad100 s.crest.bank (4 * q) then
    (if mask % 16 ≠ 0 ∧ s.lanesRun (4 * q) then s.toDetect (s.lanesOf s.crest.bank (4 * q)) (4 * q) else s)
  else s.each (List.range 4) fun s l => if bit mask l ∧ s.lanesRun (4 * q + l) then s.toDetect [4 * q + l] (4 * q + l) else s

/-- Ports of a quad in a bank. -/
def quadPorts (s : State) (b : Bool) (q : Nat) : List Nat :=
  if s.quad100 b (4 * q) then [4 * q] else (List.range 4).map (4 * q + ·)

/-- Every lane of a quad is in DEEP, and its PLL is off (R109). -/
def allDeep (s : State) (q : Nat) : Bool := (List.range 4).all fun l => s.laneState (4 * q + l) == 6

/-- PLL_LOCK as the quad's lanes and reference have it: off with all four lanes in DEEP, and from a loss of lock to the
recovery. -/
def pllSettle (s : State) (q : Nat) : State :=
  s.putBit (LNE_QUAD_STATUS q) 1 (s.rbit (LNE_QUAD_STATUS q) 0 && !s.lns.pllLost.contains q && !s.allDeep q)

/-- A quad's reference or PLL is lost: every lane returns to DETECT (R94); where the reference goes, lanes in DEEP stay, and their
exit goes to DETECT (R110). A PLL that is off has no lock to lose. -/
def quadRefLoss (s : State) (q : Nat) (pll : Bool) : State :=
  if pll ∧ s.allDeep q then s else
  let s := ((s.clrBit (LNE_QUAD_STATUS q) (b2n pll)).setBit (LNE_IRQ_STATUS q) 12).raise 31 q
  let s := if pll then { s with lns := { s.lns with pllLost := (s.lns.pllLost ++ [q]).eraseDups } } else s
  s.each (s.quadPorts s.crest.bank q) fun s p =>
    if s.laneState p = 6 ∧ ¬ pll then s.setMac p { s.mac p with deepUp := false }
    else s.toDetect (s.lanesOf s.crest.bank p) p

/-- The reference has been good and the PLL locked for 100 µs. -/
def quadRefRecover (s : State) (q : Nat) : State :=
  ({ s.setBit (LNE_QUAD_STATUS q) 0 with lns := { s.lns with pllLost := s.lns.pllLost.filter (· != q) } }).pllSettle q

/-- Every lane is held in DETECT (R97, R99): transmissions are cut short, nothing else of a link-down happens. -/
def holdLanes (s : State) : State :=
  s.each (List.range 32) fun s p =>
    let s := if (s.mac p).tx.isSome ∨ (s.mac p).held.isSome then s.abortTx p else s
    (s.unlock [p]).enterState [p] p 0

/-- Every lane starts from DETECT (R99). -/
def startLanes (s : State) : State := s.each (List.range 32) fun s p => (s.storedTxEq [p]).enterState [p] p 0

/-! ### Low-power states (R109) -/

/-- A quad's lanes may go to their low-power states (R320): the power controller runs, nothing votes for ON, and the idle time
of the quad, to the end of which time passes, is over; the state then, none where that is not so. -/
def quadIdle (s : State) (q : Nat) : Option State :=
  if ¬ s.powerRuns ∨ s.want (domQuad q) = 2 then none else (s.idleEnd (domQuad q)).map fun e => s.elapse (e - s.time.clk)

/-- A lane naps where NAP is the deepest state that LNE_Ll_LOW permits, that of lane 0 for a 100GBASE-R port (DESIGN CHOICE, log
entry 125), low-power idle is held and its quad is idle (R109, R320). -/
def napEnter (s : State) (p : Nat) : State :=
  if ¬ s.laneMoves p ∨ s.laneState p ≠ 4 ∨ s.rf (LNE_L_LOW p) 0 2 ≠ 1 ∨ ¬ s.rbit (MAC_EEE_STATUS p) 0 then s
  else match s.quadIdle (p / 4) with
    | some s => s.laneTo (s.lanesOf s.crest.bank p) p 5
    | none => s

/-- NAP ends within 0.5 µs. -/
def napExit (s : State) (p : Nat) : State :=
  if ¬ s.laneMoves p ∨ s.laneState p ≠ 5 then s else (s.elapse 125).laneTo (s.lanesOf s.crest.bank p) p 4

/-- The partner has not resumed: the lane leaves through ACTIVE to LOCK. -/
def napTimeout (s : State) (p : Nat) : State :=
  if ¬ s.laneMoves p ∨ s.laneState p ≠ 5 then s else s.laneTo (s.lanesOf s.crest.bank p) p 3

/-- DEEP is entered from any state where LNE_Ll_LOW, that of lane 0 for a 100GBASE-R port (log entry 125), permits it and the
quad is idle; the quad PLL goes off with the last lane (R109, R320). -/
def deepEnter (s : State) (p : Nat) : State :=
  if ¬ s.laneMoves p ∨ s.laneState p = 6 ∨ s.rf (LNE_L_LOW p) 0 2 ≠ 2 then s else
  match s.quadIdle (p / 4) with
  | none => s
  | some s =>
  let up := s.laneState p == 4 || s.laneState p == 5
  let ls := s.lanesOf s.crest.bank p
  let s := ((s.unlock ls).laneTo ls p 6)
  (s.setMac p { s.mac p with deepUp := up }).pllSettle (p / 4)

/-- DEEP is left after 20 µs, for LOCK or for DETECT. -/
def deepExit (s : State) (p : Nat) : State :=
  if ¬ s.laneMoves p ∨ s.laneState p ≠ 6 then s else
  ((s.elapse 5000).laneTo (s.lanesOf s.crest.bank p) p (if (s.mac p).deepUp then 3 else 0)).pllSettle (p / 4)

/-! ### Test patterns (R107, R108) -/

/-- The checker of a lane is on. -/
def prbsOn (s : State) (p : Nat) : Bool := Nat.blt p 32 && s.mode == .test && s.rf (LNE_L_TEST p) 3 3 != 0

/-- The checker locks. -/
def prbsLock (s : State) (p : Nat) : State := if s.prbsOn p then s.setBit (LNE_L_PRBS_STATUS p) 0 else s

/-- A locked checker has found `errors` of the 1,024 bits of a window in error: each counts, and above 512 it drops its lock. -/
def prbsLoss (s : State) (p errors : Nat) : State :=
  if ¬ s.prbsOn p ∨ ¬ s.rbit (LNE_L_PRBS_STATUS p) 0 then s else
  let s := s.bumpBy (LNE_L_PRBS_ERR p) (min errors 1024)
  if errors ≤ 512 then s
  else ((s.clrBit (LNE_L_PRBS_STATUS p) 0).wrapFld (LNE_L_PRBS_STATUS p) 8 8).setBit (LNE_IRQ_STATUS (p / 4)) (8 + p % 4)

/-- One generated bit is inverted: a checker locked on a near-end loopback of the pattern counts it. -/
def prbsInject (s : State) (p : Nat) : State :=
  let x := s.reg (LNE_L_TEST p)
  if s.prbsOn p ∧ s.rbit (LNE_L_PRBS_STATUS p) 0 ∧ bits x 6 2 = 1 ∧ bits x 0 3 = bits x 3 3 then s.bump (LNE_L_PRBS_ERR p) else s

/-! ### Commits (R92, R102) -/

/-- Ports of a quad that restart when bank `new` takes over from bank `old`: all where MODE or FEC100 changed, else
those whose LNE_Ll_CFG changed. -/
def restarting (s : State) (old new : Bool) (q : Nat) : List Nat :=
  let ports := s.quadPorts old q
  if s.cf old (LNE_QUAD_CFG q) 0 2 ≠ s.cf new (LNE_QUAD_CFG q) 0 2 then ports
  else ports.filter fun p => (s.lanesOf old p).any fun l => s.cfg old (LNE_L_CFG l) != s.cfg new (LNE_L_CFG l)

/-- Lanes that restart return to DETECT, in a quad that is not ON when they leave DEEP (DEDUCED, log entry 126); ports that cease
to exist lose their copies (R92, R276). Done while `old` is still active. -/
def lanesCommit (s : State) (old new : Bool) : State :=
  s.each (List.range 8) fun s q =>
    let s := s.each (s.restarting old new q) fun s p =>
      if s.laneState p = 6 ∧ ¬ s.awake (domQuad q) then s.setMac p { s.mac p with deepUp := false }
      else s.toDetect (s.lanesOf old p) p
    let s := if s.restarting old new q = [] then s else s.pllSettle q
    if s.quad100 new (4 * q) ∧ ¬ s.quad100 old (4 * q) then s.each [1, 2, 3] fun s l => s.flushPort (4 * q + l) else s

/-- Equalisers after a commit: stored transmit coefficients where no trained ones are in force, fixed CTLE steps, and no
taps where DFE is off. -/
def eqCommit (s : State) : State :=
  s.each (List.range 32) fun s l =>
    let s := if s.lns.trained.contains l ∨ ¬ s.lanesRun l then s else s.applyTxEq l
    let c := s.cfg s.crest.bank (LNE_L_RX_EQ l)
    if s.laneState l < 3 then s else
    let s := if bit c 4 then s else s.setFld (LNE_L_RX_EQ_STATE l) 0 4 (bits c 0 4)
    if bit c 5 then s else s.setFld (LNE_L_RX_EQ_STATE l) 4 25 0

end State

/-! ### The commands -/

/-- QUAD_REF_LOSS, R94 -/
def execQuadRefLoss (q : Nat) (pll : Bool) (s : State) : Result := finish (if q < 8 then s.quadRefLoss q pll else s)

/-- QUAD_REF_RECOVER, R94 -/
def execQuadRefRecover (q : Nat) (s : State) : Result := finish (if q < 8 then s.quadRefRecover q else s)

/-- LANE_SIGNAL_DETECT, R96 -/
def execLaneSignalDetect (lane : Nat) (s : State) : Result := finish (s.signalDetect lane)

/-- AN_COMPLETE, R96 -/
def execAnComplete (p : Nat) (partner : Partner) (s : State) : Result := finish (s.anComplete p partner)

/-- AN_FAIL, R96 -/
def execAnFail (p : Nat) (s : State) : Result := finish (s.anFail p)

/-- TRAIN_COMPLETE, R96 -/
def execTrainComplete (p : Nat) (eqs : List Equaliser) (s : State) : Result := finish (s.trained p true eqs)

/-- TRAIN_TIMEOUT, R96 -/
def execTrainTimeout (p : Nat) (s : State) : Result := finish (s.trainTimeout p)

/-- EQ_SETTLED, R96 -/
def execEqSettled (p : Nat) (eqs : List Equaliser) (s : State) : Result := finish (s.eqSettle p eqs)

/-- LOCK_ACHIEVED, R96 -/
def execLockAchieved (p : Nat) (skews : List Nat) (rxAlign txAlign : Nat) (s : State) : Result :=
  finish (s.lockAchieved p skews rxAlign txAlign)

/-- LOCK_TIMEOUT, R96 -/
def execLockTimeout (p : Nat) (skews : List Nat) (s : State) : Result := finish (s.lockTimeout p skews)

/-- LANE_LOCK_LOSS, R96 -/
def execLaneLockLoss (lane : Nat) (what : LockKind) (s : State) : Result := finish (s.laneLockLoss lane what)

/-- LANE_SIGNAL_LOSS, R96 -/
def execLaneSignalLoss (lane : Nat) (s : State) : Result := finish (s.laneSignalLoss lane)

/-- NAP_ENTER, R109 -/
def execNapEnter (p : Nat) (s : State) : Result := finish (s.napEnter p)

/-- NAP_EXIT, R109 -/
def execNapExit (p : Nat) (s : State) : Result := finish (s.napExit p)

/-- NAP_WAKE_TIMEOUT, R109 -/
def execNapWakeTimeout (p : Nat) (s : State) : Result := finish (s.napTimeout p)

/-- DEEP_ENTER, R109 -/
def execDeepEnter (p : Nat) (s : State) : Result := finish (s.deepEnter p)

/-- DEEP_EXIT, R109 -/
def execDeepExit (p : Nat) (s : State) : Result := finish (s.deepExit p)

/-- PRBS_LOCK, R108 -/
def execPrbsLock (p : Nat) (s : State) : Result := finish (s.prbsLock p)

/-- PRBS_LOSS, R108 -/
def execPrbsLoss (p errors : Nat) (s : State) : Result := finish (s.prbsLoss p errors)

end Sys2Proof.Machine
end

