-- ==== Sys2Proof/Machine/Macs.lean ====
section
/-! DEFINITION. What a MAC does beside receiving and sending frames: PAUSE and priority flow control (R121 to R124),
low-power idle (R126, R127), preemption verification (R129), and the medium of field ports (R132 to R136). -/

namespace Sys2Proof.Machine

namespace State

/-! ### Flow control (R121 to R124) -/

/-- Bit of MAC_FC_STATUS that shows a pause: the port's for 8, else priority k's. -/
def pauseBit (k : Nat) : Nat := if k = 8 then 0 else 8 + k

/-- A pause of a port (8) or a priority for `n` quanta takes effect; 0 ends it. -/
def pauseFor (s : State) (p k n : Nat) : State :=
  if n = 0 then s.clrBit (MAC_FC_STATUS p) (pauseBit k) else
  let m := s.mac p
  let on := s.rbit (MAC_FC_STATUS p) (pauseBit k)
  let s := s.setMac p { m with
    ends := m.ends.set k (s.time.clk + ceilDiv (n * 128000) (max 1 (s.rate p)))
    since := if on then m.since else m.since.set k s.time.clk }
  s.setBit (MAC_FC_STATUS p) (pauseBit k)

/-- A received PAUSE or PFC frame takes effect. -/
def pauseApply (s : State) (p : Nat) : State :=
  match (s.mac p).pause with
  | none => s
  | some (t, vec, times) =>
    let s := s.setMac p { s.mac p with pause := none }
    match t with
    | some n => s.pauseFor p 8 n
    | none => s.each ((List.range 8).filter fun k => bit vec k) fun s k => s.pauseFor p k (times.getD k 0)

/-- The MAC obeys control frames sent to this address (R121). -/
def pauseAddress (s : State) (da : Nat) : Bool := da == 0x0180C2000001 || da == s.cf s.crest.bank GLB_MAC_HI 0 16 * 2 ^ 32 + s.cf s.crest.bank GLB_MAC_LO 0 32

/-- A valid MAC control frame received on a lane port is kept until it takes effect, where it is obeyed (R121, R124). -/
def pauseReceived (s : State) (f : Frame) : State :=
  let p := f.port
  let op := be16 f.bytes 14
  let c := s.cfg f.bank (MAC_FC_CFG p)
  if s.rbit (MAC_FC_STATUS p) 1 ∨ ¬ s.pauseAddress (frameDa f) then s
  else if op = 1 ∧ bit c 0 then
    let s := s.pauseApply p
    s.setMac p { s.mac p with pause := some (some (be16 f.bytes 16), 0, []) }
  else if op = 0x0101 ∧ bit c 1 then
    let s := s.pauseApply p
    let vec := (List.range 8).foldl (fun a k => if bit (be16 f.bytes 16) k && !bit c (8 + k) then a + 2 ^ k else a) 0
    s.setMac p { s.mac p with pause := some (none, vec, (List.range 8).map fun k => be16 f.bytes (18 + 2 * k)) }
  else s

/-- A pause runs out. -/
def pauseExpire (s : State) (p k : Nat) : State :=
  if ¬ s.rbit (MAC_FC_STATUS p) (pauseBit k) then s
  else (s.elapse ((s.mac p).ends.getD k 0 - s.time.clk)).clrBit (MAC_FC_STATUS p) (pauseBit k)

/-- Starts of the pauses of a port that last beyond LIMIT_MS. -/
def longPauses (s : State) (p : Nat) : List Nat :=
  let m := s.mac p
  ((List.range 9).filter fun k => s.rbit (MAC_FC_STATUS p) (pauseBit k) &&
    Nat.blt (m.since.getD k 0 + s.rf (MAC_PAUSE_WDOG p) 0 10 * 250000) (m.ends.getD k 0)).map fun k => m.since.getD k 0

/-- The watchdog fires when the first of them passes LIMIT_MS: every pause ends and the hold-off begins (R124). -/
def pauseWatchdog (s : State) (p : Nat) : State :=
  match (s.longPauses p).min? with
  | none => s
  | some since =>
    let s := s.elapse (since + s.rf (MAC_PAUSE_WDOG p) 0 10 * 250000 + 1 - s.time.clk)
    let s := ((s.setFld (MAC_FC_STATUS p) 0 1 0).setFld (MAC_FC_STATUS p) 8 8 0).setBit (MAC_FC_STATUS p) 1
    let s := s.setMac p { s.mac p with pause := none, holdoffAt := s.time.clk }
    ((s.stat p stPauseWdog 1).setBit (MAC_IRQ_STATUS p) 1).raise 32 p

/-- The hold-off ends. -/
def holdoffEnd (s : State) (p : Nat) : State :=
  if ¬ s.rbit (MAC_FC_STATUS p) 1 then s
  else (s.elapse ((s.mac p).holdoffAt + s.rf (MAC_PAUSE_WDOG p) 16 16 * 250000 - s.time.clk)).clrBit (MAC_FC_STATUS p) 1

/-! ### Low-power idle (R126, R127) -/

/-- EEE runs on a port. -/
def eeeOn (s : State) (p : Nat) : Bool := Nat.blt p 32 && s.cbit s.crest.bank (MAC_EEE_CFG p) 0 && !s.is1000 p && s.linkUp p

/-- A pre-wake vote for the port's quad is in force. -/
def quadVoted (s : State) (p : Nat) : Bool :=
  s.sched.voting.any fun v => s.cbit s.crest.bank (SCH_PORT_PREWAKE (v / 8)) 30 && domOfPort (v / 8) == domOfPort p

/-- The transmit side enters low-power idle once no frame has been eligible for IDLE_US. -/
def lpiEnter (s : State) (p : Nat) : State :=
  let m := s.mac p
  if ¬ s.eeeOn p ∨ s.laneState p ≠ 4 ∨ s.rbit (MAC_EEE_STATUS p) 0 ∨ m.waking ∨ m.tx.isSome ∨ m.held.isSome ∨
    s.quadVoted p ∨ (s.nextQueue p).isSome then s
  else
    let s := s.elapse (m.busy + s.cf s.crest.bank (MAC_EEE_CFG p) 8 8 * 250 - s.time.clk)
    ((s.setBit (MAC_EEE_STATUS p) 0).stat p stTxLpi 1).rawCtr p 15

/-- The transmit side leaves low-power idle for an eligible frame or a pre-wake vote. -/
def lpiExit (s : State) (p : Nat) : State := if (s.nextQueue p).isSome ∨ s.quadVoted p then s.lpiLeave p else s

/-- TW_NS has passed since low-power idle was left. -/
def wakeDone (s : State) (p : Nat) : State :=
  let m := s.mac p
  if ¬ m.waking then s else
  let s := s.elapse (m.busy + ceilDiv (s.cf s.crest.bank (MAC_EEE_CFG p) 16 16) 4 - s.time.clk)
  s.setMac p { s.mac p with waking := false }

/-- A low-power idle period from the partner; the status shows it until a frame comes (log entry 30). -/
def rxLpi (s : State) (p : Nat) : State :=
  if s.eeeOn p then ((s.setBit (MAC_EEE_STATUS p) 1).stat p stRxLpi 1).rawCtr p 15 else s

/-! ### Verification (R129) -/

/-- VERIFY_MS of a port in cycles of 4 ns. -/
def verifyCycles (s : State) (p : Nat) : Nat := s.cf s.crest.bank (MAC_PREEMPT_CFG p) 16 8 * 250000

/-- Verification of a port runs. -/
def verifying (s : State) (p : Nat) : Bool := s.rf (MAC_PREEMPT_STATUS p) 0 3 == 2

/-- Time passes until VERIFY_MS after the last verify mPacket, if one has been sent. -/
def elapseVerify (s : State) (p : Nat) : State :=
  if (s.mac p).verifies = 0 then s else s.elapse ((s.mac p).verifyAt + s.verifyCycles p - s.time.clk)

/-- A verify mPacket is sent every VERIFY_MS while verification runs and the link is ACTIVE, at most three. -/
def verifySend (s : State) (p : Nat) : State :=
  if s.verifying p ∧ s.laneState p = 4 ∧ (s.mac p).verifies < 3 then
    let s := s.elapseVerify p
    s.setMac p { s.mac p with verifies := (s.mac p).verifies + 1, verifyAt := s.time.clk }
  else s

/-- A respond mPacket ends verification. -/
def verifyAnswered (s : State) (p : Nat) : State := if s.verifying p then s.setVerify p 3 else s

/-- Three attempts have gone unanswered, the last for VERIFY_MS. -/
def verifyFail (s : State) (p : Nat) : State :=
  if s.verifying p ∧ 3 ≤ (s.mac p).verifies then (s.elapseVerify p).setVerify p 4 else s

/-! ### The medium of a field port (R132 to R136) -/

/-- MODE of a field port: 0 CSMA/CD, 1 PLCA configured, 2 PLCA fallback. -/
def fieldMode (s : State) (p : Nat) : Nat := s.rf (MAC_FLD_STATUS p) 0 2

/-- Fallback may not be entered: DWELL_S seconds have not passed since a beacon conflict (R136). -/
def barred (s : State) (p : Nat) : Bool :=
  match (s.mac p).barred with
  | some t => Nat.blt s.time.clk (t + s.cf s.crest.bank (MAC_FLD_DWELL p) 0 16 * 250000000)
  | none => false

/-- PLCA fallback is entered (R134); its beacons are on the segment. -/
def fallbackEnter (s : State) (p : Nat) : State :=
  let s := ((s.setFld (MAC_FLD_STATUS p) 0 2 2).setBit (MAC_FLD_STATUS p) 2).stat p stFldFallbacks 1
  let s := s.setMac p { s.mac p with dwellAt := s.time.clk, window := none, passed := none }
  ((s.setFld (MAC_FLD_STATUS p) 8 8 0).setBit (MAC_IRQ_STATUS p) 3).raise 33 p

/-- The port returns to CSMA/CD and storm counting starts afresh (R135). -/
def fallbackLeave (s : State) (p mode : Nat) : State :=
  let s := ((s.setFld (MAC_FLD_STATUS p) 0 2 mode).clrBit (MAC_FLD_STATUS p) 2).setFld (MAC_FLD_STATUS p) 8 8 0
  (s.setMac p { s.mac p with window := none, passed := none }).setBit (MAC_IRQ_STATUS p) 4

/-- A storm event counts in the open window, which the first one opens. -/
def windowCount (s : State) (p : Nat) : State :=
  let s := if (s.mac p).window.isSome then s
    else (s.setMac p { s.mac p with window := some s.time.clk, storm := 0 }).setFld (MAC_FLD_STATUS p) 8 8 0
  (s.setMac p { s.mac p with storm := (s.mac p).storm + 1 }).satFld (MAC_FLD_STATUS p) 8 8 1

/-- A storm event (R134): counted in every mode; in CSMA/CD with FALLBACK_EN the window counts it, and a count above THRESHOLD
enters fallback. In fallback windows go on, for a CLEAR_FALLBACK in the cycle in which one passes the threshold (R136). -/
def stormEvent (s : State) (p : Nat) : State :=
  let s := (s.stat p stFldStorm 1).rawCtr p 14
  if s.fieldMode p = 1 ∨ ¬ s.cbit s.crest.bank (MAC_FLD_CFG p) 2 ∨ s.barred p then s else
  let s := s.windowCount p
  if (s.mac p).storm ≤ s.cf s.crest.bank (MAC_FLD_STORM p) 0 8 then s
  else if s.fieldMode p = 0 then s.fallbackEnter p
  else (s.setMac p { s.mac p with window := none, passed := some s.time.clk }).setFld (MAC_FLD_STATUS p) 8 8 0

/-- The storm window closes after WINDOW_US. -/
def stormWindowEnd (s : State) (p : Nat) : State :=
  match (s.mac p).window with
  | none => s
  | some t =>
    let s := s.elapse (t + s.cf s.crest.bank (MAC_FLD_STORM p) 16 16 * 250 - s.time.clk)
    (s.setMac p { s.mac p with window := none }).setFld (MAC_FLD_STATUS p) 8 8 0

/-- Seconds of dwell that remain, rounded up; 0 outside fallback and where DWELL_S is 0. -/
def dwellLeft (s : State) (p : Nat) : Nat :=
  let d := s.cf s.crest.bank (MAC_FLD_DWELL p) 0 16
  if s.fieldMode p = 2 ∧ d ≠ 0 then d - (s.time.clk - (s.mac p).dwellAt) / 250000000 else 0

/-- The dwell ends, DWELL_S after fallback entry: the DWELL_S of the active bank, so that a commit changes a dwell that runs
(DESIGN CHOICE, log entry 133). -/
def dwellEnd (s : State) (p : Nat) : State :=
  let d := s.cf s.crest.bank (MAC_FLD_DWELL p) 0 16
  if s.fieldMode p ≠ 2 ∨ d = 0 then s
  else (s.elapse ((s.mac p).dwellAt + d * 250000000 - s.time.clk)).fallbackLeave p 0

/-- CLEAR_FALLBACK (R135): the port stays and its dwell restarts where a storm window has passed its threshold in this cycle
(R136). -/
def clearFallback (s : State) (p : Nat) : State :=
  if s.fieldMode p ≠ 2 then s
  else if (s.mac p).passed = some s.time.clk then
    ((s.setMac p { s.mac p with dwellAt := s.time.clk, passed := none }).stat p stFldFallbacks 1).raise 33 p
  else s.fallbackLeave p 0

/-- A beacon of another node is heard in fallback (R136). -/
def beaconConflict (s : State) (p : Nat) : State :=
  if s.fieldMode p ≠ 2 then s else
  let s := (s.stat p stFldConflict 1).fallbackLeave p 0
  s.setMac p { s.mac p with barred := some s.time.clk }

/-- A frame discarded after a collision (R132): its copy goes; the timestamp asked for is that of the attempt where the
destination address had left, else dropped (log entry 31). -/
def dropAttempt (s : State) (p : Nat) (t : Tx) (c : Copy) (n : Nat) : State :=
  let s := (s.stat p stTxOctets n).bwTx p n
  let s := s.setMac p { s.mac p with tx := none, busy := s.time.clk }
  let s := if 6 ≤ n then s.stampSent c t.cnt else s.droppedStamp c
  ((s.releaseCopy c).checkHead c.queue).noteWithheld p

/-- Slot time of a field port in cycles: 512 bit times (R132, Clause 4). -/
abbrev slotCycles : Nat := 12800

/-- Truncated binary exponential backoff after the `n`th collision (R132, Clause 4): a whole number of slots below
2 ^ min(n, 10), which is open (log entry 2). -/
def backOff (s : State) (p : Nat) (c : Copy) : State :=
  match s.draw with
  | (w, s) => (s.setCopy { c with coll := c.coll + 1, started := false }).setMac p { s.mac p with
      tx := none, backoff := some c.id, backoffAt := s.time.clk + w.toNat % 2 ^ min (c.coll + 1) 10 * slotCycles }

/-- A collision on an attempt (R132), `sent` bytes of the frame being out: late after 64 bytes, the 16th discards the
frame, any other backs off with the copy back at the head of its queue. Raw TX_COLL counts every one of them, as R140 has it,
though the table of R132 does not name it for a late and a 16th collision (DEDUCED, log entry 131). -/
def collision (s : State) (p sent : Nat) : State :=
  match (s.mac p).tx with
  | none => s
  | some t =>
    match s.txCopy t with
    | none => s
    | some c =>
      let s := (s.stormEvent p).rawCtr p 12
      if 64 < sent then ((s.stat p stTxLateColl 1).rawCtr p 13).dropAttempt p t c sent
      else if 16 ≤ c.coll + 1 then ((s.stat p stTxExcessColl 1).rawCtr p 13).dropAttempt p t c sent
      else ((s.stat p stTxOctets sent).bwTx p sent).backOff p c

/-- An attempt after backoff (R132, R300): only while the copy still heads its queue and fits. -/
def backoffEnd (s : State) (p : Nat) (tx : TxStart) : State :=
  let s := s.elapse tx.wait
  let s := if (s.mac p).backoff.isSome then s.elapse ((s.mac p).backoffAt - s.time.clk) else s
  match (s.mac p).backoff.bind fun id => s.oas.copies.find? fun c => c.id == id with
  | none => s.setMac p { s.mac p with backoff := none }
  | some c =>
    if ¬ s.mayTransmit p ∨ (s.mac p).tx.isSome then s else
    let s := s.setMac p { s.mac p with backoff := none }
    if s.queueReady p c.queue ∧ s.headCopy c.queue = some c then s.sendHead c.queue tx.dev tx.ecc else s.noteWithheld p

/-- The transmission on a port is a first attempt. -/
def firstAttempt (s : State) (p : Nat) : Bool := ((s.mac p).tx.bind s.txCopy).any fun c => c.coll == 0

/-- The medium is gained (R132, R300); a first attempt that was deferred counts. -/
def opportunity (s : State) (p : Nat) (deferred : Bool) (tx : TxStart) : State :=
  if (s.mac p).backoff.isSome then s.backoffEnd p tx else
  let idle := (s.mac p).tx.isNone
  let s := s.startOn p tx
  s.when (deferred && idle && s.firstAttempt p) fun s => s.stat p stTxDeferred 1

/-- A transmission has run past 20 ms: the transmitter is disabled and the link is down (R132, R276). The frame it cuts short is
counted as aborted, though jabber is none of the cases of R120 (DESIGN CHOICE, log entry 132). -/
def jabber (s : State) (p : Nat) : State :=
  if s.rbit (MAC_FLD_STATUS p) 3 then s else
  let s := ((s.stat p stFldJabber 1).setBit (MAC_IRQ_STATUS p) 5).abortTx p
  (s.setBit (MAC_FLD_STATUS p) 3).flushPort p

/-- A beacon is on the segment: this device's own in the mode that sends it, another node's that it follows (R133). -/
def plcaBeacon (s : State) (p : Nat) (own : Bool) : State :=
  let node0 := s.fieldMode p == 2 || (s.fieldMode p == 1 && s.cf s.crest.bank (MAC_FLD_PLCA p) 0 3 == 0)
  if (own && node0) || (!own && s.fieldMode p == 1) then
    (s.setBit (MAC_FLD_STATUS p) 2).setMac p { s.mac p with beaconAt := s.time.clk }
  else s

/-- Beacons are present on the segment: those of this device as coordinator, or others' within the last 130,090 bit times
(PRESUMED, plca_status_timer of Clause 148; log entry 135). -/
def beacons (s : State) (p : Nat) : Bool :=
  s.rbit (MAC_FLD_STATUS p) 2 &&
    (s.fieldMode p == 2 || s.cf s.crest.bank (MAC_FLD_PLCA p) 0 3 == 0 || Nat.ble s.time.clk ((s.mac p).beaconAt + 130090 * 25))

/-- Field ports at a commit (R133, R135, R136): PLCA configured and unconfigured; PHY_EN going to 0 cuts a transmission
short, ends fallback and takes the link down (R276). -/
def fieldCommit (s : State) : State :=
  s.each ((List.range 32).map (32 + ·)) fun s p =>
    let c := s.cfg s.crest.bank (MAC_FLD_CFG p)
    let s := if ¬ bit c 0 ∧ ((s.mac p).tx).isSome then s.abortTx p else s
    let s := if ¬ bit c 0 then ((s.setFld (MAC_FLD_STATUS p) 8 8 0).setMac p { s.mac p with window := none }).flushPort p else s
    match s.fieldMode p with
    | 2 => if bit c 1 then s.fallbackLeave p 1 else if ¬ bit c 0 then s.fallbackLeave p 0 else s
    | m => if m = b2n (bit c 1) then s else ((s.setFld (MAC_FLD_STATUS p) 0 2 (b2n (bit c 1))).clrBit (MAC_FLD_STATUS p) 2)

/-- Every preemption verify state at a commit (R129). -/
def verifyCommit (s : State) : State := s.each (List.range 32) fun s p => if s.portExists s.crest.bank p then s.verifyEval p else s

end State

/-! ### The commands -/

/-- PAUSE_APPLY, R121 -/
def execPauseApply (p : Nat) (s : State) : Result := finish (if p < 32 then s.pauseApply p else s)

/-- PAUSE_EXPIRE, R121: `k` 8 for the port -/
def execPauseExpire (p k : Nat) (s : State) : Result := finish (if p < 32 ∧ k < 9 then s.pauseExpire p k else s)

/-- PAUSE_WDOG_FIRE, R124 -/
def execPauseWdogFire (p : Nat) (s : State) : Result := finish (if p < 32 then s.pauseWatchdog p else s)

/-- PAUSE_HOLDOFF_END, R124 -/
def execPauseHoldoffEnd (p : Nat) (s : State) : Result := finish (if p < 32 then s.holdoffEnd p else s)

/-- EEE_LPI_ENTER, R127 -/
def execEeeLpiEnter (p : Nat) (s : State) : Result := finish (s.lpiEnter p)

/-- EEE_LPI_EXIT, R127 -/
def execEeeLpiExit (p : Nat) (s : State) : Result := finish (s.lpiExit p)

/-- EEE_WAKE_DONE, R127 -/
def execEeeWakeDone (p : Nat) (s : State) : Result := finish (if p < 32 then s.wakeDone p else s)

/-- RX_LPI_PERIOD, R127 -/
def execRxLpiPeriod (p : Nat) (s : State) : Result := finish (s.rxLpi p)

/-- PREEMPT_VERIFY_SEND, R129 -/
def execPreemptVerifySend (p : Nat) (s : State) : Result := finish (if p < 32 then s.verifySend p else s)

/-- PREEMPT_RESPOND_RX, R129 -/
def execPreemptRespondRx (p : Nat) (s : State) : Result := finish (if p < 32 then s.verifyAnswered p else s)

/-- PREEMPT_VERIFY_FAIL, R129 -/
def execPreemptVerifyFail (p : Nat) (s : State) : Result := finish (if p < 32 then s.verifyFail p else s)

/-- FIELD_COLLISION, R132 -/
def execFieldCollision (p sent : Nat) (s : State) : Result := finish (if State.isField p then s.collision p sent else s)

/-- FIELD_BACKOFF_EXPIRE, R132 -/
def execFieldBackoffExpire (p : Nat) (tx : TxStart) (s : State) : Result := finish (if State.isField p then s.backoffEnd p tx else s)

/-- FIELD_TX_OPPORTUNITY, R132 -/
def execFieldTxOpportunity (p : Nat) (deferred : Bool) (tx : TxStart) (s : State) : Result :=
  finish (if State.isField p then s.opportunity p deferred tx else s)

/-- FIELD_JABBER, R132 -/
def execFieldJabber (p : Nat) (s : State) : Result := finish (if State.isField p then s.jabber p else s)

/-- FIELD_JABBER_RELEASE, R132 -/
def execFieldJabberRelease (p : Nat) (s : State) : Result := finish (if State.isField p then s.clrBit (MAC_FLD_STATUS p) 3 else s)

/-- FIELD_STORM_WINDOW_END, R134 -/
def execFieldStormWindowEnd (p : Nat) (s : State) : Result := finish (if State.isField p then s.stormWindowEnd p else s)

/-- FIELD_DWELL_EXPIRE, R135 -/
def execFieldDwellExpire (p : Nat) (s : State) : Result := finish (if State.isField p then s.dwellEnd p else s)

/-- FIELD_BEACON_CONFLICT, R136 -/
def execFieldBeaconConflict (p : Nat) (s : State) : Result := finish (if State.isField p then s.beaconConflict p else s)

/-- PLCA_BEACON, R133 -/
def execPlcaBeacon (p : Nat) (own : Bool) (s : State) : Result := finish (if State.isField p then s.plcaBeacon p own else s)

end Sys2Proof.Machine
end

