-- ==== Sys2Proof/Machine/Signals.lean ====
section
/-! DEFINITION. What the serial lanes put on their balls (R90, R94, R96, R98, R99, R104, R107, R109), the pages of
auto-negotiation (R100), and the test patterns (R107). Nothing here changes the state: it is what the partner sees of it. -/

namespace Sys2Proof.Machine

/-- What a lane's transmitter sends (R96, R107). -/
inductive TxSignal where
  | electricalIdle
  /-- the idle stream of the PCS -/
  | pcsIdle
  /-- Clause 73 DME pages -/
  | dmePages
  /-- Clause 37 configuration -/
  | configuration
  /-- Clause 72 training frames, in the control-field layout of Clause 136.8.11 or their own (R101) -/
  | training (clause136 : Bool)
  /-- frames and idles from the MAC -/
  | frames
  /-- quiet, with the refreshes of the PHY type's EEE clause -/
  | quiet
  /-- the pattern of a PRBS code -/
  | prbs (code : Nat)
  /-- the recovered receive data, retimed -/
  | retimed
  deriving DecidableEq, Repr

namespace State

/-- A lane's transmitter is off whatever its state is: it is held, disabled, in a quad that is not ON, or without reference or
PLL (R90, R94, R99, R315). -/
def laneDark (s : State) (l : Nat) : Bool :=
  !s.lanesRun (s.laneOf l) || !s.laneOn l || !s.awake (domQuad (l / 4)) || !s.quadReady l

/-- What the test controls put on a lane in TEST (R99, R107): at near-end loopback nothing leaves the device; the generator
replaces the PCS output; none where neither acts. -/
def testSignal (s : State) (l : Nat) : Option TxSignal :=
  if s.mode ≠ .test then none
  else match s.rf (LNE_L_TEST l) 6 2, s.rf (LNE_L_TEST l) 0 3 with
    | 1, _ => some .electricalIdle
    | 2, _ => some .retimed
    | _, 0 => none
    | _, c => some (.prbs c)

/-- What a lane sends in its state (R96). Lane 0 alone carries the EXCHANGE of a 100GBASE-R port (R98); the others are then at
electrical idle (DEDUCED, log entry 129). -/
def stateSignal (s : State) (l : Nat) : TxSignal :=
  let p := s.laneOf l
  match s.laneState l with
  | 0 => if s.anEn p then .electricalIdle else .pcsIdle
  | 1 => if l ≠ p then .electricalIdle else if s.is1000 p then .configuration else .dmePages
  | 2 => if s.trains p then .training (s.laneCfg p 6 1 == 1) else .pcsIdle
  | 3 => .pcsIdle
  | 4 => .frames
  | 5 => .quiet
  | _ => .electricalIdle

/-- What a lane's transmitter sends. -/
def txSignal (s : State) (l : Nat) : TxSignal := if s.laneDark l then .electricalIdle else (s.testSignal l).getD (s.stateSignal l)

/-- A bit as it stands on the transmit balls of a lane (R104). -/
def sentBit (s : State) (l : Nat) (b : Bool) : Bool := b != s.cbit s.crest.bank (LNE_L_CFG l) 8

/-- A bit as the receiver of a lane takes it from the balls (R104). -/
def takenBit (s : State) (l : Nat) (b : Bool) : Bool := b != s.cbit s.crest.bank (LNE_L_CFG l) 9

/-- The PCS lanes that a 100GBASE-R port sends on lane `l` of its quad (R104). -/
def pcsLanes (l : Nat) : List Nat := (List.range 5).map (5 * l + ·)

/-! ### Auto-negotiation (R100, R125) -/

end State

/-- What the device sends in auto-negotiation. -/
inductive AnPage where
  /-- its technology ability, its pause ability bits C0 and C1, and its requests for BASE-R FEC and RS-FEC -/
  | base (tech : Tech) (pause : Nat) (baseR rs : Bool)
  /-- the null message that answers a next page -/
  | null
  /-- the configuration of Clause 37, with the pause bits -/
  | config (pause : Nat)
  deriving DecidableEq, Repr

namespace State

/-- The pages that a port sends in EXCHANGE to a partner that sends `n` next pages: its base page, and for each of them a null
message (R91, R100, R125). The manual says of 25GBASE-R that both kinds of FEC are requested (R91); elsewhere see log entry
128. -/
def anPages (s : State) (p n : Nat) : List AnPage :=
  let pause := s.cf s.crest.bank (MAC_FC_CFG p) 2 2
  match s.laneState p, s.advertised p with
  | 1, none => [.config pause]
  | 1, some t =>
    let fec := s.laneCfg p 2 2
    let wide := s.quad100 s.crest.bank p
    let baseR := !wide && (if s.laneCfg p 0 2 = 1 then fec % 2 == 1 else fec == 1 || fec == 3)
    let rs := !wide && s.laneCfg p 0 2 == 0 && Nat.ble 2 fec
    .base t pause baseR rs :: List.replicate n .null
  | _, _ => []

end State

/-! ### mPackets (R128, R130) -/

/-- An mPacket as the device sends it. -/
structure MPacket where
  /-- a start mPacket -/
  start : Bool
  /-- frame count of a start mPacket and of the frame's continuations -/
  frameCount : Nat
  /-- fragment count of a continuation -/
  fragCount : Nat
  data : Bytes
  /-- the mCRC of a fragment that is not the last -/
  mcrc : Option Nat
  deriving DecidableEq, Repr

/-- The mCRC after the bytes of a frame sent so far: their CRC-32 with its low 16 bits inverted (PRESUMED, Clause 99; log entry
134). -/
def mCrc (sent : Bytes) : Nat := fcs32 sent ^^^ 0xFFFF

/-- The mPackets of a preemptable transmission with the preemptions it has had (PRESUMED, Clause 99; log entry 134): the frame
count in each, and in continuation k the fragment count (k - 1) mod 4. -/
def mPackets (t : Tx) : List MPacket :=
  let starts := 0 :: t.cuts.reverse
  let ends := t.cuts.reverse.map some ++ [none]
  ((List.range starts.length).zip (starts.zip ends)).map fun x =>
    let e := x.2.2.getD t.bytes.length
    { start := x.1 == 0, frameCount := t.smd, fragCount := (x.1 - 1) % 4, data := (t.bytes.take e).drop x.2.1
      mcrc := x.2.2.map fun n => mCrc (t.bytes.take n) }

/-! ### Patterns (R107) -/

/-- The two taps of a pattern's polynomial, x^a + x^b + 1; none where no pattern is on. -/
def prbsTaps (code : Nat) : Option (Nat × Nat) :=
  match code with
  | 1 => some (7, 6)
  | 2 => some (9, 5)
  | 3 => some (15, 14)
  | 4 => some (23, 18)
  | 5 => some (31, 28)
  | _ => none

/-- The bit that follows a run of generated bits, the newest first. -/
def prbsNext (code : Nat) (run : List Bool) : Option Bool :=
  (prbsTaps code).map fun x => run.getD (x.1 - 1) false != run.getD (x.2 - 1) false

/-- `n` further bits of a pattern, the newest first. -/
def prbsRun (code : Nat) : Nat → List Bool → List Bool
  | 0, run => run
  | n + 1, run => match prbsNext code run with
    | some b => prbsRun code n (b :: run)
    | none => run

end Sys2Proof.Machine
end

