-- ==== Sys2Proof/Machine/Domains.lean ====
section
/-! DEFINITION. Entry to and return from low-power states, and the performance points (R314 to R330). -/

namespace Sys2Proof.Machine

/-- A store with every value replaced, in canonical form again. -/
def sparseMap {α : Type} [DecidableEq α] (d : Nat → α) (f : Nat → α → α) (l : List (Nat × α)) : List (Nat × α) :=
  (l.map fun x => (x.1, f x.1 x.2)).filter fun x => decide (x.2 ≠ d x.1)

/-- The counters of a MAC block: raw counters and port statistics (R137). -/
def macCounter (o : Nat) : Bool := Nat.ble 0x100 o && Nat.blt o 0x600

/-- What an immediate register of block `b`, at offset `o` in it, holds after its domain has been off: its RW fields are kept,
the others are reset (R321, R322); a MAC block keeps every field but its counters (R140), of which WINDOW_COUNT is one, and but
PLCA_OK and JABBER, which report the state that the PHY and PLCA lose (R322). -/
def keptFields (b : Block) (o : Nat) (r : RegRow) (i v : Nat) : Nat :=
  let rw := r.fields.foldl (fun a f => if f.acc = .rw then setBits a f.lo f.w (bits v f.lo f.w) else a) (r.reset i)
  match b with
  | .mac _ => if macCounter o then rw else if o = 0x044 then bits v 0 2 else v
  | _ => rw

/-- What an immediate register holds after its domain has been off. -/
def keptValue (off v : Nat) : Nat :=
  match findReg off, blockOf off with
  | some (r, i), some (b, base) => keptFields b (off - base) r i v
  | _, _ => v

/-- A domain's partition of the always-on memory: its first byte and its length (R321). -/
def aoPartition (d : Nat) : Option (Nat × Nat) :=
  if 6 ≤ d ∧ d < 10 then some ((d - 6) * 0x1000, 0x1000)
  else if 13 ≤ d ∧ d < 21 then some (0x4000 + (d - 13) * 0x400, 0x400)
  else if d = domField then some (0x6000, 0x800)
  else if d = domCaravan then some (0x6800, 0x800)
  else if d = domNvm then some (0x7000, 0x200)
  else none

/-- A word address lies in a domain's partition. -/
def inPartition (d word : Nat) : Bool :=
  (aoPartition d).any fun x => word % 4 == 0 && Nat.ble x.1 word && Nat.blt word (x.1 + x.2)

/-- Time from decision to RET or OFF, in ns (R314). -/
def entryNs (d goal : Nat) : Nat :=
  if d = domMgmt then 1000
  else if d = domNvm then 2000
  else if d < domOasis then (if goal = 1 then 200 else 10000)
  else if d = domOasis then 300
  else if d = domCaravan then (if goal = 1 then 300 else 5000)
  else if d = domSched then 200
  else (if goal = 1 then 1000 else 5000)

/-- Time from demand to ready from RET or OFF, in ns (R314). -/
def readyNs (d st : Nat) : Nat :=
  if d = domMgmt then 5000
  else if d = domNvm then 20000
  else if d < domOasis then (if st = 1 then 1200 else 45000)
  else if d = domOasis then 1500
  else if d = domCaravan then (if st = 1 then 2000 else 30000)
  else if d = domSched then 1000
  else if d = domField then (if st = 1 then 5000 else 40000)
  else (if st = 1 then 20000 else 45000)

/-- Voltage of a performance point in mV (R327). -/
def pointMv (p : Nat) : Nat := [800, 720, 680].getD p 650

/-- Fastest point whose voltage does not exceed `mv`; the slowest where every voltage does (R329). -/
def pointWithin (mv : Nat) : Nat := if 800 ≤ mv then 0 else if 720 ≤ mv then 1 else if 680 ≤ mv then 2 else 3

namespace State

/-! ### Performance points (R326 to R330) -/

/-- Effective point of an erg (R326). -/
def effPoint (s : State) (e : Nat) : Nat := min (s.rf (PWR_ERG_PERF_REQ e) 0 2) (s.cf s.crest.bank (PWR_ERG_PERF_MIN e) 0 2)

/-- Point in use. -/
def curPoint (s : State) (e : Nat) : Nat := s.rf (PWR_ERG_PERF_STATUS e) 0 2

/-- The target of VDD_CORE in mV for the points `p` of the ergs (R327). -/
def coreMv (s : State) (p : Nat → Nat) : Nat :=
  ((List.range 4).filter fun e => s.domState (domErg e) != 2).foldl (fun v e => max v (pointMv (p e))) 650

/-- The target of VDD_CORE in mV (R327). -/
def coreTarget (s : State) : Nat := s.coreMv s.effPoint

/-- The point to which the sequence in progress brings an erg. -/
def seqPoint (s : State) (e : Nat) : Nat := s.pow.points.getD e 0

/-- The voltage to which the sequence in progress brings VDD_CORE. -/
def seqTarget (s : State) : Nat := s.coreMv s.seqPoint

/-- AVSBus is used (R330). -/
def avsOn (s : State) : Bool := s.rbit PWR_AVS_CFG 0

/-- After an AVSBus failure an erg runs no faster than the last voltage read back supports (R329). -/
def limited (s : State) (p : Nat) : Nat := if s.avsOn && s.pow.avsBad then max p (pointWithin (s.rf PWR_AVS_STATUS 16 10)) else p

/-- An erg's clock runs at a point; a change is counted. -/
def setPoint (s : State) (e p : Nat) : State :=
  if s.curPoint e = p then s else (s.setFld (PWR_ERG_PERF_STATUS e) 0 2 p).bump (PWR_ERG_PERF_CHANGES e)

/-- The sequence has made its last clock change. -/
def perfEnd (s : State) : State := ((s.setPow { s.pow with avs := 0 }).clrBit PWR_AVS_STATUS 28).setBit PWR_IRQ_STATUS 6

/-- Clocks may rise. -/
def perfRise (s : State) : State := if s.pow.rising.isEmpty then s.perfEnd else s.setPow { s.pow with avs := 5 }

/-- The voltage follows the clocks that have fallen; without AVSBus it stands at 800 mV (R330). -/
def perfVolt (s : State) : State :=
  if s.avsOn ∧ (s.seqTarget ≠ s.rf PWR_AVS_STATUS 0 10 ∨ s.pow.avsBad) then s.setPow { s.pow with avs := 2 } else s.perfRise

/-- The sequence of R328 begins for the ergs that are ON, with the effective points of this moment. -/
def perfRun (s : State) : State :=
  let on := (List.range 4).filter fun e => s.awake (domErg e)
  let falling := on.filter fun e => Nat.blt (s.curPoint e) (s.effPoint e)
  let rising := on.filter fun e => Nat.blt (s.effPoint e) (s.curPoint e)
  let s := s.each (falling ++ rising) fun s e => s.setBit (PWR_ERG_PERF_STATUS e) 2
  let s := (s.setPow { s.pow with
    falling, rising, points := (List.range 4).map s.effPoint, again := false, avs := 1 }).setBit PWR_AVS_STATUS 28
  if falling.isEmpty then s.perfVolt else s

/-- A request: the sequence runs now, or again at the end of the one in progress. -/
def perfAsk (s : State) : State := if s.pow.avs = 0 then s.perfRun else s.setPow { s.pow with again := true }

/-- What a commit, an entry to OFF or a wake asks of the sequencer: nothing where clocks and voltage are right, nor in SAFE
(R316). -/
def perfCheck (s : State) : State :=
  if s.mode != .safe && (((List.range 4).any fun e => s.awake (domErg e) && s.curPoint e != s.limited (s.effPoint e)) ||
      (s.avsOn && s.coreTarget != s.rf PWR_AVS_STATUS 0 10)) then s.perfAsk else s

/-- The sequence runs again where a request came during it. -/
def perfAgain (s : State) : State := if s.pow.avs = 0 ∧ s.pow.again then s.perfRun else s

/-- AVSBus has been switched on or off (R330): a sequence that waits for a transfer goes on without it. -/
def avsSwitched (s : State) : State :=
  if ¬ s.avsOn ∧ (s.pow.avs = 2 ∨ s.pow.avs = 3) then s.perfRise.perfAgain else s.perfCheck

/-- An erg's clock has been switched to the point of the sequence. -/
def clockSwitch (s : State) (e : Nat) : State :=
  let done := fun (s : State) => (s.setPoint e (s.seqPoint e)).clrBit (PWR_ERG_PERF_STATUS e) 2
  if s.pow.avs = 1 ∧ s.pow.falling.contains e then
    let s := (done s).setPow { s.pow with falling := s.pow.falling.erase e }
    if s.pow.falling.isEmpty then s.perfVolt.perfAgain else s
  else if s.pow.avs = 5 ∧ s.pow.rising.contains e then
    let s := (done s).setPow { s.pow with rising := s.pow.rising.erase e }
    if s.pow.rising.isEmpty then s.perfEnd.perfAgain else s
  else s

/-- The Voltage command has written the target. -/
def avsWrite (s : State) : State :=
  if s.pow.avs ≠ 2 ∨ ¬ s.avsOn then s
  else (s.setFld PWR_AVS_STATUS 0 10 s.seqTarget).setPow { s.pow with avs := 3, avsAt := s.time.clk }

/-- TIMEOUT_US in cycles of 4 ns. -/
def avsLimit (s : State) : Nat := s.rf PWR_AVS_CFG 8 8 * 250

/-- Time passes until `n` cycles after the instant `a`. -/
def elapseFrom (s : State) (a n : Nat) : State := s.elapse (a + n - s.time.clk)

/-- The failure of R329: the ergs run at points that the last voltage read back supports. -/
def avsFailed (s : State) : State :=
  let mv := s.rf PWR_AVS_STATUS 16 10
  let s := ((s.setBit PWR_AVS_STATUS 29).setBit PWR_IRQ_STATUS 2).raise 54 (s.rf PWR_AVS_STATUS 0 10) mv
  let s := s.setPow { s.pow with avsBad := true }
  let s := s.each (List.range 4) fun s e =>
    if s.awake (domErg e) then (s.setPoint e (s.limited (s.effPoint e))).clrBit (PWR_ERG_PERF_STATUS e) 2 else s
  ((s.setPow { s.pow with avs := 0, falling := [], rising := [] }).clrBit PWR_AVS_STATUS 28).perfAgain

/-- An answer of the regulator: a read-back of 3.2 µs, within TIMEOUT_US of the write, with which the voltage is reached where
it lies within 5 mV; or a status that reports a fault, while the sequence waits for the regulator. -/
def avsReadback (s : State) (a : AvsAnswer) : State :=
  if ¬ s.avsOn then s else
  match a with
  | .fault => if 2 ≤ s.pow.avs ∧ s.pow.avs ≤ 4 then s.avsFailed else s
  | .volts mv =>
    if s.pow.avs ≠ 3 ∨ s.pow.avsAt + s.avsLimit < s.time.clk + 800 then s else
    let s := (s.elapse 800).setFld PWR_AVS_STATUS 16 10 mv
    let t := s.rf PWR_AVS_STATUS 0 10
    if mv ≤ t + 5 ∧ t ≤ mv + 5 then s.setPow { s.pow with avs := 4, avsAt := s.time.clk, avsBad := false } else s

/-- TIMEOUT_US has passed. -/
def avsTimeout (s : State) : State :=
  if ¬ s.avsOn ∨ s.pow.avs ≠ 3 then s else (s.elapseFrom s.pow.avsAt s.avsLimit).avsFailed

/-- SETTLE_US has ended. -/
def avsSettled (s : State) : State :=
  if s.pow.avs ≠ 4 then s else ((s.elapseFrom s.pow.avsAt (s.rf PWR_AVS_CFG 16 8 * 250)).perfRise).perfAgain

/-- A raise of VDD_CORE that belongs to a wake from OFF (R314): the target is written, and a read-back within 5 mV of it, whose
value is open, has come. -/
def wakeRaise (s : State) : State :=
  match s.draw with
  | (w, s) => (s.setFld PWR_AVS_STATUS 0 10 s.coreTarget).setFld PWR_AVS_STATUS 16 10 (s.coreTarget - 5 + w.toNat % 11)

/-- An erg that becomes ready takes its effective point (R314, R326), a faster one than VDD_CORE supports only after a raise:
where a sequence runs, at its end; in SAFE, where the sequencer rests, not at all. -/
def ergPoint (s : State) (e : Nat) : State :=
  let p := s.limited (s.effPoint e)
  if ¬ s.avsOn then (s.setPoint e p).when (s.pow.avs != 0) fun s => s.setPow { s.pow with again := true }
  else
    let mv := s.rf PWR_AVS_STATUS 0 10
    if s.pow.avs ≠ 0 then (s.setPoint e (max p (pointWithin (min mv s.seqTarget)))).setPow { s.pow with again := true }
    else if s.mode = .safe then s.setPoint e (max p (pointWithin mv))
    else (s.when (decide (mv < pointMv p)) wakeRaise).setPoint e p

/-! ### Entry (R319 to R322) -/

/-- Idle time expires without an ON vote: entry to the low state begins, once the lanes of a quad allow it. -/
def idleExpire (s : State) (d : Nat) : State :=
  match s.idleEnd d with
  | none => s
  | some e =>
    let s := s.elapse (e - s.time.clk)
    let goal := s.goalOf d
    if goal = 0 then s
    else
      let s := (s.setPhase d 0 1).idleStop d
      s.setPow { s.pow with goal := s.pow.goal.set d goal }

/-- What an erg loses in OFF (R322). -/
def ergOff (s : State) (e : Nat) : State :=
  let keep := fun (x : Nat × Nat) => x.1 / 2 ^ 24 % 8 != e
  let f := s.fwd.getD e {}
  { s with
    tabs := s.tabs.filter keep
    tbank0 := s.tbank0.filter keep
    tbank1 := s.tbank1.filter keep
    ergs := s.ergs.set e {}
    fwd := s.fwd.set e { inbound := f.inbound, source := f.source } }

/-- What the MAC of a port keeps beside its registers when its domain goes off: what stands behind the fields that hold their
values (R140). -/
def keptMac (m : MacState) : MacState :=
  { ends := m.ends, since := m.since, holdoffAt := m.holdoffAt, verifies := m.verifies, dwellAt := m.dwellAt }

/-- The ports of a quad's or the field domain. -/
def domPorts (d : Nat) : List Nat :=
  if 13 ≤ d ∧ d < 21 then (List.range 4).map ((d - 13) * 4 + ·) else if d = domField then (List.range 32).map (32 + ·) else []

/-- The ports of a domain lose their receive FIFO content, the frames they receive and what their MACs keep (R322); a frame
part of which has gone to its erg ends there. -/
def portsOff (s : State) (d : Nat) : State :=
  let mine := s.frames.filter fun f => (domPorts d).contains f.port && (f.stage == .waiting || !f.lastIn)
  let s := s.each mine fun s f => if f.stage = .waiting ∨ f.stage = .dropped then s.dropFrame f.id else s.frameBad f
  s.each (domPorts d) fun s p => s.setMac p (keptMac (s.mac p))

/-- A domain's supply has been switched off: only its keep list survives. It stays where it was, in the stores of the registers
and the tables, which stand for the domain's image in always-on memory while it is OFF: a reconcile (R72) writes into it there,
and a wake restores it (R321; DESIGN CHOICE, log entry 124). NVMIF loses the state of its transfers alone (R322). -/
def domainOff (s : State) (d : Nat) : State :=
  let s := s.portsOff d
  let s := if d = domNvm then s
    else { s with regs := sparseMap regReset (fun o v => if domOfReg o = d then keptValue o v else v) s.regs }
  let s := s.setFld (PWR_D_STATUS d) 0 4 2
  if 6 ≤ d ∧ d < 10 then (s.ergOff (d - 6)).perfCheck
  else if d = domCaravan then s.caravanOff
  else s

/-- Entry is complete: clocks stopped, or the keep list saved and the supply open; never in SAFE (R316). -/
def entryComplete (s : State) (d : Nat) : State :=
  if s.domPhase d ≠ 1 ∨ s.mode = .safe then s else
  let goal := s.pow.goal.getD d 1
  let s := s.elapseFrom (s.domSince d) (ceilDiv (entryNs d goal) 4)
  if goal = 2 then s.domainOff d else s.setFld (PWR_D_STATUS d) 0 4 1

/-! ### Wake (R314, R321, R322) -/

/-- A word of the keep list that a restore finds wrong: corrected, or else what it held has its reset value (R322, R334). A
word outside the domain's partition is none of its keep list. -/
def keepErr (s : State) (d : Nat) (k : KeepErr) : State :=
  if ¬ inPartition d k.word then s
  else if k.corrected then s.raise 19 k.word
  else
  let s := (s.setBit PWR_IRQ_STATUS 5).raise 55 d k.word
  match k.copy with
  | 0 => if domOfReg k.off = d ∧ ¬ regStaged k.off then s.setReg k.off (regReset k.off) else s
  | 1 => if domOfReg k.off = d ∧ regStaged k.off then s.setCfg false k.off (regReset k.off) else s
  | 2 => if domOfReg k.off = d ∧ regStaged k.off then s.setCfg true k.off (regReset k.off) else s
  | 3 => if d = domCaravan ∧ k.off < 64 then s.setTabB false tblProfile 4 k.off 0 else s
  | 4 => if d = domCaravan ∧ k.off < 64 then s.setTabB true tblProfile 4 k.off 0 else s
  | _ => s

/-- A region awaits reload (R87). -/
def reloadRegion (s : State) (r : Nat) : State :=
  let s := (s.setBit CRS_RELOAD r).setBit CRS_IRQ_STATUS 4
  { s with crest := { s.crest with reloadAt := s.crest.reloadAt.set r s.time.clk } }

/-- What a domain does when it is ready from OFF. -/
def afterOff (s : State) (d : Nat) : State :=
  if 6 ≤ d ∧ d < 10 then s.reloadRegion (d + 4)
  else if d = domCaravan then (s.withCvn { s.cvn with tick := s.rawNs }).reloadRegion 15
  else if 13 ≤ d ∧ d < 21 then
    s.each (domPorts d) fun s p => (s.storedTxEq [p]).enterState [p] p 0
  else if d = domField then s.fieldCommit
  else s

/-- The domain is ready. -/
def domainReady (s : State) (d : Nat) (bad : List KeepErr) : State :=
  let st := s.domState d
  let began := s.domSince d
  let s := s.elapseFrom began (ceilDiv (readyNs d st) 4)
  let s := (s.setFld (PWR_D_STATUS d) 0 4 0).bump (PWR_D_WAKES d)
  let s := s.setFld (PWR_D_LAST_WAKE d) 0 20 (min (2 ^ 20 - 1) ((s.time.clk - began) * 4))
  let s := (s.setPow { s.pow with signal := s.pow.signal.filter fun q => domQuad q != d }).idleStop d
  let s := if st = 2 then (s.each bad fun s k => s.keepErr d k).afterOff d else s
  if 6 ≤ d ∧ d < 10 then ((s.scanFromNow (d - 6)).ergPoint (d - 6)).perfCheck else s

/-- A lane of a quad in RET detects a received signal (R318). -/
def signalWake (s : State) (p : Nat) : State :=
  if ¬ p < 32 ∨ s.domState (domQuad (p / 4)) ≠ 1 ∨ s.pow.signal.contains (p / 4) then s
  else (s.setPow { s.pow with signal := s.pow.signal ++ [p / 4] }).revote (domQuad (p / 4))

/-- A stored vote or low-state setting has changed (R319): the domain wakes where its votes ask for it, or where it is now
deeper than LOW. -/
def voted (s : State) (d : Nat) : State :=
  let s := s.revote d
  if s.lowOf d < s.domState d then s.wake d else s

end State

/-! ### The commands -/

/-- DOMAIN_IDLE_EXPIRE, R319 -/
def execDomainIdleExpire (d : Nat) (s : State) : Result := finish (if d < 22 then s.idleExpire d else s)

/-- DOMAIN_ENTRY_COMPLETE, R321 -/
def execDomainEntryComplete (d : Nat) (s : State) : Result := finish (if d < 22 then s.entryComplete d else s)

/-- PERF_CLOCK_SWITCH, R328 -/
def execPerfClockSwitch (e : Nat) (s : State) : Result := finish (s.clockSwitch e)

/-- AVS_WRITE, R329 -/
def execAvsWrite (s : State) : Result := finish s.avsWrite

/-- AVS_READBACK, R329 -/
def execAvsReadback (a : AvsAnswer) (s : State) : Result := finish (s.avsReadback a)

/-- AVS_TIMEOUT, R329 -/
def execAvsTimeout (s : State) : Result := finish s.avsTimeout

/-- AVS_SETTLE_DONE, R328 -/
def execAvsSettleDone (s : State) : Result := finish s.avsSettled

/-- LOW_POWER_SIGNAL_DETECT, R318 -/
def execLowPowerSignalDetect (p : Nat) (s : State) : Result := finish (s.signalWake p)

end Sys2Proof.Machine
end

