-- ==== Sys2Proof/Machine/Rx.lean ====
section
/-! DEFINITION. Reception (R47, R75, R113 to R118, R123, R131): stamping, the acceptance checks, and reassembly. -/

namespace Sys2Proof.Machine

namespace State

/-! ### Stamps (R75, R142) -/

/-- The bank of a frame whose corrected stamps are `cnt` (R75): a stamp at or past an armed T* takes the pending bank;
one before T*, once the time base has passed it, the old bank, though the drain may have ended; one before T* of a time base that
has been stepped or set back below T* since the commit, the new bank, as the commit stands (DESIGN CHOICE, log entry 160). -/
def stampBank (s : State) (cnt : List Nat) : Bool :=
  let t := totalNs (cnt.getD s.crest.tb 0)
  match s.crest.phase with
  | .armed => if s.crest.tstar ≤ t then !s.crest.bank else s.crest.bank
  | .draining | .reconciling =>
    if t < s.crest.tstar ∧ s.crest.tstar ≤ totalNs (s.count s.crest.tb) then !s.crest.bank else s.crest.bank
  | _ => s.crest.bank

/-- The FEC of the largest delay that a lane port's configuration allows (R91). -/
def maxFec (s : State) (b : Bool) (p : Nat) : Nat :=
  let c := s.cfg b (LNE_L_CFG (if s.quad100 b p then p / 4 * 4 else p))
  let fec := bits c 2 2
  let an := bit c 4
  match s.portType b p with
  | .r100 => if an || s.cbit b (LNE_QUAD_CFG (p / 4)) 1 then 2 else 0
  | .r25 => if fec = 1 then 1 else if fec = 2 ∨ (fec = 3 ∧ an) then 2 else 0
  | .r10 => fec % 2
  | .x1 => 0

/-- Nominal receive delay of a port's type in tenths of a nanosecond, with the largest FEC delay its configuration
allows (R91, R106, R142). -/
def nominalDelay (s : State) (b : Bool) (p : Nat) : Nat :=
  if 32 ≤ p then 16000 else (stageDelay (s.portType b p)).1 + (fecDelay (s.portType b p) (s.maxFec b p)).1

/-- Data rate of a lane or field port as its configuration gives it, in Mb/s (R142). -/
def portMbps (s : State) (b : Bool) (p : Nat) : Nat :=
  if p < 32 ∧ ¬ s.quad100 b p then [25000, 10000, 1000, 25000].getD (s.cf b (LNE_L_CFG p) 0 2) 25000
  else if p < 32 then 100000 else 10

/-- Order stamp of a frame of `n` bytes from a lane or field port at raw count `raw` (R142). -/
def orderStamp (s : State) (b : Bool) (p raw n : Nat) : Nat :=
  let skew := s.cf b (ERG_PRS_PORT (ergOf p) (portIndex p)) 8 8
  let h := min n 192 * 800000 / s.portMbps b p + s.nominalDelay b p * 10 + skew * 100
  (raw * 100 + h * nsUnit) / (100 * nsUnit)

/-! ### The receive FIFO (R118) -/

/-- Bytes of a port's receive FIFO. -/
def fifoSize (s : State) (p : Nat) : Nat := if 32 ≤ p then 1024 else if s.quad100 s.crest.bank p then 32768 else 8192

/-- A frame no byte of which has left its FIFO: it waits for an engine, whether or not its express lookup is done (R20). -/
def inFifo (f : Frame) : Bool := f.stage == .waiting && !f.second

/-- Bytes that stand in a port's FIFO. -/
def fifoFill (s : State) (p : Nat) : Nat := ((s.frames.filter fun f => f.port == p && inFifo f).map (·.bytes.length)).sum

/-! ### The start of a frame -/

/-- A port may receive (R30, R99, R276): its link is up, and the device forwards or takes recovery frames. -/
def mayReceive (s : State) (p : Nat) : Bool := Nat.blt p 64 && s.linkUp p && (s.forwarding || s.mode == .recovery)

/-- A frame's destination address crosses the receive balls: stamped, given its bank, counted; the erg and the oasis
wake (R75, R318, R323). -/
def newFrame (s : State) (p : Nat) (dev : Int) (bytes : Bytes) : State :=
  let (cnt, raw) := s.stamps (s.stampShift (TMB_PORT_RX_DLY p) p dev)
  let b := s.stampBank cnt
  let full := Nat.ble (s.fifoSize p) (s.fifoFill p)
  let f : Frame := {
    id := s.nextId, port := p, bytes, bank := b, cnt, raw, order := s.orderStamp b p (raw.getD 0 0) bytes.length,
    root := s.nextId, overflow := full, stage := if full then .dropped else .waiting }
  let s := { s with frames := s.frames ++ [f], nextId := s.nextId + 1 }
  let s := if p < 32 then s.clrBit (MAC_EEE_STATUS p) 1 else s
  ((s.wake (domErg (ergOf p))).wake domOasis).wake (domOfPort p)

/-- FRAME_RX_START -/
def rxStart (s : State) (rx : RxStart) : State :=
  let s := s.elapse rx.wait
  if s.mayReceive rx.port then s.newFrame rx.port rx.dev rx.bytes else s

/-! ### The checks (R115, R116) -/

end State

/-- Why a received frame is not accepted, in the order of R116. -/
inductive RxReason where
  | ok | disabled | fifo | code | fragment | undersize | jabber | oversize | fcs | control | preempt
  deriving DecidableEq, Repr

namespace State

/-- The first row of R116 that applies to a frame, `pre` telling of a reassembly error (R131). -/
def rxReason (s : State) (f : Frame) (code ovf pre : Bool) : RxReason :=
  let n := f.bytes.length
  let good := fcsGood f.bytes
  if ¬ s.cbit f.bank (MAC_CFG f.port) 0 then .disabled
  else if ovf then .fifo
  else if code then .code
  else if n < 64 then (if good then .undersize else .fragment)
  else if s.maxFrame f.bank f.port < n then (if good then .oversize else .jabber)
  else if ¬ good then .fcs
  else if be16 f.bytes 12 = 0x8808 then .control
  else if pre then .preempt
  else .ok

/-- What every received frame counts (R140): octets, frames, its size. -/
def countRx (s : State) (f : Frame) : State :=
  let n := f.bytes.length
  let s := ((s.stat f.port 0 n).stat f.port 2 1).bwRx f.port n
  if 64 ≤ n ∧ n ≤ s.maxFrame f.bank f.port then s.stat f.port (7 + sizeBin n) 1 else s

/-- What an accepted frame counts. -/
def countOk (s : State) (f : Frame) : State :=
  (((s.stat f.port 1 f.bytes.length).stat f.port 3 1).stat f.port (4 + castIndex (beAt f.bytes 0 6)) 1).rawCtr f.port 0

/-- A MAC control frame is counted (R123): PAUSE and PFC on lane ports, everything else unsupported. -/
def countControl (s : State) (f : Frame) : State :=
  let op := be16 f.bytes 14
  if f.port < 32 ∧ op = 1 then (s.stat f.port 23 1).rawCtr f.port 6
  else if f.port < 32 ∧ op = 0x0101 then (s.stat f.port 24 1).rawCtr f.port 6
  else (s.stat f.port 25 1).rawCtr f.port 7

/-- What the outcome of the checks counts. -/
def countReason (s : State) (f : Frame) (r : RxReason) : State :=
  match r with
  | .ok => s.countOk f
  | .disabled => (s.stat f.port 22 1).rawCtr f.port 7
  | .fifo => (s.stat f.port 21 1).rawCtr f.port 5
  | .code => (s.stat f.port 19 1).rawCtr f.port 4
  | .fragment => (s.stat f.port 16 1).rawCtr f.port 2
  | .undersize => (s.stat f.port 15 1).rawCtr f.port 2
  | .jabber => (s.stat f.port 18 1).rawCtr f.port 3
  | .oversize => (s.stat f.port 17 1).rawCtr f.port 3
  | .fcs => ((s.stat f.port 14 1).rawCtr f.port 1).when (fcsStomped f.bytes) fun s => s.stat f.port 20 1
  | .control => s.countControl f
  | .preempt => (s.stat f.port 26 1).rawCtr f.port 7

/-- FEC counters of a frame's codewords (R105). -/
def countFec (s : State) (p corr uncorr : Nat) (sym : List Nat) : State :=
  if 32 ≤ p ∨ s.rf (LNE_L_STATE p) 9 2 = 0 then s else
  let s := (s.bumpBy (LNE_L_FEC_CORR p) corr).bumpBy (LNE_L_FEC_UNCORR p) uncorr
  if s.rf (LNE_L_STATE p) 9 2 = 1 then s
  else s.each (s.lanesOf s.crest.bank p) fun s l => s.bumpBy (LNE_L_FEC_SYMERR l) (sym.getD (l % 4) 0)

/-- The ROM takes update frames in RECOVERY entered from LOAD and discards every other (R379). -/
def recoveryFrame (s : State) (f : Frame) : State :=
  let skip := (List.range 3).find? fun n => be16 f.bytes (12 + 4 * n) == s.cf s.crest.bank (0x60000 + 0x014) 16 16
  let s := s.dropFrame f.id
  if skip.isSome ∧ frameDa f = s.deviceMac ∧ s.recoveryPort f.port then
    { s with boot := { s.boot with inband := s.boot.inband ++ [(f.port, f.bytes)] } }
  else s

/-- The last byte of a frame has come and its checks are made (R115, R123, R134, R245, R272). -/
def rxFinish (s : State) (f : Frame) (code ovf pre : Bool) : State :=
  let ovf := ovf || f.overflow || (inFifo f && Nat.blt (s.fifoSize f.port) (s.fifoFill f.port))
  let r := s.rxReason f code ovf pre
  let s := (s.countRx f).countReason f r
  let s := if isField f.port ∧ f.bytes.length < 64 ∧ ¬ fcsGood f.bytes then s.stormEvent f.port else s
  match r with
  | .ok =>
    if f.stage = .dropped then s.dropFrame f.id
    else if ¬ s.forwarding then s.recoveryFrame f
    else if f.stage = .waiting ∧ s.isClaim f then s.claimReceived f
    else s.frameWhole f
  | .control => (if f.port < 32 then s.pauseReceived f else s).dropFrame f.id
  | _ => s.frameBad f

/-- The frame being reassembled on a port. -/
def reassembling (s : State) (f : Frame) : Bool := (s.mac f.port).reasm.any fun r => r.frame == f.id

/-- FRAME_RX_END -/
def rxEnd (s : State) (id : Nat) (rx : RxEnd) : State :=
  let s := s.elapse rx.wait
  match s.frame id with
  | none => s
  | some f =>
    if f.lastIn ∨ 64 ≤ f.port ∨ s.reassembling f then s
    else (s.countFec f.port rx.fecCorr rx.fecUncorr rx.fecSym).rxFinish f (rx.codeErr || rx.fecUncorr != 0) rx.overrun false

/-! ### Reassembly (R131) -/

/-- Reassembly state of a port replaced. -/
def setReasm (s : State) (p : Nat) (r : Option Reasm) : State := s.setMac p { s.mac p with reasm := r }

/-- What a reassembly error counts, in the bank of its frame (R114, R116): row 1, row 3 or row 10. -/
def countReasmError (s : State) (p : Nat) (bank code : Bool) : State :=
  if ¬ s.cbit bank (MAC_CFG p) 0 then (s.stat p 22 1).rawCtr p 7
  else if code then (s.stat p 19 1).rawCtr p 4
  else (s.stat p 26 1).rawCtr p 7

/-- A reassembly ends without a frame: what there is of it is bad. `code` tells of an error of the mPacket that ends it; one that
belongs to no frame is judged in the active bank. -/
def reassemblyError (s : State) (p : Nat) (code : Bool) : State :=
  match (s.mac p).reasm with
  | none => s.countReasmError p s.crest.bank code
  | some r =>
    let s := s.setReasm p none
    match s.frame r.frame with
    | none => s
    | some f => (s.countReasmError p f.bank r.code).frameBad f

/-- The bytes of a frame being reassembled as the pipeline sees them: what is still to come reads 0 there. -/
def reasmBytes (bytes : Bytes) (total : Nat) : Bytes := bytes ++ List.replicate (total - bytes.length) 0

/-- The frame is whole: its order stamp takes its length, and the checks of R115 apply. -/
def reassembled (s : State) (p id : Nat) (bytes : Bytes) (mcrcOk code : Bool) : State :=
  let s := s.setReasm p none
  match s.frame id with
  | none => s
  | some f =>
    let f := { f with bytes, order := s.orderStamp f.bank p (f.raw.getD 0 0) bytes.length }
    (s.setFrame f).rxFinish f code false (!mcrcOk)

/-- More of a frame has come. -/
def reasmMore (s : State) (p : Nat) (r : Reasm) : State :=
  let s := s.setReasm p (some r)
  match s.frame r.frame with
  | none => s
  | some f => s.setFrame { f with bytes := reasmBytes r.bytes f.bytes.length }

/-- A start mPacket: the frame before it, if not whole, is an error; with EN 0 in the frame's bank it is a code error itself. -/
def startRx (s : State) (p : Nat) (fr : Fragment) (code : Bool) : State :=
  let s := if (s.mac p).reasm.isSome then s.reassemblyError p false else s
  let s := s.newFrame p fr.dev (if fr.final then fr.bytes else reasmBytes fr.bytes fr.total)
  let id := s.nextId - 1
  match s.frame id with
  | none => s
  | some f =>
    if ¬ s.cbit f.bank (MAC_PREEMPT_CFG p) 0 then s.rxFinish f true false false
    else if fr.final then s.reassembled p id fr.bytes fr.mcrcOk code
    else s.setReasm p (some { bytes := fr.bytes, next := 0, frame := id, code })

/-- A continuation mPacket: of a frame being reassembled in the bank of that frame, else where EN is 1 an error. -/
def moreRx (s : State) (p : Nat) (fr : Fragment) (code : Bool) : State :=
  match (s.mac p).reasm with
  | none => if s.cbit s.crest.bank (MAC_PREEMPT_CFG p) 0 then (s.stat p 27 1).reassemblyError p code else s
  | some r =>
    let s := s.stat p 27 1
    if fr.count % 4 ≠ r.next then s.reassemblyError p false
    else if fr.final then s.reassembled p r.frame (r.bytes ++ fr.bytes) fr.mcrcOk (r.code || code)
    else s.reasmMore p { r with bytes := r.bytes ++ fr.bytes, next := (r.next + 1) % 4, code := r.code || code }

/-- A received mPacket. -/
def fragmentRx (s : State) (p : Nat) (fr : Fragment) : State :=
  let s := s.elapse fr.wait
  if ¬ s.mayReceive p then s else
  let s := s.countFec p fr.fecCorr fr.fecUncorr fr.fecSym
  let code := fr.codeErr || fr.fecUncorr != 0
  if fr.start then s.startRx p fr code else s.moreRx p fr code

end State

/-! ### The commands -/

/-- FRAME_RX_START, R75 -/
def execFrameRxStart (rx : RxStart) (s : State) : Result := finish (s.rxStart rx)

/-- FRAME_RX_END, R115 -/
def execFrameRxEnd (id : Nat) (rx : RxEnd) (s : State) : Result := finish (s.rxEnd id rx)

/-- PREEMPT_FRAGMENT_RX, R131 -/
def execPreemptFragmentRx (p : Nat) (fr : Fragment) (s : State) : Result := finish (if p < 32 then s.fragmentRx p fr else s)

end Sys2Proof.Machine
end

