-- ==== Sys2Proof/Machine/Reply.lean ====
section
/-! DEFINITION. Messages on their two paths (R377 to R379): what arrives, and the replies (R382). -/

namespace Sys2Proof.Machine

/-- Place of the message in an in-band frame: after the EtherType that follows its VLAN tags; the tags are skipped while
the EtherType is not the management one (R379). -/
def messageStart (ety : Nat) (b : Bytes) : Option Nat :=
  ((List.range 3).find? fun n => be16 b (12 + 4 * n) == ety).map fun n => 14 + 4 * n

namespace State

/-- Boot state replaced. -/
def setBoot (s : State) (b : Boot) : State := { s with boot := b }

/-- The management EtherType (R391). -/
def inbandType (s : State) : Nat := s.cf s.crest.bank (NVM 0x014) 16 16

/-- The mailbox's message, as many bytes as its header says, and its tag. -/
def mailbox (s : State) : Bytes := (List.range 1040).flatMap fun i => leBytes 4 (s.reg (NVM 0x1000 + 4 * i))

/-- The header of a reply: the request's, with its type marked, the status, the last accepted counter, the length and the
CRC (R377, R378). -/
def replyHead (s : State) (a : Asked) (status : Nat) (payload : Bytes) : Bytes :=
  let h := a.head
  let b := leBytes 2 1 ++ [byteAt h 2 ||| 0x80, BitVec.ofNat 8 status] ++ (h.drop 4).take 4 ++ leBytes 4 (s.reg (NVM 0x024)) ++
    (h.drop 12).take 2 ++ leBytes 2 payload.length ++ (h.drop 16).take 4
  b ++ leBytes 4 (crc32c (b ++ payload)) ++ List.replicate 8 0

/-- A whole reply with its tag; without a header there is no MGMT_KEY, and the tag is open. -/
def replyBytes (s : State) (a : Asked) (status : Nat) (payload : Bytes) : State × Bytes :=
  let m := s.replyHead a status payload ++ payload
  if s.boot.header then (s, m ++ hmacSha256 s.mgmtKey m)
  else match s.drawBytes 32 with | (s, t) => (s, m ++ t)

/-- A reply in NVM_MBX_OUT (R379). -/
def mailboxReply (s : State) (b : Bytes) : State :=
  let s := s.each (List.range 32) fun s i => s.setReg (NVM 0x3000 + 4 * i) (ofLe ((b.drop (4 * i)).take 4))
  ((s.clrBit (NVM 0x020) 1).setBit (NVM 0x020) 2).setBit (NVM 0x030) 0

/-- A reply to an in-band message: to the source address, on the ingress port, sent with BYPASS (R379), in class 0. -/
def inbandReply (s : State) (p : Nat) (front b : Bytes) : State :=
  s.sendDirect ((front.drop 6).take 6 ++ beBytes 6 s.deviceMac ++ front.drop 12 ++ b) p 0 6 none false

/-- A reply. -/
def reply (s : State) (a : Asked) (status : Nat) (payload : Bytes) : State :=
  match s.replyBytes a status payload with
  | (s, b) => match a.via with
    | none => s.mailboxReply b
    | some (p, front) => s.inbandReply p front b

/-- A message answered with the counts of its status (R382): a refused one raises its fault source. -/
def answer (s : State) (a : Asked) (status : Nat) (payload : Bytes) : State :=
  let s := if status = 0 then (s.bump (NVM 0x100)).event 6 10 1
    else if status = 9 then s
    else (((s.bump (NVM 0x104)).setBit (NVM 0x030) 1).raise 23 status (ofLe ((a.head.drop 16).take 4)))
  s.reply a status payload

end State

end Sys2Proof.Machine
end

