-- ==== Sys2Proof/Machine/Crests.lean ====
section
/-! DEFINITION. Crests (R66 to R88): arming, the commit, the drain, the reconcile, the digest and the beacon. -/

namespace Sys2Proof.Machine

/-- The smallest boundary, a multiple of 1,024 ns, that is not earlier than `n` (R74). -/
def boundary (n : Nat) : Nat := roundUp 1024 n

/-- The blocks of a digest region in ascending offset, with their bases (R84). -/
def regionBlocks (r : Nat) : List (Block × Nat) :=
  let mac := fun p => (Block.mac p, MAC p)
  if r = 0 then
    [(.glb, 0), (.tmb, 0x20000), (.pwr, 0x30000), (.flt, 0x40000), (.hst, 0x50000), (.nvm, 0x60000), (.mon, 0x70000)] ++
      [64, 65, 66, 67, 68].map mac
  else if r < 9 then (.lne (r - 1), LNE_QUAD (r - 1)) :: (List.range 4).map fun l => mac (4 * (r - 1) + l)
  else if r = 9 then (List.range 32).map fun j => mac (32 + j)
  else if r < 14 then [(.erg (r - 10), ERG (r - 10))]
  else if r = 14 then [(.oas, 0x800000)]
  else if r = 15 then [(.cvn, 0x900000)]
  else [(.sch, 0xA00000)]

/-- The staged registers of a block in ascending offset. -/
def stagedOffsets (b : Block) (base : Nat) : List Nat :=
  (((b.rows.filter (·.staged)).flatMap fun r => (List.range r.n1).flatMap fun i =>
    (List.range r.n2).map fun j => base + r.base + i * r.s1 + j * r.s2).mergeSort (fun a b => Nat.ble a b)).eraseDups

/-- Region of a table's entries in erg `e` (R83). -/
def TableSpec.regionOf (x : TableSpec) (e : Nat) : Nat := if x.region = 100 then 10 + e else x.region

/-- Erg under which a region's table entries are stored: 4 for device tables. -/
def regionErg (r : Nat) : Nat := if 10 ≤ r ∧ r < 14 then r - 10 else 4

/-- The tables of a kind in a region. -/
def regionTables (r : Nat) (k : TableKind) : List TableSpec :=
  tableSpecs.filter fun x => x.kind == k && x.perErg == decide (regionErg r < 4) && x.regionOf (regionErg r) == r

namespace State

/-- Crest state replaced. -/
def setCrest (s : State) (c : Crest) : State := { s with crest := c }

/-- Code of the crest state (R68). -/
def crestCode (s : State) : Nat :=
  match s.crest.phase with
  | .opened => 0
  | .armed => 1
  | .draining => 2
  | .reconciling => 3

/-- Identifier of the active crest (R73). -/
def crestId (s : State) : Nat := s.cfg s.crest.bank CRS_PEND_CREST_ID

/-! ### Arming (R73, R74, R77) -/

/-- Programmed commit time in nanoseconds. -/
def commitTime (s : State) : Nat :=
  (s.rf CRS_COMMIT_TIME_SEC_HI 0 16 * 2 ^ 32 + s.reg CRS_COMMIT_TIME_SEC_LO) * 1000000000 + s.rf CRS_COMMIT_TIME_NS 0 30

/-- Commits are accepted in this mode (R77). -/
def commitMode (s : State) : Bool :=
  match s.mode with
  | .load | .run | .handover => true
  | .recovery => s.recFromHandover
  | _ => false

/-- GO on a write of `v` to CRS_COMMIT: refused outside OPEN, where nothing else changes. -/
def crestGo (s : State) (v : Nat) : State :=
  if s.crest.phase ≠ .opened ∨ ¬ s.commitMode then (s.bump CRS_COMMIT_REFUSED).setBit CRS_STATUS 5
  else
    let s := s.setReg CRS_COMMIT (v % 32 / 4 * 4)
    let tb := bits v 3 2
    let soon := boundary (totalNs (s.count tb) + 1024)
    let want := boundary s.commitTime
    let late := bit v 2 && Nat.blt want (totalNs (s.count tb) + 1024)
    let tstar := if bit v 2 ∧ ¬ late then want else soon
    (s.when late fun s => (s.setBit CRS_STATUS 4).bump CRS_LATE_COMMITS).setCrest { s.crest with phase := .armed, tstar, tb }

/-- A reply that waited for a commit that will not be made: BUSY (R388). -/
def commitLost (s : State) : State :=
  match s.boot.atCommit with
  | none => s
  | some a => (s.setBoot { s.boot with atCommit := none }).answer a.asked 9 []

/-! ### The commit (R76) -/

/-- Mirage state of an erg replaced. -/
def setMirage (s : State) (e : Nat) (m : Mirage) : State := s.setFw e { s.fw e with mir := m }

/-- What follows the toggle of ACTIVE_BANK from bank `old`: every consumer of the configuration takes the new bank. -/
def commitFollows (s : State) (old : Bool) : State :=
  let s := ((s.eqCommit.fieldCommit).verifyCommit).reattach old (!old)
  let s := (((s.checkAllHeads).gatesMoved (s.setCrest { s.crest with bank := old })).watchLinks).coupleEval
  let s := s.tickMoved (!s.crest.bank)
  let s := s.each (List.range 4) fun s e => s.setMirage e { (s.fw e).mir with running := false, waiting := false, found := false }
  (s.each (List.range 22) fun s d => s.revote d).perfCheck

/-- The mode changes (R29, R31): GLB_MODE.MODE and its interrupt, the coupling mode in force (R247), and on entry to RUN the
watchdog's full time (R341). -/
def setMode (s : State) (m : Mode) : State :=
  if s.mode = m then s else
  let old := s.coupleMode
  let s := { s with mode := m }.setBit GLB_IRQ_STATUS 0
  let s := if m = .run then
      { s with
        pow := { s.pow with ran := true }
        flt := { s.flt with kickAt := s.time.clk, expired := false } }
    else s
  s.coupleModeWas old

/-- The commit instant of the first crest: the ROM jumps to the firmware entry and the lanes start (R99, R373); ledger ticks are
swept and the aging scans paced from here on. -/
def firmwareEntry (s : State) : State :=
  if s.mode = .load ∧ s.boot.stage = 3 then
    let s := s.each (List.range 4) fun s e => s.scanFromNow e
    (((s.withCvn { s.cvn with tick := s.rawNs }).setBoot { s.boot with stage := 4 }).setMode .run).startLanes
  else s

/-- A commit instant as replies carry it: seconds in 6 bytes, nanoseconds in 4 (R388, R389). -/
def instantBytes (at0 : Nat) : Bytes := leBytes 6 (at0 / 1000000000) ++ leBytes 4 (at0 % 1000000000)

/-- A crest image becomes ACTIVE at its commit, and the former one PREVIOUS (R388). -/
def crestActive (s : State) (j : Nat) : State :=
  let s := s.setSlots (((s.slotsOf kindCrest).filter fun i => i != j && s.slotState i == slotActive).map (fun i => (i, slotPrevious)) ++
    [(j, slotActive)])
  (s.setFld (NVM 0) 4 1 (s.slotField j 2 1)).setBit (NVM 0x030) 3

/-- What the firmware does at a commit that it asked for (R388, R389). -/
def commitAnswered (s : State) (at0 : Nat) : State :=
  match s.boot.atCommit with
  | none => s
  | some a =>
    let s := s.setBoot { s.boot with atCommit := none }
    let s := match a.slot with | some j => s.crestActive j | none => s
    s.answer a.asked 0 (a.payload ++ instantBytes at0)

/-- The commit is made, read as `at0` total nanoseconds on its time base. -/
def commitMake (s : State) (at0 : Nat) : State :=
  let old := s.crest.bank
  let oldId := s.crestId
  let s := s.lanesCommit old (!old)
  let s := s.setCrest { s.crest with
    phase := .draining
    bank := !old
    oldId := oldId
    limit := s.rf CRS_DRAIN_LIMIT 0 17
    limitPassed := false
    at0 := s.time.clk
    passing := false }
  let sec := at0 / 1000000000
  let s := ((s.setReg CRS_LAST_COMMIT_SEC_HI (sec / 2 ^ 32 % 2 ^ 16)).setReg CRS_LAST_COMMIT_SEC_LO (sec % 2 ^ 32)).setReg
    CRS_LAST_COMMIT_NS (at0 % 1000000000)
  let s := ((s.wrapFld CRS_COMMIT_COUNT 0 32).clrBit CRS_DIGEST_STATUS 0).setBit CRS_IRQ_STATUS 0
  ((s.commitFollows old).firmwareEntry).commitAnswered at0

/-- A commit may be made: armed, and not in SAFE (R77). -/
def commitDue (s : State) : Bool := s.crest.phase == .armed && s.mode != .safe

/-- An adjustment has carried the time base to T* or beyond: the commit is made there. -/
def commitIfDue (s : State) : State :=
  let n := totalNs (s.count s.crest.tb)
  if s.commitDue ∧ s.crest.tstar ≤ n then s.commitMake n else s

/-- The time base reads T*. -/
def commitAt (s : State) : State :=
  if s.commitDue then (s.elapseTo s.crest.tb (s.crest.tstar * nsUnit)).commitMake s.crest.tstar else s

/-- ABORT: an armed commit returns to OPEN, unless its instant has come, this cycle included: then it is made (R77). -/
def crestAbort (s : State) : State :=
  if s.crest.phase ≠ .armed then s
  else if s.commitDue ∧ s.crest.tstar ≤ totalNs (s.count s.crest.tb) then s.commitAt
  else ((s.setCrest { s.crest with phase := .opened }).setBit CRS_STATUS 7).commitLost

/-! ### The drain (R79 to R82) -/

/-- The drain count of the old bank has reached 0. -/
def drained (s : State) : State :=
  if s.crest.phase ≠ .draining ∨ s.drainCount (!s.crest.bank) ≠ 0 then s
  else
    (s.setReg CRS_DRAIN_TIME (min (2 ^ 17 - 1) ((s.time.clk - s.crest.at0) / 250))).setCrest { s.crest with phase := .reconciling }

/-- A frame not yet queued that the drain limit overtakes: a reserved one breaks its bound (R27, R81). -/
def expireEarly (s : State) (f : Frame) : State :=
  let port := match f.dec.dest with | .port p => p | _ => 127
  let s := match f.stage, s.reservation f.bank f.dec.handle with
    | .decided, some r => s.violation r port 2 0
    | _, _ => s
  let s := s.traceDone f none 5
  if f.lastIn then s.dropFrame f.id else s.setFrame { f with stage := .dropped }

/-- The copies of a queued frame that have not been started: discarded; substitutes and probes are not counted (R80). -/
def unsentCopies (s : State) (f : Frame) : List Copy :=
  (s.copiesOf f.id).filter fun c => c.kind != 3 && c.kind != 4 && !c.started

/-- The drain limit overtakes a frame. -/
def expireFrame (s : State) (f : Frame) : State :=
  if f.stage = .stored then s.each (s.unsentCopies f) fun s c => (s.discardViolation c).discardCopy c else s.expireEarly f

/-- The drain limit passes (R81); the copies that become heads are checked (R435). -/
def drainLimit (s : State) : State :=
  if s.crest.phase ≠ .draining ∨ s.crest.limitPassed then s else
  let s := s.elapseFrom s.crest.at0 (s.crest.limit * 250)
  let old := !s.crest.bank
  let fs := s.frames.filter fun f => f.bank == old && s.counted f && (f.stage != .stored || !(s.unsentCopies f).isEmpty)
  let s := s.checkHeads (fs.flatMap s.unsentCopies) fun s => s.each fs fun s f => s.expireFrame f
  let s := s.bumpBy CRS_CREST_EXPIRED (fs.map (·.root)).eraseDups.length
  (((s.setCrest { s.crest with limitPassed := true }).setBit CRS_STATUS 8).setBit CRS_IRQ_STATUS 2).raise 5 s.crest.oldId

/-! ### The reconcile (R72) -/

/-- Pending flag of a crested entry set equal to its active flag. -/
def reconcileEntry (b : Bool) (k v : Nat) : Nat :=
  match tableSpec (k / 2 ^ 27) with
  | some x => if x.kind = .crested then setBits v (x.width - 2 + b2n (!b)) 1 (b2n (validIn x.width b v)) else v
  | none => v

/-- The copy from active to pending is complete: the state is OPEN and a scrub pass starts (R72, R85). -/
def reconcileDone (s : State) : State :=
  if s.crest.phase ≠ .reconciling then s else
  let b := s.crest.bank
  let s := { s with
    bank0 := if b then s.bank1 else s.bank0
    bank1 := if b then s.bank1 else s.bank0
    tbank0 := if b then s.tbank1 else s.tbank0
    tbank1 := if b then s.tbank1 else s.tbank0
    tabs := sparseMap tableReset (reconcileEntry b) s.tabs }
  (s.setCrest { s.crest with phase := .opened, passing := true }).setBit CRS_IRQ_STATUS 1

/-! ### The digest (R83 to R86) -/

/-- Bytes that the register half of a region feeds: staged registers, then banked fields by table, entry and word. -/
def regionRegBytes (s : State) (r : Nat) : Bytes :=
  let b := s.crest.bank
  let regs := (regionBlocks r).flatMap fun x => (stagedOffsets x.1 x.2).flatMap fun o => leBytes 4 o ++ leBytes 4 (s.cfg b o)
  let fields := (regionTables r .banked).flatMap fun x => (List.range x.entries).flatMap fun i =>
    (List.range (x.width / 32)).flatMap fun w =>
      leBytes 4 (Config.bankedOffset x.num (i * (x.width / 32) + w)).toNat ++
        leBytes 4 (bits (s.tabBE b x.num (regionErg r) i) (32 * w) 32)
  regs ++ fields

/-- Bytes that the table half of a region feeds: the crested entries valid in the active bank. -/
def regionTabBytes (s : State) (r : Nat) : Bytes :=
  (regionTables r .crested).flatMap fun x => ((s.listed x.num (regionErg r)).filter fun y => validIn x.width s.crest.bank y.2).flatMap
    fun y => leBytes 2 x.num ++ leBytes 4 y.1 ++ leBytes (x.width / 8) (tableContent x.num x.width y.2)

/-- Every domain that holds something of a region (R84, R314). -/
def regionDomains (r : Nat) : List Nat :=
  if r = 9 then [domField]
  else if r < 14 then ((regionBlocks r).map fun x => x.1.domain).eraseDups
  else if r = 14 then [domOasis]
  else if r = 15 then [domCaravan]
  else [domSched]

/-- The scrubber reads the region: every domain is ON and no reload is awaited (R85, R87). -/
def regionLive (s : State) (r : Nat) : Bool := (regionDomains r).all s.awake && !s.rbit CRS_RELOAD r

/-- The CRC of one region of one half: computed where the scrubber reads it, else as before. -/
def scrubRegion (s : State) (r : Nat) : State :=
  if s.regionLive r then
    (s.setReg (CRS_REGION_REG r) (crc32c (s.regionRegBytes r))).setReg (CRS_REGION_TAB r) (crc32c (s.regionTabBytes r))
  else s

/-- The digest is compared with the reference (R86). -/
def checkDigest (s : State) : State :=
  let b := s.crest.bank
  if ¬ s.rbit CRS_CTL 0 then s.clrBit CRS_DIGEST_STATUS 1
  else if s.reg CRS_DIGEST_LO = s.cfg b CRS_REF_DIGEST_LO ∧ s.reg CRS_DIGEST_HI = s.cfg b CRS_REF_DIGEST_HI then
    s.setBit CRS_DIGEST_STATUS 1
  else
    (((s.clrBit CRS_DIGEST_STATUS 1).setBit CRS_DIGEST_STATUS 2).setBit CRS_IRQ_STATUS 3).raise 4 (s.reg CRS_DIGEST_HI)
      (s.reg CRS_DIGEST_LO) (s.cfg b CRS_REF_DIGEST_HI) (s.cfg b CRS_REF_DIGEST_LO)

/-- A scrub pass of `us` microseconds is complete. -/
def scrubPass (s : State) (us : Nat) : State :=
  if ¬ s.crest.passing then s else
  let s := s.each (List.range 17) scrubRegion
  let half := fun (reg : Nat → Nat) => crc32c ((List.range 17).flatMap fun r => leBytes 4 (s.reg (reg r)))
  let s := (s.setReg CRS_DIGEST_LO (half CRS_REGION_REG)).setReg CRS_DIGEST_HI (half CRS_REGION_TAB)
  (((s.setBit CRS_DIGEST_STATUS 0).wrapFld CRS_DIGEST_STATUS 16 16).setReg CRS_SCRUB_LAST (min 65535 us)).checkDigest

/-- CRS_RELOAD_LIMIT has passed with the region's bit still set (R87). -/
def reloadLimit (s : State) (r : Nat) : State :=
  if ¬ s.rbit CRS_RELOAD r then s
  else ((s.elapseFrom (s.crest.reloadAt.getD r 0) (s.rf CRS_RELOAD_LIMIT 0 10 * 250000)).clrBit CRS_RELOAD r).raise 6 r

/-! ### Frames that firmware sends with lookup, and the beacon (R88) -/

/-- A frame handed to erg 0 through port 64 in a pool buffer of `client` (R142, R264, R359); none without a buffer. -/
def injectFrame (s : State) (body : Bytes) (client : Nat) : State × Bool :=
  match s.allocBuffer (body.length + 4) client with
  | (s, none) => (s, false)
  | (s, some (cell, _)) =>
    let f : Frame := {
      id := s.nextId, port := 64, bytes := withFcs body, bank := s.crest.bank, cnt := s.time.cnt, raw := s.time.raw,
      order := s.rawNs, lastIn := true, root := s.nextId, cell := some cell, alloc := some client }
    let s := { s with frames := s.frames ++ [f], nextId := s.nextId + 1 }
    (((s.countRx f).countOk f).wake (domErg 0), true)

/-- Internet checksum of bytes (RFC 1071). -/
def inetSum (b : Bytes) : Nat :=
  let n := (List.range ((b.length + 1) / 2)).foldl (fun a i => a + be16 b (2 * i)) 0
  let n := n / 65536 + n % 65536
  65535 - (n / 65536 + n % 65536)

/-- A UDP datagram to a group in IPv4 or IPv6, without FCS; the source address, the source port, the UDP checksum and the
remaining header fields are free. -/
def udpFrame (s : State) (six : Bool) (group port : Nat) (payload : Bytes) : State × Bytes :=
  match s.drawBytes 26 with
  | (s, r) =>
    let udp := r.take 2 ++ beBytes 2 port ++ beBytes 2 (payload.length + 8) ++ (r.drop 2).take 2 ++ payload
    let sa := beBytes 6 s.deviceMac
    if six then
      (s, beBytes 6 (0x3333 * 2 ^ 32 + group % 2 ^ 32) ++ sa ++ beBytes 2 0x86DD ++
        ([0x60] ++ (r.drop 4).take 3) ++ beBytes 2 udp.length ++ [17] ++ (r.drop 7).take 1 ++ (r.drop 8).take 16 ++ beBytes 16 group ++ udp)
    else
      let h1 := [0x45] ++ (r.drop 4).take 1 ++ beBytes 2 (20 + udp.length) ++ (r.drop 5).take 2 ++ [0, 0] ++ (r.drop 7).take 1 ++ [17]
      let h2 := (r.drop 8).take 4 ++ beBytes 4 group
      (s, beBytes 6 (0x01005E * 2 ^ 24 + group % 2 ^ 23) ++ sa ++ beBytes 2 0x0800 ++ h1 ++ beBytes 2 (inetSum (h1 ++ [0, 0] ++ h2)) ++
        h2 ++ udp)

/-- NOTICE, DEGRADED and SEVERE records, 5 bits each (R88): NOTICE in bits [4:0], DEGRADED in [9:5], SEVERE in [14:10]. The manual
gives the order of the counts and no bit positions (DESIGN CHOICE, log entry 121). -/
def faultSummary (s : State) : Nat :=
  let n := fun lo => min 31 (s.rf 0x4003C lo 8)
  n 0 + n 8 * 32 + n 16 * 1024

/-- The beacon's payload (R88). -/
def cairnPayload (s : State) : Bytes :=
  let flags := b2n (s.rbit CRS_CTL 0) + b2n (s.rbit CRS_DIGEST_STATUS 1) * 2 + b2n (s.rbit CRS_DIGEST_STATUS 2) * 4 +
    b2n (s.rbit CRS_STATUS 4) * 8 + b2n (s.reg CRS_RELOAD != 0) * 16
  let c := s.count 0
  beBytes 2 1 ++ beBytes 6 s.deviceMac ++ beBytes 8 Config.serial ++ beBytes 4 s.crestId ++ beBytes 4 (s.reg CRS_DIGEST_HI) ++
    beBytes 4 (s.reg CRS_DIGEST_LO) ++ [BitVec.ofNat 8 flags, BitVec.ofNat 8 s.crestCode] ++ beBytes 4 (s.reg GLB_FW_VERSION) ++
    beBytes 2 s.faultSummary ++ beBytes 6 (c / secUnit) ++ beBytes 4 (totalNs c % 1000000000) ++
    beBytes 2 (s.reg CRS_LAST_COMMIT_SEC_HI) ++ beBytes 4 (s.reg CRS_LAST_COMMIT_SEC_LO) ++ beBytes 4 (s.reg CRS_LAST_COMMIT_NS) ++
    List.replicate 8 0

/-- PERIOD of the beacons in cycles of 4 ns (R88). -/
def beaconCycles (s : State) : Nat := s.rf CRS_CAIRN_CTL 8 8 * 25000000

/-- A cairn beacon, one PERIOD after the beacon before it. -/
def cairnBeacon (s : State) : State :=
  if ¬ s.rbit CRS_CAIRN_CTL 0 ∨ ¬ s.servicesRun then s else
  let s := match s.crest.beaconAt with
    | some a => s.elapseFrom a s.beaconCycles
    | none => s
  let s := s.setCrest { s.crest with beaconAt := some s.time.clk }
  let six := s.rbit CRS_CAIRN_CTL 1
  let g := fun k => s.reg (CRS_CAIRN_GROUP k)
  let group := if six then ((g 0 * 2 ^ 32 + g 1) * 2 ^ 32 + g 2) * 2 ^ 32 + g 3 else g 0
  match s.udpFrame six group (s.reg CRS_CAIRN_PORT) s.cairnPayload with
  | (s, body) => (s.injectFrame body 6).1

end State

/-! ### The commands -/

/-- CREST_COMMIT, R76 -/
def execCrestCommit (s : State) : Result := finish s.commitAt

/-- DRAIN_COMPLETE, R81 -/
def execDrainComplete (s : State) : Result := finish s.drained

/-- DRAIN_LIMIT_EXPIRE, R81 -/
def execDrainLimitExpire (s : State) : Result := finish s.drainLimit

/-- RECONCILE_COMPLETE, R72 -/
def execReconcileComplete (s : State) : Result := finish s.reconcileDone

/-- SCRUB_PASS_COMPLETE, R85 -/
def execScrubPassComplete (us : Nat) (s : State) : Result := finish (s.scrubPass us)

/-- RELOAD_LIMIT_EXPIRE, R87 -/
def execReloadLimitExpire (r : Nat) (s : State) : Result := finish (if r < 17 then s.reloadLimit r else s)

/-- CAIRN_BEACON, R88 -/
def execCairnBeacon (s : State) : Result := finish s.cairnBeacon

end Sys2Proof.Machine
end

