-- ==== Sys2Proof/Machine/Modes.lean ====
section
/-! DEFINITION. The safe state (R339, R340), resets (R31, R416, R421), block resets (R337) and the supplies (R331, R332). -/

namespace Sys2Proof.Machine

/-- Offset of a register of the FLT block (R345). -/
abbrev FLT (o : Nat) : Nat := 0x40000 + o

/-- Registers whose content the always-on domain holds: the keeper, the supply bits, the main-loss record, the fault log and
the last accepted message counter (R64, R331, R344, R378). -/
def aoReg (off : Nat) : Bool :=
  (Nat.ble 0x20200 off && Nat.ble off 0x20214) || off == 0x30008 || (Nat.ble 0x30030 off && Nat.ble off 0x30048) ||
    off == 0x40030 || off == 0x40034 || (Nat.ble 0x48000 off && Nat.ble off 0x4FFFF) || off == 0x60024

/-- Registers of the TIME domain. -/
def timeReg (off : Nat) : Bool := Nat.ble 0x20000 off && Nat.blt off 0x30000

namespace State

/-! ### The safe state -/

/-- The device is held in reset (R416, R421). -/
def inReset (s : State) : Bool := s.held.mainPor || s.held.sram || s.held.porN || s.held.resetN

/-- FAULT_N is low (R336, R339). -/
def faultLow (s : State) : Bool := s.reg (FLT 0x010) != 0 || s.reg (FLT 0x014) != 0 || s.mode == .safe

/-- SAFE_N is low (R339). -/
def safeLow (s : State) : Bool := s.mode == .safe || s.held.porN || s.held.resetN

/-- Transmitters of the field ports stop. -/
def haltField (s : State) : State :=
  s.each (List.range 32) fun s j => if (s.mac (32 + j)).tx.isSome ∨ (s.mac (32 + j)).held.isSome then s.abortTx (32 + j) else s

/-- Transmit timestamps of the field ports whose destination address has crossed the balls (R56). -/
def stampField (s : State) : State := s.each (List.range 32) fun s j => s.fieldStamp (32 + j)

/-- Output pins go to their inactive level (R339). -/
def haltTio (s : State) : State :=
  s.each (List.range 4) fun s i =>
    if s.tioMode i = 2 then (s.setTio i { s.tio i with pulseEnd := none }).tioDrive i false else s

/-- The one message of the FLT vector at entry, where that vector is enabled. -/
def safeMessage (s : State) : State :=
  if ¬ s.vecMgmt 1 ∧ s.rbit (HST 0x000) 10 ∧ ¬ s.vecMasked 1 then s.vecSend 1 else s

/-- The safe state is entered; `src` is shown in SAFE_SOURCE. Transmissions are cut short in SAFE, where none of them makes a
timestamp entry any more (R56). -/
def enterSafe (s : State) (src : Nat) : State :=
  if s.mode = .safe then s else
  let s := (s.setFld (FLT 0x004) 8 8 src).safeMessage
  let s := s.setMon { s.mon with traced := [], record := none }
  let s := ((s.stampField.setMode .safe).holdLanes.haltField).haltTio
  let s := s.setPow { s.pow with avs := 0, falling := [], rising := [], again := false, nvmBusy := false }
  (s.clrBit PWR_AVS_STATUS 28).setBoot { s.boot with session := none, handover := none, atCommit := none }

end State

/-- What the device puts on a pin. -/
inductive PinDrive where
  | highZ | low | high
  deriving DecidableEq, Repr

/-- Management and flash pins that R339 names. -/
inductive SidePin where
  | mdc | mdio | modScl | modSda | avsClk | avsMdata | qspiClk | qspiCsN | qspiIo
  deriving DecidableEq, Repr

/-- What the safe state puts on each of them (R339). -/
def SidePin.safe : SidePin → PinDrive
  | .mdc | .avsClk | .avsMdata => .low
  | .qspiCsN => .high
  | _ => .highZ

/-- What a reset puts on each of them (R425). -/
def SidePin.reset : SidePin → PinDrive
  | .mdc | .qspiClk => .low
  | .qspiCsN => .high
  | _ => .highZ

namespace State

/-- What the safe state or a reset puts on a management or flash pin (R339, R425); none where their engines drive it. -/
def sidePin (s : State) (p : SidePin) : Option PinDrive :=
  if s.held.mainPor then some .highZ
  else if s.mode = .safe then some p.safe
  else if s.inReset then some p.reset
  else none

/-- What the safe state or a reset puts on GPIO `g`, of 0 to 15: in SAFE its FLT_GPIO_SAFE level in the active bank (R339, R345,
R425); none where firmware drives the pin. -/
def gpioPin (s : State) (g : Nat) : Option PinDrive :=
  if s.mode ≠ .safe then (if s.inReset then some .highZ else none)
  else match s.cf s.crest.bank (FLT 0x090) (2 * g) 2 with
    | 1 => some .low
    | 2 => some .high
    | _ => some .highZ

/-! ### Resets -/

/-- A counter of refused resets (R340). -/
def resetRefused (s : State) : State := s.satFld (FLT 0x040) 0 16 1

/-- The device as a reset leaves it: every domain but AO, and but TIME where `keepTime`, has its reset values; commands,
free values, host memory and the NVM part are not the device's own. -/
def resetAll (s : State) (keepTime : Bool) : State :=
  let stays := fun (x : Nat × Nat) => keepTime && timeReg x.1
  { State.reset with
    pending := s.pending
    regs := s.regs.filter fun x => aoReg x.1 || stays x
    bank0 := s.bank0.filter stays
    bank1 := s.bank1.filter stays
    grave := s.grave
    time := if keepTime then s.time else { clk := s.time.clk, phase := s.time.phase, acc := s.time.acc }
    mainLost := s.mainLost
    draws := s.draws
    cvn := { tick := if keepTime then s.rawNs else 0 }
    host := s.host
    ifc := {
      straps := s.ifc.straps, sbAddr := s.ifc.sbAddr, sbPtr := s.ifc.sbPtr, sbData := s.ifc.sbData
      aoCopy := s.regs.filter fun x => aoServed x.1 }
    held := s.held
    nvm := s.nvm }

/-- LOAD begins: the strap may turn it aside at once (R31, R367). -/
def loadStart (s : State) : State :=
  match s.ifc.straps with
  | 4 => s.setMode .recovery
  | 5 => s.setMode .test
  | _ => s

/-- A hold begins or ends. -/
def setHeld (s : State) (h : Held) : State := { s with held := h }

/-- FLT leaves power-on reset: a main loss that has not been reported is (R331). -/
def lossReport (s : State) : State :=
  if ¬ s.held.loss then s
  else
    ((s.setHeld { s.held with loss := false }).setBit PWR_IRQ_STATUS 4).raise 51 (s.rf PWR_MAINLOSS_SEC_LO 0 32)
      (s.rf PWR_MAINLOSS_TICKS 0 15) (s.rf PWR_RESTORE_SEC_LO 0 32) (s.rf PWR_RESTORE_TICKS 0 15)

/-- Holds have ended, `h` being those that remain. TIME leaves a power-on reset when none of that kind remains (R63), into SAFE
where the grave latch is set (R31, R340); the device runs when none remains at all, with the straps sampled (R421). -/
def unhold (s : State) (h : Held) (straps : Nat) : State :=
  let was := s.timeHeld
  let s := s.setHeld h
  let s := if was ∧ ¬ s.timeHeld then ((s.resetAll false).timeStart).lossReport else s
  let s := if s.inReset then s else s.setIfc { s.ifc with straps := straps % 8 }
  if s.timeHeld then s
  else if s.grave then s.enterSafe 0
  else if s.inReset then s
  else s.loadStart

/-- A mode change by POR_N, RESET_N or CHIP_RESET is reported once LOAD runs (R22). -/
def modeReported (s : State) : State := if s.inReset ∨ s.mode = .safe then s else s.setBit GLB_IRQ_STATUS 0

/-- A hold begins: `power` where it takes TIME and the sequencers that run since power-on with it. -/
def hold (s : State) (h : Held) (power : Bool) : State := (s.setHeld h).resetAll (!power)

/-- The record that the collector writes when the main supply goes stays incomplete: its end differs from its start
(R343). -/
def tornRecord (s : State) : State :=
  match s.flt.queue with
  | [] => s
  | (n, b) :: _ =>
    match s.draw with
    | (w, s) =>
      let tail := if w.toNat = n then w.toNat + 1 else w.toNat
      let b := b.take 124 ++ leBytes 4 tail
      s.each (List.range 32) fun s i => s.setReg (0x48000 + 128 * (n % 256) + 4 * i) (ofLe ((b.drop (4 * i)).take 4))

/-- Everything the always-on domain holds as after a first power-on (R332). -/
def aoReset (s : State) : State :=
  let s := { s with regs := s.regs.filter fun x => !aoReg x.1 || x.1 == 0x30008 }
  { s with
    time := { s.time with acc := 0 }
    held := { s.held with loss := false, aoLost := true } }

/-- VDD_IO18 falls below the main POR threshold (R416). -/
def mainPorFall (s : State) : State :=
  if s.held.mainPor then s else s.tornRecord.hold { s.held with mainPor := true } true

/-- VDD_IO18 rises through it after `ticks` ticks of the keeper: the grave latch is cleared (R340); SB_ADDR is sampled where
AO has been without power (R344). -/
def mainPorRise (s : State) (ticks straps sbAddr : Nat) : State :=
  if ¬ s.held.mainPor then s else
  let s := s.elapse (ceilDiv (ticks * keeperTick) 256)
  let s := if s.held.aoLost then (s.aoReset).setIfc { s.ifc with sbAddr := sbAddr % 4 } else s
  { s with grave := false }.unhold { s.held with mainPor := false } straps

/-- VDD_SRAM falls below its threshold (R416). -/
def sramFall (s : State) : State := if s.held.sram then s else s.hold { s.held with sram := true } true

/-- VDD_SRAM recovers: SAFE where the latch is set, LOAD where it is clear (R31). -/
def sramRecover (s : State) (straps : Nat) : State :=
  if s.held.sram then s.unhold { s.held with sram := false } straps else s

/-- The latch refuses POR_N and RESET_N (R340); a device whose main supply is away loses the latch at its rise. -/
def refusesReset (s : State) : Bool := s.grave && !s.held.mainPor

/-- POR_N is asserted. -/
def porAssert (s : State) : State :=
  if s.held.porN then s
  else if s.refusesReset then s.resetRefused
  else s.hold { s.held with porN := true } true

/-- POR_N is released. -/
def porRelease (s : State) (straps : Nat) : State :=
  if s.held.porN then (s.unhold { s.held with porN := false } straps).modeReported else s

/-- RESET_N is asserted: TIME keeps running. -/
def resetAssert (s : State) : State :=
  if s.held.resetN then s
  else if s.refusesReset then s.resetRefused
  else s.hold { s.held with resetN := true } s.timeHeld

/-- RESET_N is released; where a fault entered SAFE meanwhile, LOAD follows unless the latch is set (R31, R422). -/
def resetRelease (s : State) (straps : Nat) : State :=
  if ¬ s.held.resetN then s
  else
    let h := { s.held with resetN := false }
    if s.mode ≠ .safe then (s.unhold h straps).modeReported
    else if s.grave then s.setHeld h
    else ((s.resetAll (!s.timeHeld)).unhold h straps).modeReported

/-- The head record of the collector's queue is written to the log (R432). -/
def recordWrite (s : State) : State :=
  match s.flt.queue with
  | [] => s
  | (n, b) :: rest =>
    let s := s.each (List.range 32) fun s i => s.setReg (0x48000 + 128 * (n % 256) + 4 * i) (ofLe ((b.drop (4 * i)).take 4))
    let s := { s with flt := { s.flt with queue := rest } }
    (s.wrapFld (FLT 0x034) 0 32).setReg (FLT 0x030) ((n + 1) % 256)

/-- CHIP_RESET acts as RESET_N once the queued records are written (R336, R343); the straps stand as last sampled. -/
def chipReset (s : State) : State :=
  let s := s.each s.flt.queue fun s _ => s.recordWrite
  ((s.hold { s.held with resetN := true } false).unhold s.held s.ifc.straps).modeReported

/-! ### LOAD again -/

/-- Domains that a new LOAD or a failed step of it resets (R373). -/
def loadDomains : List Nat := [3, 6, 7, 8, 9, 10, 11, 12, 13, 14, 15, 16, 17, 18, 19, 20, 21]

/-- Every domain except AO, FLT, TIME, HOST and NVMIF is reset, and tables and packet memory are initialised (R373). -/
def resetPlane (s : State) : State :=
  let out := fun (x : Nat × Nat) => !loadDomains.contains (domOfReg x.1)
  let s := { s with
    regs := s.regs.filter out
    bank0 := s.bank0.filter out
    bank1 := s.bank1.filter out
    tabs := []
    tbank0 := []
    tbank1 := []
    frames := []
    ergs := List.replicate 4 {}
    fwd := List.replicate 4 { scanAt := s.time.clk * fdbSlots }
    busTurn := 0
    oas := {}
    sched := {}
    macs := List.replicate 69 {}
    lns := {}
    cvn := { tick := s.rawNs }
    mon := { s.mon with traced := [], cells := [] } }
  s.each loadDomains fun s d => s.setFld (PWR_D_STATUS d) 0 4 0

/-- LOAD is entered from TEST or RECOVERY (R31): the ROM starts and clears the watchdog's EN (R341). -/
def reload (s : State) : State :=
  let s := (s.resetPlane.clrBit (FLT 0x050) 0).setBoot {}
  { s with recFromHandover := false }.setMode .load

/-! ### Block resets (R337) -/

/-- The management core restarts from ROM, which clears the watchdog's EN and starts the firmware of the active slot. -/
def mgmtReset (s : State) : State :=
  let s := (s.clrBit (FLT 0x050) 0).setBoot { s.boot with session := none, atCommit := none, inband := [] }
  s.setPow { s.pow with mgmtEvent := false }

/-- Frames of an erg that are not yet stored are lost with it. -/
def dropErgFrames (s : State) (e : Nat) : State :=
  s.each (s.frames.filter fun f => ergOf f.port == e && f.stage != .stored && f.stage != .dropped) fun s f =>
    let s := s.traceDone f none 5
    if f.lastIn then s.dropFrame f.id else s.setFrame { f with stage := .dropped }

/-- What a domain loses beside its registers and tables when it goes off under load. -/
def blockLost (s : State) (d : Nat) : State :=
  if 6 ≤ d ∧ d < 10 then s.dropErgFrames (d - 6)
  else if 13 ≤ d ∧ d < 21 then s.each (s.quadPorts s.crest.bank (d - 13)) fun s p => s.toDetect (s.lanesOf s.crest.bank p) p
  else if d = domField then s.haltField
  else s

/-- BLOCK_RESET of a domain: an erg, the caravan, a quad or the field ports go to OFF and straight back; nothing happens to a
domain that is OFF, and one that wakes is reset when its wake completes. -/
def blockReset (s : State) (d : Nat) : State :=
  if s.domPhase d = 2 then s.setPow { s.pow with resetLate := (s.pow.resetLate ++ [d]).eraseDups }
  else if s.domState d = 2 then s
  else if d = domMgmt then s.mgmtReset
  else if d = domNvm then s.setPow { s.pow with nvmBusy := false }
  else ((s.blockLost d).domainOff d).setPhase d 2 2

/-! ### Supplies (R331, R332) -/

/-- VDD_IO18 falls below 1.62 V: AO runs from VBAK, and the loss instant is recorded; a dip within a loss belongs to it. -/
def supplyLoss (s : State) : State :=
  if s.mainLost then s else
  let s := { s with mainLost := true, held := { s.held with loss := true, aoLost := false } }
  let s := ((s.satFld PWR_MAINLOSS_COUNT 0 16 1).setReg PWR_MAINLOSS_SEC_HI (s.rf TMB_KEEPER_SEC_HI 0 16)).setReg PWR_MAINLOSS_SEC_LO
    (s.rf TMB_KEEPER_SEC_LO 0 32)
  let s := (s.setReg PWR_MAINLOSS_TICKS (s.rf TMB_KEEPER_TICKS 0 15)).setBit TMB_KEEPER_STATUS 1
  let s := s.setBit PWR_SUPPLY 1
  if s.rbit PWR_SUPPLY 2 then s else s.aoReset

/-- AO returns to VDD_IO18 after `ticks` ticks of the keeper. -/
def supplyRestore (s : State) (ticks : Nat) : State :=
  if ¬ s.mainLost then s else
  let s := s.elapse (ceilDiv (ticks * keeperTick) 256)
  let s := ((s.setReg PWR_RESTORE_SEC_HI (s.rf TMB_KEEPER_SEC_HI 0 16)).setReg PWR_RESTORE_SEC_LO (s.rf TMB_KEEPER_SEC_LO 0 32)).setReg
    PWR_RESTORE_TICKS (s.rf TMB_KEEPER_TICKS 0 15)
  let s := if s.held.aoLost then s.setBit PWR_SUPPLY 3 else s
  { s with
    mainLost := false
    held := { s.held with aoLost := false } }

/-- VBAK falls below 2.40 V. -/
def bakFall (s : State) : State :=
  if ¬ s.rbit PWR_SUPPLY 2 then s else
  let s := s.clrBit PWR_SUPPLY 2
  if s.mainLost then s.aoReset
  else
    let s := s.setBit PWR_SUPPLY 3
    if s.inReset then s else (s.setBit PWR_IRQ_STATUS 3).raise 52

/-- VBAK rises to 2.50 V. -/
def bakRise (s : State) : State := s.setBit PWR_SUPPLY 2

end State

/-! ### The commands -/

/-- MAIN_SUPPLY_POR_RISE, R31 -/
def execMainSupplyPorRise (ticks straps sbAddr : Nat) (s : State) : Result := finish (s.mainPorRise ticks straps sbAddr)

/-- MAIN_POR_FALL, R416 -/
def execMainPorFall (s : State) : Result := finish s.mainPorFall

/-- VDD_SRAM_FALL, R416 -/
def execVddSramFall (s : State) : Result := finish s.sramFall

/-- VDD_SRAM_RECOVER, R31 -/
def execVddSramRecover (straps : Nat) (s : State) : Result := finish (s.sramRecover straps)

/-- POR_N_ASSERT, R421 -/
def execPorNAssert (s : State) : Result := finish s.porAssert

/-- POR_N_RELEASE, R421 -/
def execPorNRelease (straps : Nat) (s : State) : Result := finish (s.porRelease straps)

/-- RESET_N_ASSERT, R421 -/
def execResetNAssert (s : State) : Result := finish s.resetAssert

/-- RESET_N_RELEASE, R421 -/
def execResetNRelease (straps : Nat) (s : State) : Result := finish (s.resetRelease straps)

/-- TABLE_INIT_DONE, R373 -/
def execTableInitDone (s : State) : Result := finish (if s.mode = .load then s.setBoot { s.boot with ready := true } else s)

/-- MAIN_SUPPLY_LOSS, R331 -/
def execMainSupplyLoss (s : State) : Result := finish s.supplyLoss

/-- MAIN_SUPPLY_RESTORE, R331 -/
def execMainSupplyRestore (ticks : Nat) (s : State) : Result := finish (s.supplyRestore ticks)

/-- BAK_OK_FALL, R332 -/
def execBakOkFall (s : State) : Result := finish s.bakFall

/-- BAK_OK_RISE, R332 -/
def execBakOkRise (s : State) : Result := finish s.bakRise

end Sys2Proof.Machine
end

