-- ==== Sys2Proof/Machine/Faults.lean ====
section
/-! DEFINITION. The fault collector (R334 to R345, R432): occurrences, records, the watchdog, the sensors and the sideband
target. -/

namespace Sys2Proof.Machine

/-- Mask bits as a record lists them, one above another: IRQ, NMI, BLOCK_RESET, CHIP_RESET, PIN, SAFE (R344). -/
abbrev reactIrq : Nat := 0
@[inherit_doc reactIrq] abbrev reactNmi : Nat := 1
@[inherit_doc reactIrq] abbrev reactBlock : Nat := 2
@[inherit_doc reactIrq] abbrev reactChip : Nat := 3
@[inherit_doc reactIrq] abbrev reactPin : Nat := 4
@[inherit_doc reactIrq] abbrev reactSafe : Nat := 5

/-- The domain of the column "B acts on" for an occurrence (R334). -/
def blockOfSource (o : Occ) : Option Nat :=
  match o.src with
  | 10 | 12 => some domMgmt
  | 14 => some (domErg (o.d1 % 4))
  | 20 => some domNvm
  | 30 => some (domQuad (o.d0 / 4 % 8))
  | 31 => some (domQuad (o.d0 % 8))
  | 33 => some domField
  | 34 => some (domErg (o.d0 % 4))
  | 38 => some domCaravan
  | _ => none

/-- Code of the major mode (R29). -/
def Mode.code : Mode → Nat
  | .load => 0
  | .run => 1
  | .handover => 2
  | .recovery => 3
  | .test => 4
  | .safe => 5

/-- An occurrence put in its place by source number, behind those of its own source. -/
def insertOcc (o : Occ) : List Occ → List Occ
  | [] => [o]
  | x :: l => if o.src < x.src then o :: x :: l else x :: insertOcc o l

/-- Occurrences in ascending source number. -/
def sortOcc (l : List Occ) : List Occ := l.foldl (fun a o => insertOcc o a) []

/-- Window of a rail in mV (R340); `core` is the target of rail 0. -/
def railWindow (core i : Nat) : Nat × Nat :=
  match i with
  | 0 => (core - 50, core + 50)
  | 1 => (760, 840)
  | 2 => (855, 945)
  | 3 => (1140, 1260)
  | 4 => (1620, 1980)
  | _ => (3000, 3600)

/-- `a` is at most `b`. -/
def intLe (a b : Int) : Bool := decide (a ≤ b)

namespace State

/-- Collector state replaced. -/
def setFlt (s : State) (c : Collector) : State := { s with flt := c }

/-! ### Records (R335, R344) -/

/-- States of the domains, two bits each, as a record carries them. -/
def domainStates (s : State) : Nat := (List.range 22).foldl (fun a d => a + s.domState d * 4 ^ d) 0

/-- Effective points of the ergs, two bits each. -/
def ergPoints (s : State) : Nat := (List.range 4).foldl (fun a e => a + s.effPoint e * 4 ^ e) 0

/-- A record of sequence number `n`. -/
def recordBytes (s : State) (n src flags taken : Nat) (o : Occ) : Bytes :=
  let valid := s.rbit (TMB_TB_STATUS 0) 0
  leBytes 4 n ++ [BitVec.ofNat 8 src, BitVec.ofNat 8 (flags + b2n valid * 32), BitVec.ofNat 8 taken, BitVec.ofNat 8 s.mode.code] ++
    leBytes 6 s.keeperSec ++ leBytes 2 (s.rf TMB_KEEPER_TICKS 0 15) ++ leBytes 4 (if valid then ns32 (s.count 0) else 0) ++
    List.replicate 4 0 ++ leBytes 4 o.d0 ++ leBytes 4 o.d1 ++ leBytes 4 o.d2 ++ leBytes 4 o.d3 ++ leBytes 4 s.crestId ++
    [BitVec.ofNat 8 s.crestCode, BitVec.ofNat 8 (s.rf (FLT 0x064) 0 8), 0, 0] ++ leBytes 6 s.domainStates ++
    [BitVec.ofNat 8 s.ergPoints] ++ List.replicate 69 0 ++ leBytes 4 n

/-- A record joins the queue of 8, or is discarded and counted (R343). -/
def queueRecord (s : State) (src flags taken : Nat) (o : Occ) : State :=
  if 8 ≤ s.flt.queue.length then s.bump (FLT 0x038)
  else
    let n := (s.reg (FLT 0x034) + s.flt.queue.length) % 2 ^ 32
    s.setFlt { s.flt with
      queue := s.flt.queue ++ [(n, s.recordBytes n src flags taken o)]
      lastSeq := sparsePut (fun _ => 0) src (n + 1) s.flt.lastSeq }

/-- A record counted in its class (R336); a discarded one is none. -/
def countClass (s : State) (cls : Nat) : State := if 8 ≤ s.flt.queue.length then s else s.satFld (FLT 0x03C) (8 * cls) 8 1

/-- REPEAT of a record's bytes, saturating. -/
def repeatBytes (b : Bytes) : Bytes := b.take 20 ++ leBytes 2 (satAdd 16 (ofLe ((b.drop 20).take 2)) 1) ++ b.drop 22

/-- REPEAT of a source's last record is incremented, in the queue or in its slot of the log while the slot is still its own. -/
def repeatRecord (s : State) (src : Nat) : State :=
  match sparseGet (fun _ => 0) src s.flt.lastSeq with
  | 0 => s
  | n + 1 =>
    if s.flt.queue.any (fun x => x.1 == n) then
      s.setFlt { s.flt with queue := s.flt.queue.map fun x => if x.1 = n then (n, repeatBytes x.2) else x }
    else
      let a := 0x48000 + 128 * (n % 256)
      if s.reg a = n then s.satFld (a + 20) 0 16 1 else s

/-! ### Occurrences (R336, R343) -/

/-- Place of a source's bit in FLT_PEND or FLT_PIN, whose LO register stands at `lo`. -/
def srcReg (lo src : Nat) : Nat := FLT (lo + src / 32 * 4)

/-- Class and mask of an occurrence, in the bank it was synchronised in (R336, R343). -/
def srcCfg (s : State) (o : Occ) : Nat := s.cfg o.bank (FLT (0x100 + 4 * o.src))

/-- What is taken of a mask of R344: nothing in SAFE; PIN and SAFE always with class GRAVE. -/
def takenOf (s : State) (o : Occ) : Nat :=
  let c := s.srcCfg o
  if s.mode = .safe then 0 else if bits c 0 2 = 3 then bits c 2 6 ||| 0x30 else bits c 2 6

/-- The occurrences of a collector cycle with the reactions taken: where one takes SAFE, none takes CHIP_RESET (R32, R343). -/
def reactions (s : State) (os : List Occ) : List (Occ × Nat) :=
  let l := os.map fun o => (o, s.takenOf o)
  if l.any fun x => bit x.2 reactSafe then l.map fun x => (x.1, setBits x.2 reactChip 1 0) else l

/-- An occurrence is counted, held in FLT_PEND and recorded (R335, R336, R340). -/
def logOcc (s : State) (o : Occ) (taken : Nat) : State :=
  let cls := bits (s.srcCfg o) 0 2
  let was := s.rbit (srcReg 0x008 o.src) (o.src % 32)
  let s := (s.bump (FLT (0x200 + 4 * o.src))).setBit (srcReg 0x008 o.src) (o.src % 32)
  let s := if cls = 3 then { s with grave := true } else s
  let safe := bit taken reactSafe
  if was ∧ ¬ safe ∧ cls ≠ 3 then s.repeatRecord o.src
  else (s.countClass cls).queueRecord o.src (cls + b2n safe * 4 + b2n s.grave * 8 + b2n o.injected * 16) taken o

/-- The reactions of a collector cycle combined, SAFE first (R343); in SAFE no domain changes state (R339). -/
def react (s : State) (l : List (Occ × Nat)) : State :=
  let s := s.each (l.filter fun x => bit x.2 reactPin) fun s x => s.setBit (srcReg 0x010 x.1.src) (x.1.src % 32)
  match l.find? fun x => bit x.2 reactSafe with
  | some x => s.enterSafe x.1.src
  | none =>
    let s := s.when (l.any fun x => bit x.2 reactNmi) fun s => (s.setPow { s.pow with mgmtEvent := true }).revote domMgmt
    let s := s.each ((l.filter fun x => bit x.2 reactBlock).filterMap fun x => blockOfSource x.1) fun s d => s.blockReset d
    s.when ((l.any fun x => bit x.2 reactChip) && !s.inReset) chipReset

/-- The collector handles the occurrences of one cycle, in ascending source number (R336, R343). -/
def collect (s : State) (os : List Occ) : State :=
  let l := s.reactions os
  (s.each l fun s x => s.logOcc x.1 x.2).react l

/-- FAULT_OCCURRENCE: the oldest occurrences, of one instant, reach the collector; a collector held in power-on reset takes
none. -/
def faultTake (s : State) : State :=
  match s.occ with
  | [] => s
  | o :: _ =>
    let now := s.occ.takeWhile fun x => x.clk == o.clk
    let s := { s with occ := s.occ.dropWhile fun x => x.clk == o.clk }
    if s.timeHeld then s else s.collect (sortOcc (now.filter fun x => Nat.blt x.src 64))

/-- A self-fault: SAFE without classification or mask, the latch, SELF and a record, counted in its class, whose class and
reactions beside SAFE are open (R342); in SAFE none is taken (R343). -/
def selfFault (s : State) (src d0 : Nat) : State :=
  if s.timeHeld then s else
  match s.draw with
  | (w, s) =>
    let s := { s with grave := true }.setBit (FLT 0x004) 3
    let taken := if s.mode = .safe then 0 else (w.toNat / 4 &&& 0x17) ||| 0x20
    let s := (s.countClass (w.toNat % 4)).queueRecord src (w.toNat % 4 + b2n (s.mode != .safe) * 4 + 8) taken { src, d0 }
    s.enterSafe src

/-! ### Watchdog (R341) -/

/-- The watchdog does not run: in HANDOVER, TEST and SAFE, and with MGMT in RET. -/
def wdogSuspended (s : State) : Bool :=
  s.mode == .handover || s.mode == .test || s.mode == .safe || s.domState domMgmt == 1

/-- Cycles of 4 ns from a kick to expiry. -/
def wdogCycles (s : State) : Nat := s.rf (FLT 0x050) 16 14 * 250000

/-- FLT_WDOG_LEFT in milliseconds. -/
def wdogLeft (s : State) : Nat :=
  if s.rbit (FLT 0x050) 0 ∧ ¬ s.flt.expired then
    (if s.wdogSuspended then s.rf (FLT 0x050) 16 14 else (s.wdogCycles + s.flt.kickAt - s.time.clk) / 250000)
  else 0

/-- The watchdog's time starts again. -/
def wdogRestart (s : State) : State := s.setFlt { s.flt with kickAt := s.time.clk, expired := false }

/-- The watchdog expires; the program counter of the management core is open. -/
def wdogExpire (s : State) : State :=
  if ¬ s.rbit (FLT 0x050) 0 ∨ s.wdogSuspended ∨ s.flt.expired ∨ s.inReset then s else
  let s := s.elapseFrom s.flt.kickAt s.wdogCycles
  match s.draw with
  | (w, s) => (s.setFlt { s.flt with expired := true }).raise 10 w.toNat

/-! ### Sensors (R340, R345, R429) -/

/-- A sample of the hottest sensor: sources 1 and 2 are raised at their thresholds, source 1 again only after the
temperature has been below WARN_C − 5, source 2 after it has been below CRIT_C. -/
def tempSample (s : State) (now : Nat) : State :=
  if s.timeHeld then s else
  let s := s.elapse (25000 - s.time.clk % 25000)
  let t := signed 8 now
  let s := s.setFld (FLT 0x064) 0 8 now
  let s := if signed 8 (s.rf (FLT 0x064) 8 8) < t then s.setFld (FLT 0x064) 8 8 now else s
  let c := s.cfg s.crest.bank (FLT 0x060)
  let warn := Int.ofNat (bits c 0 8)
  let crit := Int.ofNat (bits c 8 8)
  let one := intLe warn t && !s.flt.warm
  let two := intLe crit t && !s.flt.hot
  let s := s.setFlt { s.flt with
    warm := intLe warn t || (s.flt.warm && intLe (warn - 5) t)
    hot := intLe crit t }
  let s := if one then s.raise 1 (unsigned 32 t) else s
  if two then s.raise 2 (unsigned 32 t) else s

/-- A rail has been outside its window for 10 µs. -/
def railOut (s : State) (i mv : Nat) : State :=
  let core := if s.rbit PWR_AVS_CFG 0 then s.rf PWR_AVS_STATUS 0 10 else 800
  let w := railWindow core i
  let above := Nat.blt w.2 mv
  if s.timeHeld ∨ 6 ≤ i ∨ 4096 ≤ mv ∨ ¬ (Nat.blt mv w.1 ∨ above) then s
  else
    let r := FLT (0x070 + 4 * i)
    ((s.setFld r 0 12 mv).setBit r (if above then 17 else 16)).raise 3 i mv

/-- A source raised by a block that runs beside the collector; none in power-on reset. -/
def raiseLive (s : State) (src d0 : Nat) : State := if s.timeHeld then s else s.raise src d0

/-! ### Sideband (R344) -/

/-- One byte of the sideband map. -/
def sbByte (s : State) (a : Nat) : Byte :=
  let of := fun (v i : Nat) => BitVec.ofNat 8 (v / 256 ^ i)
  if a < 0x004 then of (regReset 0) a
  else if a < 0x00C then of Config.serial (a - 4)
  else if a = 0x010 then
    BitVec.ofNat 8 (s.mode.code + b2n (s.mode == .safe) * 8 + b2n s.grave * 16 + b2n s.faultLow * 32 + b2n (s.rbit (FLT 0x004) 3) * 64)
  else if a = 0x011 then of (s.rf (FLT 0x004) 8 8) 0
  else if 0x014 ≤ a ∧ a < 0x018 then of (s.reg (FLT 0x034)) (a - 0x014)
  else if a = 0x018 then of (s.reg (FLT 0x030)) 0
  else if 0x01C ≤ a ∧ a < 0x020 then of (s.reg (FLT 0x03C)) (a - 0x01C)
  else if a = 0x020 then of (s.rf PWR_SUPPLY 1 3 * 2 + b2n !s.mainLost) 0
  else if 0x024 ≤ a ∧ a < 0x040 then of (s.reg (0x30030 + (a - 0x024) / 4 * 4)) ((a - 0x024) % 4)
  else if a = 0x040 then of (s.rf (FLT 0x064) 0 8) 0
  else if 0x8000 ≤ a ∧ a < 0x10000 then of (s.reg (FLT (a / 4 * 4))) (a % 4)
  else 0

/-- A pointer write followed by a read of `n` bytes; served while VDD_IO18 is present (R343). -/
def sbRead (s : State) (ptr n : Nat) : State :=
  if s.held.mainPor then s
  else s.setIfc { s.ifc with
    sbData := (List.range n).map fun i => s.sbByte ((ptr + i) % 65536)
    sbPtr := (ptr + n) % 65536 }

/-- Bytes written: the first two are the pointer, the others are not acknowledged and change nothing. -/
def sbWrite (s : State) (data : Bytes) : State :=
  if s.held.mainPor then s else if data.length < 2 then s else s.setIfc { s.ifc with sbPtr := be16 data 0 }

end State

/-! ### The commands -/

/-- FAULT_OCCURRENCE, R336 -/
def execFaultOccurrence (s : State) : Result := finish s.faultTake

/-- FAULT_RECORD_WRITE, R432 -/
def execFaultRecordWrite (s : State) : Result := finish s.recordWrite

/-- COLLECTOR_PARITY_ERROR, R342 -/
def execCollectorParityError (reg : Nat) (s : State) : Result := finish (s.selfFault 0xFF reg)

/-- COLLECTOR_CLOCK_LOSS, R342 -/
def execCollectorClockLoss (s : State) : Result := finish (s.selfFault 0xFE 0)

/-- WDOG_EXPIRE, R341 -/
def execWdogExpire (s : State) : Result := finish s.wdogExpire

/-- TEMP_SAMPLE, R429 -/
def execTempSample (now : Nat) (s : State) : Result := finish (s.tempSample now)

/-- RAIL_OUT_OF_WINDOW, R340 -/
def execRailOutOfWindow (i mv : Nat) (s : State) : Result := finish (s.railOut i mv)

/-- REFCLK_SYS_LOSS, R334 -/
def execRefclkSysLoss (s : State) : Result := finish (s.raiseLive 7 0)

/-- PLL_LOCK_LOSS, R334 -/
def execPllLockLoss (which : Nat) (s : State) : Result := finish (if which < 7 then s.raiseLive 8 which else s)

/-- XTAL32_FAULT, R424 -/
def execXtal32Fault (s : State) : Result := finish (s.raiseLive 9 0)

/-- MGMT_SRAM_ECC_ERROR, R334 -/
def execMgmtSramEccError (addr : Nat) (corrected : Bool) (s : State) : Result :=
  finish (if addr < sramSize then s.raiseLive (if corrected then 11 else 12) addr else s)

/-- SB_I2C_READ, R344 -/
def execSbI2cRead (ptr n : Nat) (s : State) : Result := finish (s.sbRead (ptr % 65536) n)

/-- SB_I2C_WRITE, R344 -/
def execSbI2cWrite (data : Bytes) (s : State) : Result := finish (s.sbWrite data)

/-- SB_SCL_TIMEOUT, R344: SDA is released after 35 ms, and nothing else changes. -/
def execSbSclTimeout (s : State) : Result := finish (s.elapse 8750000)

end Sys2Proof.Machine
end

