-- ==== Sys2Proof/Machine/Monitor.lean ====
section
/-! DEFINITION. Monitor control, dumps, bandwidth windows and the tracers' records (R397 to R407). -/

namespace Sys2Proof.Machine

/-- A new entry of the list of sync instants; one for the same instant is merged into it. -/
def addSync (t : Nat) (run clear snap : Bool) : List (Nat × Bool × Bool × Bool) → List (Nat × Bool × Bool × Bool)
  | [] => [(t, run, clear, snap)]
  | (u, r, c, n) :: l => if u = t then (t, run, c || clear, n || snap) :: l else (u, r, c, n) :: addSync t run clear snap l

/-- Domain that a monitor unit watches (R392). -/
def unitDomain (u : Nat) : Nat := if u < 4 then domErg u else if u = 4 then domOasis else if u = 5 then domCaravan else domMgmt

/-- Records that the internal buffer holds (R400). -/
abbrev bufferSlots : Nat := 170

namespace State

/-! ### Control (R397) -/

/-- A write of MON_CTL takes effect at the first raw count that is a multiple of 256 ns, 256 ns from now or later. -/
def monControl (s : State) (v : Nat) : State :=
  s.setMon { s.mon with sync := addSync (roundUp 256 (s.rawNs + 256)) (bit v 0) (bit v 1) (bit v 2) s.mon.sync }

/-- Every cycle counter and programmable counter to 0. -/
def monClear (s : State) : State :=
  let s := s.setMon { s.mon with
    cyc := List.replicate 7 0
    frac := List.replicate 7 0 }
  s.each (List.range 7) fun s u => s.each (List.range 8) fun s k => s.setReg (MON_U_COUNT u k) 0

/-! ### Dumps (R398 to R400) -/

/-- The block of a unit in a dump record. -/
def unitBlock (s : State) (u : Nat) : Bytes :=
  leBytes 8 (s.mon.cyc.getD u 0) ++ ((List.range 8).flatMap fun k => leBytes 4 (s.reg (MON_U_COUNT u k))) ++
    [BitVec.ofNat 8 (s.domState (unitDomain u)), BitVec.ofNat 8 (if u < 4 then s.curPoint u else 0),
      BitVec.ofNat 8 (s.rf (MON_U_STATUS u) 0 8)] ++ List.replicate 5 0

/-- A dump record of sequence number `n`. -/
def dumpBytes (s : State) (n : Nat) (periodic snap : Bool) : Bytes :=
  let c := s.count 0
  leBytes 4 n ++ [1, 0, BitVec.ofNat 8 (b2n periodic + b2n snap * 2 + b2n (s.rbit (TMB_TB_STATUS 0) 0) * 4), 0] ++
    leBytes 6 (c / secUnit) ++ [0, 0] ++ leBytes 4 (totalNs c % 1000000000) ++ leBytes 4 (s.rawNs % 2 ^ 32) ++ leBytes 4 s.crestId ++
    List.replicate 4 0 ++ (List.range 7).flatMap s.unitBlock ++ List.replicate 16 0

/-- A snapshot falls due: it is taken, or missed where a record is still being written; its number is used up. -/
def snapshot (s : State) (periodic snap : Bool) : State :=
  let s := s.wrapFld MON_DUMP_SEQ 0 32
  if s.mon.record.isSome then ((s.bump MON_DUMP_MISSED).setBit MON_IRQ_STATUS 8).raise 24 7
  else s.setMon { s.mon with record := some (s.dumpBytes (s.reg MON_DUMP_SEQ) periodic snap) }

/-- MON_SYNC_APPLY: the snapshot holds the values from before the clear. -/
def syncApply (s : State) : State :=
  match s.mon.sync with
  | [] => s
  | (t, run, clear, snap) :: rest =>
    let s := s.elapseToRaw (t * nsUnit)
    let s := s.setMon { s.mon with sync := rest }
    let s := if snap ∧ s.mode ≠ .safe then s.snapshot false true else s
    let s := if clear then s.monClear else s
    s.setMon { s.mon with run }

/-- The instant of a periodic event: the first multiple of the period after the last one, or the latest already passed. -/
def periodDue (s : State) (last period : Nat) : Nat := max ((last / period + 1) * period) (s.rawNs / period * period)

/-- DUMP_SNAPSHOT: a periodic snapshot. -/
def dumpPeriodic (s : State) : State :=
  let period := s.rf MON_DUMP_PERIOD 0 24 * 1000
  if ¬ s.rbit MON_DUMP_CFG 0 ∨ s.mode = .safe ∨ period = 0 then s else
  let t := s.periodDue s.mon.dumpAt period
  let s := s.elapseToRaw (t * nsUnit)
  (s.setMon { s.mon with dumpAt := t }).snapshot true false

/-- A channel of the monitors stops at a failing write (R360): its ERR bit stands at bit 16 of `cfg`. -/
def monError (s : State) (cfg chan index : Nat) : State := ((s.setBit cfg 16).raise 18 chan index).setBit (HST 0x020) 1

/-- The record is written to the ring of channel 36. -/
def dumpToRing (s : State) (b : Bytes) (fail : Bool) : State :=
  let sram := s.rbit MON_DUMP_CFG 2
  let size := 2 ^ s.rf MON_DUMP_CFG 3 5
  let prod := s.rf MON_DUMP_PROD 0 17 % size
  let a := s.baseAddr (MON 0x028) (MON 0x02C) sram + prod * 384
  if s.rbit MON_DUMP_CFG 16 then s
  else if (prod + 1) % size = s.rf MON_DUMP_CONS 0 17 % size then
    ((s.bump MON_DUMP_LOST).setBit MON_IRQ_STATUS 7).setMon { s.mon with record := none }
  else if fail ∨ sramBeyond sram a 384 then s.monError MON_DUMP_CFG 36 prod
  else (((s.dmaWrite sram a b).dmaMoved 36 384).setFld MON_DUMP_PROD 0 17 ((prod + 1) % size)).setMon { s.mon with record := none }

/-- The record is written to the internal buffer over the oldest; vector 28 is high for a cycle (R407). -/
def dumpToBuffer (s : State) (b : Bytes) : State :=
  let prod := s.rf MON_DUMP_PROD 0 17 % bufferSlots
  let s := s.setMon { s.mon with
    record := none
    buffer := s.mon.buffer.writeAll (prod * 384) b }
  (s.setFld MON_DUMP_PROD 0 17 ((prod + 1) % bufferSlots)).setIfc { s.ifc with pulse := true }

/-- DUMP_RECORD_WRITE. -/
def dumpWrite (s : State) (fail : Bool) : State :=
  match s.mon.record with
  | none => s
  | some b => if s.mode = .safe then s else if s.rbit MON_DUMP_CFG 1 then s.dumpToBuffer b else s.dumpToRing b fail

/-- A write of MON_DUMP_CFG: EN = 1 sets PROD and CONS to 0, and 0 to 1 resumes a stopped channel and starts the period. -/
def dumpConfig (s : State) (old : Nat) : State :=
  if ¬ s.rbit MON_DUMP_CFG 0 then s else
  let s := (s.setReg MON_DUMP_PROD 0).setReg MON_DUMP_CONS 0
  if bit old 0 then s else (s.clrBit MON_DUMP_CFG 16).setMon { s.mon with dumpAt := s.rawNs }

/-- Word of the internal buffer that a read of MON_DUMP_BUF_DATA returns. -/
def bufferWord (s : State) : Nat := ofLe (s.mon.buffer.readAll (s.rf MON_DUMP_BUF_ADDR 2 14 * 4) 4)

/-! ### Bandwidth (R401) -/

/-- BW_WINDOW_END. -/
def windowEnd (s : State) : State :=
  let w := s.rf MON_BW_CFG 0 20 * 1000
  if w = 0 ∨ s.inReset then s else
  let t := s.periodDue s.mon.bwAt w
  let s := s.elapseToRaw (t * nsUnit)
  let s := s.each (List.range 69) fun s p =>
    (s.setReg (MON_BW_RX p) (s.mon.rx.getD p 0 / 4 % 2 ^ 32)).setReg (MON_BW_TX p) (s.mon.tx.getD p 0 / 4 % 2 ^ 32)
  let s := s.setMon { s.mon with
    rx := List.replicate 69 0
    tx := List.replicate 69 0
    bwAt := t }
  s.wrapFld MON_BW_SEQ 0 32

/-! ### Tracers (R402 to R406) -/

/-- The tracer's buffers are given back (R404). -/
def tracerRelease (s : State) : State :=
  (s.each s.mon.cells fun s c => s.freeBy c 8).setMon { s.mon with cells := [] }

/-- `n` S0 buffers taken for the tracer; false where one could not be had. -/
def tracerTake (s : State) : Nat → State × Bool
  | 0 => (s, true)
  | n + 1 =>
    match s.allocBuffer (poolBytes 0) 8 with
    | (s, none) => (s, false)
    | (s, some (cell, _)) => (s.setMon { s.mon with cells := s.mon.cells ++ [cell] }).tracerTake n

/-- ERGS goes from 0 to `ergs`: buffers, shift registers, an empty ring (R402, R404, R408). -/
def tracerStart (s : State) (ergs : Nat) : State :=
  let n := ((List.range 4).filter (bit ergs)).length
  match s.tracerTake (16 * n) with
  | (s, false) => ((s.tracerRelease).setFld MON_TRC_CFG 0 4 0).setBit MON_TRC_STATUS 4
  | (s, true) =>
    let s := ((s.setReg MON_TRC_PROD 0).setReg MON_TRC_CONS 0).clrBit MON_TRC_RING 16
    s.setMon { s.mon with
      ergs
      overran := false
      lfsr := (List.range 4).map fun e => rotl32 (s.reg MON_TRC_SEED) (8 * e) }

/-- A write of MON_TRC_CFG. -/
def tracerConfig (s : State) : State :=
  let ergs := s.rf MON_TRC_CFG 0 4
  if s.mon.ergs = 0 ∧ ergs ≠ 0 then s.tracerStart ergs
  else
    let s := s.setMon { s.mon with ergs }
    if ergs = 0 ∧ s.mon.traced.isEmpty then s.tracerRelease else s

/-- A record of the tracer (R405). -/
def traceBytes (n : Nat) (t : Traced) : Bytes :=
  leBytes 4 n ++ t.info.take 20 ++ (t.d.flatMap fun x => leBytes 4 (x.getD max32)) ++ (t.info.drop 20).take 2 ++ List.replicate 10 0

/-- The record leaves the tracer; its buffers go with the last one after ERGS has returned to 0. -/
def traceLeaves (s : State) (t : Traced) : State :=
  let s := s.setMon { s.mon with
    traced := s.mon.traced.erase t
    seq := (s.mon.seq + 1) % 2 ^ 32 }
  if s.mon.ergs = 0 ∧ s.mon.traced.isEmpty then s.tracerRelease else s

/-- TRACE_RECORD_WRITE: the oldest record that has ended goes to the ring of channel 37. -/
def traceWrite (s : State) (fail : Bool) : State :=
  match s.mon.traced.find? fun t => t.outcome.isSome with
  | none => s
  | some t =>
    if s.mode = .safe ∨ s.rbit MON_TRC_RING 16 then s else
    let sram := s.rbit MON_TRC_RING 0
    let size := 2 ^ s.rf MON_TRC_RING 1 5
    let prod := s.rf MON_TRC_PROD 0 17 % size
    let a := s.baseAddr (MON 0x08C) (MON 0x090) sram + prod * 64
    if (prod + 1) % size = s.rf MON_TRC_CONS 0 17 % size then
      let s := (s.bump MON_TRC_LOST).setBit MON_IRQ_STATUS 9
      let s := if s.mon.overran then s else (s.setMon { s.mon with overran := true }).raise 25 t.erg
      s.traceLeaves t
    else if fail ∨ sramBeyond sram a 64 then s.monError MON_TRC_RING 37 prod
    else ((((s.dmaWrite sram a (traceBytes s.mon.seq t)).dmaMoved 37 64).setFld MON_TRC_PROD 0 17 ((prod + 1) % size)).bump MON_TRC_RECORDS).traceLeaves t

/-- A write of MON_TRC_CONS: an empty ring can lose its first record again (R406). -/
def tracerRead (s : State) : State :=
  let size := 2 ^ s.rf MON_TRC_RING 1 5
  if s.rf MON_TRC_CONS 0 17 % size = s.rf MON_TRC_PROD 0 17 % size then s.setMon { s.mon with overran := false } else s

end State

/-! ### The commands -/

/-- MON_SYNC_APPLY, R397 -/
def execMonSyncApply (s : State) : Result := finish s.syncApply

/-- DUMP_SNAPSHOT, R398 -/
def execDumpSnapshot (s : State) : Result := finish s.dumpPeriodic

/-- DUMP_RECORD_WRITE, R400 -/
def execDumpRecordWrite (fail : Bool) (s : State) : Result := finish (s.dumpWrite fail)

/-- BW_WINDOW_END, R401 -/
def execBwWindowEnd (s : State) : Result := finish s.windowEnd

/-- TRACE_RECORD_WRITE, R406 -/
def execTraceRecordWrite (fail : Bool) (s : State) : Result := finish (s.traceWrite fail)

end Sys2Proof.Machine
end

