-- ==== Sys2Proof/Machine/Requests.lean ====
section
/-! DEFINITION. Table requests (R185 to R189, R361, R362) and the mirage check (R190 to R192). -/

namespace Sys2Proof.Machine

/-- A table request as its descriptor gives it, each field clamped (R185, R354, R361). -/
structure Request where
  op : Nat
  table : Nat
  erg : Nat
  index : Nat
  count : Nat
  flags : Nat
  lock : Bool
  unlock : Bool
  irq : Bool
  sram : Bool
  buffer : Nat
  deriving DecidableEq, Repr

/-- The fields of a request descriptor (R361). -/
def decodeRequest (d : Nat) : Request where
  op := min 8 (bits d 0 4)
  table := bits d 4 16
  erg := min 4 (bits d 20 3)
  index := bits d 32 32
  count := clampNat 1 4096 (bits d 64 13)
  flags := bits d 25 4
  lock := bit d 23
  unlock := bit d 24
  irq := bit d 29
  sram := bit d 30
  buffer := bits d 128 64 / 8 * 8

/-- What a request makes of one record: its index, its status (R362), and the entry a READ or SEARCH returns. -/
structure Outcome where
  index : Nat
  status : Nat
  entry : Option Nat := none
  deriving DecidableEq, Repr

/-- Domain that holds a table (R83, R163, R183, R216, R251, R285, R308). -/
def tableDomain (x : TableSpec) (e : Nat) : Nat :=
  if x.perErg then domErg e
  else if 0x30 ≤ x.num ∧ x.num < 0x40 then domCaravan
  else if x.num = 0x13 ∨ x.num = 0x2B ∨ (0x40 ≤ x.num ∧ x.num < 0x50) then domOasis
  else domSched

/-- Operations by table (R186). -/
def opNamed (op : Nat) (x : TableSpec) : Bool :=
  match op with
  | 0 => true
  | 1 => x.num != tblFdb && x.num != tblPrefix && x.kind != .readOnly
  | 2 => x.kind == .crested
  | 3 | 4 => x.num == tblFdb || x.num == tblPrefix
  | 5 | 6 => x.num == tblFdb
  | 7 => x.num == tblBloom
  | _ => true

/-- The request ends in BAD_TABLE on erg `e` (R163, R186). -/
def badTable (r : Request) (x : TableSpec) (e : Nat) : Bool :=
  !opNamed r.op x || (Nat.ble r.op 2 && Nat.blt x.entries (r.index + r.count)) || (r.op == 7 && Nat.ble 24 r.index) ||
    (x.num == tblVlan && e != 0 && (r.op == 1 || r.op == 2) && Nat.blt 8226 (r.index + r.count))

/-- WRITE_FLAGS on the two flags of an entry of `w` bits (R185). -/
def applyFlags (w v f : Nat) : Nat :=
  let one := fun (v k : Nat) => if bit f (2 * k) = bit f (2 * k + 1) then v else setBits v (w - 2 + k) 1 (b2n (bit f (2 * k)))
  one (one v 0) 1

/-- Client of the requester of a table channel (R361). -/
def chanRequester (c : Nat) : Requester := if c < 2 then .host else .mgmt

namespace State

/-! ### Slots -/

/-- A slot as READ returns it (R71): a banked field from the bank that staged registers are read from. -/
def tableRead (s : State) (x : TableSpec) (e i : Nat) : Nat :=
  if x.num = tblRsvUse then s.rsvUsed i
  else match x.kind with
    | .banked =>
      s.tabBE (match s.crest.phase with | .opened | .armed => !s.crest.bank | _ => s.crest.bank) x.num e i
    | _ => s.tab x.num e i

/-- A crested write (R69, R70, R87): refused where the generation is frozen, or where it would change an entry of the active
bank and its region is not under reload. -/
def crestedWrite (s : State) (x : TableSpec) (e i v : Nat) : State × Nat :=
  let old := s.tab x.num e i
  let a := validIn x.width s.crest.bank
  if s.crest.phase ≠ .opened then (s.bump CRS_FROZEN_WRITES, 3)
  else if s.rbit CRS_RELOAD (x.regionOf e) ∨ (a old = a v ∧ (¬ a old ∨ tableContent x.num x.width old = tableContent x.num x.width v)) then
    (s.setTab x.num e i v, 0)
  else (s.bump CRS_LIVE_WRITE_REFUSED, 3)

/-- WRITE of one slot (R66, R70, R186). -/
def tableWriteSlot (s : State) (x : TableSpec) (e i v : Nat) : State × Nat :=
  match x.kind with
  | .crested => s.crestedWrite x e i (tableStore x.num i 0 v)
  | .banked =>
    if s.crest.phase = .opened then (s.setTabB (!s.crest.bank) x.num e i (tableStore x.num i 0 v), 0)
    else ((s.bump CRS_FROZEN_WRITES).setBit CRS_STATUS 6, 3)
  | _ => (s.setTab x.num e i (tableStore x.num i (s.tab x.num e i) v), 0)

/-! ### Prefix filters (R181, R182) -/

/-- The filter bits of an entry set in one slot: their places depend on the entry alone (R179). -/
def bloomAdd (s : State) (e x slot : Nat) : State :=
  s.each (prefixPlace 0 (bits x 128 8) (bit x 144) (bits x 136 8) (bits x 0 128)).2 fun s p => s.bloomSet e slot p

/-- The filter bits of an entry set in every length slot of its family: whichever LEN a slot comes to have, its filter answers present
for the entry (R181; DEDUCED, log entry 144). -/
def bloomNote (s : State) (e x : Nat) : State :=
  s.each (List.range 12) fun s k => s.bloomAdd e x (if bit x 144 then 12 + k else k)

/-- REBUILD_BLOOM of a slot, from the entries of its family with either flag (R186). -/
def bloomRebuild (s : State) (e slot : Nat) : State :=
  let k := (tblBloom * 8 + e) * 2 ^ 24 + 4096 * slot
  let s := { s with tabs := s.tabs.filter fun x => !(Nat.ble k x.1 && Nat.blt x.1 (k + 4096)) }
  s.each ((s.listed tblPrefix e).filter fun x => bits x.2 190 2 != 0 && bit x.2 144 == Nat.ble 12 slot) fun s x =>
    s.bloomAdd e x.2 slot

/-- INSERT of a prefix entry under the pending configuration of its length slot (R182). -/
def insertPrefix (s : State) (x : TableSpec) (e v : Nat) : State × Outcome :=
  let v := tableStore tblPrefix 0 0 v
  let slot := (s.lenSlots (!s.crest.bank) e (bit v 144)).find? fun k => s.cf (!s.crest.bank) (ERG_PFX_LEN e k) 0 8 == bits v 136 8
  let way := slot.bind fun k =>
    let b := (prefixPlace (s.cfg (!s.crest.bank) (ERG_PFX_LEN e k)) (bits v 128 8) (bit v 144) (bits v 136 8) (bits v 0 128)).1
    ((List.range 4).map fun w => 4 * b + w).find? fun i => bits (s.tab tblPrefix e i) 190 2 == 0
  match way with
  | none => (s.bump (ERG_PFX_INSERT_FULL e), { index := 0, status := 2 })
  | some i =>
    match s.crestedWrite x e i v with
    | (s, 0) => (s.bloomNote e v, { index := i, status := 0 })
    | (s, st) => (s, { index := 0, status := st })

/-! ### Forwarding entries (R167 to R170, R186) -/

/-- INSERT of a learned entry: one that the table holds is replaced in place. -/
def insertLearned (s : State) (e v : Nat) : State × Outcome :=
  let v := setBits v 80 4 15
  match (s.fdbFind e (bits v 48 12) (bits v 0 48)).filter fun x => fdbKind x.2 == 1 with
  | (i, y) :: r => (s.each ((i, y) :: r) fun s x => s.setFdb e x.1 v, { index := i, status := 0 })
  | [] =>
    match s.insertPlan e (bits v 48 12) (bits v 0 48) with
    | some p => (s.placePlan e v p, { index := p.1.headD p.2, status := 0 })
    | none => (s.insertFail e, { index := 0, status := 2 })

/-- INSERT of a forwarding entry. -/
def insertFdb (s : State) (x : TableSpec) (e v : Nat) : State × Outcome :=
  let v := tableStore tblFdb 0 0 v
  match fdbKind v with
  | 1 => s.insertLearned e v
  | 2 =>
    if s.crest.phase ≠ .opened then (s.bump CRS_FROZEN_WRITES, { index := 0, status := 3 })
    else if validIn 128 s.crest.bank v ∧ ¬ s.rbit CRS_RELOAD (x.regionOf e) then
      (s.bump CRS_LIVE_WRITE_REFUSED, { index := 0, status := 3 })
    else match s.insertStatic e v with
      | (s, some i) => (s, { index := i, status := 0 })
      | (s, none) => (s, { index := 0, status := 2 })
  | _ => (s, { index := 0, status := 3 })

/-- DELETE of the learned entry of a key. -/
def deleteLearned (s : State) (e v : Nat) : State × Outcome :=
  match (s.fdbFind e (bits v 48 12) (bits v 0 48)).filter fun x => fdbKind x.2 == 1 with
  | [] => (s, { index := 0, status := 1 })
  | (i, y) :: r => (s.each ((i, y) :: r) fun s x => s.setFdb e x.1 0, { index := i, status := 0 })

/-- FLUSH of the learned entries that a filter names. -/
def flushLearned (s : State) (e f : Nat) : State :=
  s.each ((s.listed tblFdb e).filter fun x => fdbKind x.2 == 1 && (bit f 12 || bits x.2 48 12 == bits f 0 12) &&
    (bit f 20 || fdbPort x.2 == bits f 13 7)) fun s x => s.setFdb e x.1 0

/-- SEARCH: the slots that hold a key. -/
def searchKey (s : State) (x : TableSpec) (e v : Nat) : List (Nat × Nat) :=
  if x.num = tblFdb then (s.fdbFind e (bits v 48 12) (bits v 0 48)).filter fun y => !fdbFree y.2
  else
    let v := tableStore tblPrefix 0 0 v
    (s.listed tblPrefix e).filter fun y => bits y.2 0 145 == bits v 0 145 && bits y.2 190 2 != 0

/-! ### A request on one erg -/

/-- A step over the records of a request, first record first. -/
def eachRecord (s : State) (l : List Nat) (f : State → Nat → State × Outcome) : State × List Outcome :=
  l.foldl (fun a i => match f a.1 i with | (s, o) => (s, a.2 ++ [o])) (s, [])

/-- The operation on one erg over the first `n` records (R186): the outcomes, and DONE_COUNT. -/
def runOp (s : State) (r : Request) (x : TableSpec) (e n : Nat) (ents : List Nat) : State × List Outcome × Nat :=
  let run := fun (f : State → Nat → State × Outcome) => match s.eachRecord (List.range n) f with | (s, o) => (s, o, n)
  match r.op with
  | 0 => run fun s i => (s, { index := r.index + i, status := 0, entry := some (s.tableRead x e (r.index + i)) })
  | 1 => run fun s i =>
    match s.tableWriteSlot x e (r.index + i) (ents.getD i 0) with
    | (s, st) => (s, { index := r.index + i, status := st })
  | 2 => run fun s i =>
    let v := tableStore x.num (r.index + i) 0 (applyFlags x.width (s.tab x.num e (r.index + i)) r.flags)
    match s.crestedWrite x e (r.index + i) v with
    | (s, st) => (if x.num = tblPrefix ∧ st = 0 then s.bloomNote e v else s, { index := r.index + i, status := st })
  | 3 => run fun s i => if x.num = tblFdb then s.insertFdb x e (ents.getD i 0) else s.insertPrefix x e (ents.getD i 0)
  | 4 =>
    let m := s.searchKey x e (ents.getD 0 0)
    (s, (m.take n).map fun y => { index := y.1, status := 0, entry := some y.2 }, m.length)
  | 5 => run fun s i => s.deleteLearned e (ents.getD i 0)
  | 6 => (s.flushLearned e r.index, [], 0)
  | 7 => (s.bloomRebuild e r.index, [], 0)
  | _ => (s, [], 0)

/-! ### Locks (R187, R188) -/

/-- The requester holds, or may take, the lock of an erg. -/
def lockOpen (s : State) (rq : Requester) (e : Nat) : Bool := (s.fw e).lock.all fun l => l.holder == rq

/-- The lock taken, or its region replaced without a restart of its timer. -/
def takeLock (s : State) (rq : Requester) (e first last : Nat) : State :=
  let f := s.fw e
  s.setFw e { f with lock := some {
    holder := rq, first := min 128 (granule first), last := min 128 (granule last)
    since := match f.lock with | some l => l.since | none => s.time.clk } }

/-- The lock released by its holder. -/
def freeLock (s : State) (rq : Requester) (e : Nat) : State :=
  let f := s.fw e
  if f.lock.any fun l => l.holder == rq then s.setFw e { f with lock := none } else s

/-- LOCK_LOST of a requester's next request, which takes it (R188). -/
def takeLost (s : State) (rq : Requester) : State × Bool :=
  match rq with
  | .host => ({ s with fwd := s.fwd.map fun f => { f with lostHost := false } }, s.fwd.any (·.lostHost))
  | .mgmt => ({ s with fwd := s.fwd.map fun f => { f with lostMgmt := false } }, s.fwd.any (·.lostMgmt))

/-- LOCK_BREAK, R188. -/
def lockBreak (s : State) (e : Nat) : State :=
  match (s.fw e).lock with
  | none => s
  | some l =>
    let s := s.elapseFrom l.since (s.rf (ERG_FWD_LOCK_LIMIT e) 0 7 * 250000)
    let s := ((s.bump (ERG_FWD_LOCK_BROKEN e)).setBit (ERG_FWD_IRQ_STATUS e) 2).raise 36 e (match l.holder with | .host => 0 | .mgmt => 1)
    let f := s.fw e
    s.setFw e { f with
      lock := none
      lostHost := f.lostHost || l.holder == .host
      lostMgmt := f.lostMgmt || l.holder == .mgmt }

/-! ### The whole request -/

/-- The ergs that a request acts on (R185). -/
def requestErgs (r : Request) : List Nat := if r.erg < 4 then [r.erg] else if r.op = 0 ∨ r.op = 4 then [0] else [0, 1, 2, 3]

/-- The worse of two outcomes record by record (R185, R362). -/
def mergeOutcomes (a b : List Outcome) : List Outcome :=
  if a.isEmpty then b else (a.zip b).map fun x => { x.1 with status := max x.1.status x.2.status }

/-- The request on one erg: LOCK, the operation, UNLOCK. -/
def requestOn (s : State) (r : Request) (rq : Requester) (x : TableSpec) (e n : Nat) (ents : List Nat) :
    State × Nat × List Outcome × Nat :=
  let lock := r.lock && x.num == tblFdb
  if lock ∧ ¬ s.lockOpen rq e then (s, 4, [], 0)
  else
    let s := if lock then s.takeLock rq e r.index (r.index + r.count - 1) else s
    let res := if badTable r x e then (s, 5, [], 0)
      else match s.runOp r x e n ents with
        | (s, o, done) => (s, (o.map (·.status)).foldl max 0, o, done)
    if r.unlock then (res.1.freeLock rq e, res.2) else res

/-- The request on every erg it names (R185): the state, the worst status, the records and DONE_COUNT. -/
def requestRun (s : State) (r : Request) (rq : Requester) (n : Nat) (ents : List Nat) : State × Nat × List Outcome × Nat :=
  match tableSpec r.table with
  | none => (s, 5, [], 0)
  | some x =>
    (if x.perErg then requestErgs r else [4]).foldl (fun a e =>
      match a with
      | (s, st, o, d) => match s.requestOn r rq x e n ents with
        | (s, st', o', d') => (s, max st st', mergeOutcomes o o', max d d')) (s, 0, [], 0)

/-- The domains that a request needs (R323). -/
def requestDomains (r : Request) : List Nat :=
  match tableSpec r.table with
  | none => []
  | some x => (if x.perErg then requestErgs r else [4]).map fun e => tableDomain x e

/-- Bytes of a record (R362). -/
def recordSize (t : Nat) : Nat := 8 + match tableSpec t with | some x => (x.width + 63) / 64 * 8 | none => 0

/-- What the device writes of a record (R362). -/
def requestRecord (op t : Nat) (o : Outcome) : Nat × Bytes :=
  match o.entry with
  | some v => (0, leBytes 4 o.index ++ leBytes 4 o.status ++ leBytes (recordSize t - 8) v)
  | none => if op = 3 then (0, leBytes 4 o.index ++ leBytes 4 o.status) else (4, leBytes 1 o.status)

/-- The records written to BUFFER. -/
def writeRecords (s : State) (r : Request) (o : List Outcome) : State :=
  s.each o.zipIdx fun s y =>
    let (off, b) := requestRecord r.op r.table y.1
    s.dmaWrite r.sram (r.buffer + y.2 * recordSize r.table + off) b

/-- STATUS, DONE, LOCK_LOST and DONE_COUNT written to the descriptor (R361). -/
def writeStatus (s : State) (c st done : Nat) (lost : Bool) : State :=
  s.dmaWrite (s.chanSram c) (s.chanDesc c 64 + 56) (leBytes 1 st ++ leBytes 2 (1 + b2n lost * 2 + done % 2 ^ 13 * 4))

/-- Records that can be processed before the buffer fails: all, those before a failed access, or those that fit SRAM. -/
def recordsGood (r : Request) (fail : Option Nat) : Nat :=
  if 6 ≤ r.op then r.count
  else
    let fit := if r.sram then (sramSize - r.buffer) / recordSize r.table else r.count
    min r.count (min fit (fail.getD r.count))

/-- A request that has run completes (R361 to R363, R394): an error of the buffer stops the channel. -/
def requestDone (s : State) (c : Nat) (r : Request) (bad : Bool) (st : Nat) (o : List Outcome) (done : Nat) : State :=
  match s.takeLost (chanRequester (c - 32)) with
  | (s, lost) =>
    let quiet := st == 4 || st == 5
    let s := if quiet then s else s.writeRecords r o
    let s := (s.writeStatus c (if bad then 6 else st) (if quiet then 0 else done) lost).dmaMoved c
      (64 + 3 + if quiet then 0 else o.length * recordSize r.table)
    let s := s.each ((requestErgs r).filter (· < 4)) fun s e => s.event e 15 1 { master := 2 + c }
    if bad then s.chanError c
    else (s.chanAdvance c).complete c r.irq

/-- A table request of operation `op` (R361): it waits while the channel is stopped or empty, while Bus Master Enable is 0
for host memory, and while the channel's request before it does. One that needs a domain that is not ON wakes it, and completes
when the domain is ready (R323, R325). -/
def tableRequest (s : State) (op : Nat) (t : TableReq) : State :=
  let c := 32 + t.chan
  let r := decodeRequest t.desc
  if 4 ≤ t.chan ∨ s.mode = .safe ∨ (s.pow.waiting.any fun w => w.req.chan == t.chan) ∨ ¬ s.chanOn c ∨ ¬ s.chanPosted c ∨ ((¬ s.chanSram c ∨ ¬ r.sram) ∧ ¬ s.bme) then s
  else if t.lost ∨ sramBeyond (s.chanSram c) (s.chanDesc c 64) 64 then s.chanError c
  else if r.op ≠ op then s
  else
    let s := s.each (requestDomains r) fun s d => s.demand d
    if ¬ (requestDomains r).all s.awake then
      s.setPow { s.pow with waiting := s.pow.waiting ++ [{ op, req := t, doms := requestDomains r }] }
    else
      let n := recordsGood r t.fail
      match s.requestRun r (chanRequester t.chan) n t.records with
      | (s, st, o, done) => s.requestDone c r (Nat.blt n r.count && Nat.blt st 4) st o done

/-- The table requests whose domains are ready now complete, oldest first (R323). -/
def resumeRequests (s : State) : State :=
  let (ready, waiting) := s.pow.waiting.partition fun w => w.doms.all s.awake
  (s.setPow { s.pow with waiting }).each ready fun s w => s.tableRequest w.op w.req

/-! ### The mirage check (R190 to R192) -/

end State

/-- Key bits of a keyed crested table, none for an indexed one (R165, R178, R196, R201, R204, R205, R253, R278, R311). -/
def keyBits (t : Nat) : Option Nat :=
  match t with
  | 0x10 => some 60
  | 0x12 => some 145
  | 0x20 => some 65
  | 0x21 => some 1280
  | 0x22 => some 316
  | 0x23 => some 146
  | 0x32 => some 24
  | 0x43 => some 24
  | 0x52 => some 22
  | 0x54 => some 24
  | _ => none

/-- The other slot of a VLAN entry's key (R163). -/
def vlanTwin (i : Nat) : Nat := if i < 4096 then i + 4096 else if i < 8192 then i - 4096 else if i % 2 = 0 then i + 1 else i - 1

/-- A descriptor of the shadow (R190). -/
structure ShadowDesc where
  table : Nat
  erg : Nat
  /-- bytes of an entry -/
  size : Nat
  count : Nat
  /-- offset of the records from the shadow's base -/
  offset : Nat
  deriving DecidableEq, Repr

/-- A descriptor read from its 16 bytes. -/
def shadowDesc (d : Nat) : ShadowDesc where
  table := bits d 0 16
  erg := bits d 16 8
  size := bits d 24 8
  count := bits d 32 32
  offset := bits d 64 64

/-- The check of erg `e` covers the table that a descriptor names, with entries of the table's size (R190, R216). -/
def mirageCovers (e : Nat) (d : ShadowDesc) : Bool :=
  (tableSpec d.table).any fun x => x.kind == .crested && d.size == x.width / 8 &&
    (if x.perErg then d.erg == e
      else e == 0 && d.erg == 255 && [0x13, 0x24, 0x26, 0x27, 0x2B, 0x32, 0x41, 0x43, 0x52, 0x53, 0x54].contains d.table)

namespace State

/-- The live entries of a table, valid in the active bank; of the forwarding table only the static ones (R191). -/
def liveEntries (s : State) (t e : Nat) : List (Nat × Nat) :=
  match tableSpec t with
  | none => []
  | some x => (s.listed t (if x.perErg then e else 4)).filter fun y =>
      validIn x.width s.crest.bank y.2 && (t != tblFdb || fdbKind y.2 == 2)

/-- Registers of the check in force: it runs, and it can read its shadow. -/
def mirageOn (s : State) (e : Nat) : Bool :=
  s.rbit (ERG_MIR_CTL e) 0 && s.mode != .safe && s.awake (domErg e) && (s.rbit (ERG_MIR_CTL e) 1 || s.bme)

/-- A pass begins with the crest identifier of the header (R190, R191). -/
def mirageBegin (s : State) (e header : Nat) : State :=
  let m := (s.fw e).mir
  if m.running ∨ m.waiting ∨ ¬ s.mirageOn e then s
  else if bits header 0 32 ≠ s.crestId then (s.setBit (ERG_MIR_STATUS e) 2).setMirage e { m with waiting := true }
  else s.setMirage e { running := true, since := s.time.clk }

/-- A difference (R192); only the first of a pass raises its fault source. -/
def mirageDiff (s : State) (e t i kind : Nat) : State :=
  let s := ((((s.bump (ERG_MIR_MISMATCHES e)).setReg (ERG_MIR_LAST_TABLE e) (t % 65536)).setReg (ERG_MIR_LAST_INDEX e) i).setReg
    (ERG_MIR_LAST_KIND e) kind).setBit (ERG_MIR_STATUS e) 1
  let s := s.setBit (ERG_FWD_IRQ_STATUS e) 3
  let m := (s.fw e).mir
  if m.found then s else (s.raise 37 e t i kind).setMirage e { m with found := true }

/-- The live entries among which the key of a record of table `t` is looked up. -/
def mirageFinds (s : State) (e t index content : Nat) : List (Nat × Nat) :=
  (s.liveEntries t e).filter fun y =>
    match keyBits t with
    | some w => bits y.2 0 w == bits content 0 w
    | none => y.1 == index || (t == tblVlan && y.1 == vlanTwin index)

/-- The shadow of a record is malformed, KIND 3 (R193): a read failed or lies beyond SRAM, its descriptor or record is not among those
that the header and the descriptor count, a byte that is to be 0 is not, or the descriptor names no table that the check covers
(DESIGN CHOICE, log entry 145). -/
def mirageBad (s : State) (e : Nat) (m : Shadow) : Bool :=
  let d := shadowDesc m.desc
  let sram := s.rbit (ERG_MIR_CTL e) 1
  let base := s.baseAddr (ERG_MIR_BASE_LO e) (ERG_MIR_BASE_HI e) sram
  let beyond := sramBeyond sram (base + 8 + 16 * m.place) 16 || sramBeyond sram (base + d.offset + m.item * (4 + d.size)) (4 + d.size)
  m.fail || beyond || bits m.header 48 16 != 0 || Nat.ble (bits m.header 32 16) m.place || Nat.ble d.count m.item || !mirageCovers e d

/-- One record compared (R191, R192). -/
def mirageRecord (s : State) (e : Nat) (m : Shadow) : State :=
  let d := shadowDesc m.desc
  let index := bits m.record 0 32
  let content := bits m.record 32 (8 * d.size)
  if s.mirageBad e m then s.mirageDiff e d.table index 3
  else match s.mirageFinds e d.table index content with
    | [] => s.mirageDiff e d.table index 1
    | y :: r =>
      if (y :: r).any fun z => tableContent d.table (8 * d.size) z.2 == content then s else s.mirageDiff e d.table y.1 0

/-- Time passes until the check may read another record: RATE of them in 10 µs (R191). -/
def mirageWait (s : State) (e : Nat) : State :=
  let m := (s.fw e).mir
  let s := s.elapse (m.since + ceilDiv (m.read * 2500) (max 1 (s.rf (ERG_MIR_CTL e) 8 8)) - s.time.clk)
  s.setMirage e { m with read := m.read + 1 }

/-- MIRAGE_COMPARE, R191 -/
def mirageCompare (s : State) (e : Nat) (m : Shadow) : State :=
  let s := s.mirageBegin e m.header
  if (s.fw e).mir.running ∧ s.mirageOn e then (s.mirageWait e).mirageRecord e m else s

/-- The live entries of the table that a descriptor names counted against its count (R191); the index of a count that differs is
open. -/
def mirageCount (s : State) (e : Nat) (d : ShadowDesc) : State :=
  if ¬ mirageCovers e d ∨ (s.liveEntries d.table e).length = d.count then s
  else match s.draw with | (w, s) => s.mirageDiff e d.table w.toNat 2

/-- MIRAGE_PASS_END, R191, R193: the descriptors are those of the pass, the header that of the next. -/
def miragePassEnd (s : State) (e : Nat) (descs : List Nat) (header : Nat) : State :=
  let m := (s.fw e).mir
  if ¬ m.running ∨ ¬ s.mirageOn e then s
  else
    let s := s.each descs fun s d => s.mirageCount e (shadowDesc d)
    let s := ((s.wrapFld (ERG_MIR_STATUS e) 16 16).setReg (ERG_MIR_PASS_MS e) (min 65535 ((s.time.clk - m.since) / 250000))).setBit
      (ERG_FWD_IRQ_STATUS e) 4
    (s.setMirage e {}).mirageBegin e header

end State

/-! ### The commands -/

/-- TABLE_READ, R186 -/
def execTableRead (t : TableReq) (s : State) : Result := finish (s.tableRequest 0 t)

/-- TABLE_WRITE, R186 -/
def execTableWrite (t : TableReq) (s : State) : Result := finish (s.tableRequest 1 t)

/-- TABLE_WRITE_FLAGS, R186 -/
def execTableWriteFlags (t : TableReq) (s : State) : Result := finish (s.tableRequest 2 t)

/-- TABLE_INSERT, R186 -/
def execTableInsert (t : TableReq) (s : State) : Result := finish (s.tableRequest 3 t)

/-- TABLE_SEARCH, R186 -/
def execTableSearch (t : TableReq) (s : State) : Result := finish (s.tableRequest 4 t)

/-- TABLE_DELETE, R186 -/
def execTableDelete (t : TableReq) (s : State) : Result := finish (s.tableRequest 5 t)

/-- TABLE_FLUSH, R186 -/
def execTableFlush (t : TableReq) (s : State) : Result := finish (s.tableRequest 6 t)

/-- TABLE_REBUILD_BLOOM, R186 -/
def execTableRebuildBloom (t : TableReq) (s : State) : Result := finish (s.tableRequest 7 t)

/-- TABLE_NOP, R186 -/
def execTableNop (t : TableReq) (s : State) : Result := finish (s.tableRequest 8 t)

/-- LOCK_BREAK, R188 -/
def execLockBreak (e : Nat) (s : State) : Result := finish (if e < 4 then s.lockBreak e else s)

/-- MIRAGE_COMPARE, R191 -/
def execMirageCompare (e : Nat) (m : Shadow) (s : State) : Result := finish (if e < 4 then s.mirageCompare e m else s)

/-- MIRAGE_PASS_END, R191 -/
def execMiragePassEnd (e : Nat) (descs : List Nat) (header : Nat) (s : State) : Result :=
  finish (if e < 4 then s.miragePassEnd e descs header else s)

end Sys2Proof.Machine
end

