-- ==== Sys2Proof/Machine/Pipeline.lean ====
section
/-! DEFINITION. The erg pipeline: dispatch, parse, reorder and release (R141 to R149), the second pass (R156, R157), the
express lookup (R153 to R155, R197), and the events of the forwarding tables that follow (R172, R173, R175). -/

namespace Sys2Proof.Machine

namespace State

/-! ### Dispatch (R141, R145) -/

/-- Parse stage of an erg. -/
def prs (s : State) (e : Nat) : ErgParse := s.ergs.getD e {}

/-- Parse stage of an erg replaced. -/
def setPrs (s : State) (e : Nat) (x : ErgParse) : State := { s with ergs := s.ergs.set e x }

/-- Erg that parses a frame: the one that owns its ingress port (R18, R156). -/
def ergFrames (s : State) (e : Nat) : List Frame := s.frames.filter fun f => ergOf f.port == e

/-- The seif short parse reads a frame (R153). -/
def seifReads (s : State) (f : Frame) : Bool := Nat.blt f.port 64 && !f.second && s.cbit f.bank (ERG_SEIF_CFG (ergOf f.port)) 0

/-- A frame that waits for an engine and never gets one: MAC control and claim frames. -/
def notParsed (s : State) (f : Frame) : Bool :=
  Nat.blt f.port 64 && !f.second && (be16 f.bytes 12 == 0x8808 || s.isClaim f)

/-- The parse window of a frame is present (R141): of one being reassembled, 192 bytes have come. -/
def windowIn (s : State) (f : Frame) : Bool :=
  f.lastIn || match (s.mac f.port).reasm with
    | some r => if r.frame = f.id then Nat.ble 192 r.bytes.length else Nat.ble 192 f.bytes.length
    | none => Nat.ble 192 f.bytes.length

/-- Raw nanoseconds of TB0 at which the parse window of a frame reaches the erg (R142, R144): its order stamp, but for the lanes of
a 100GBASE-R port, whose deskew ends MAX_SKEW after their nominal delay where the stamp allows SKEW_NS. -/
def reaches (s : State) (f : Frame) : Nat :=
  if f.port < 32 ∧ ¬ f.second ∧ s.quad100 f.bank f.port then
    f.order + (s.rf (LNE_QUAD_STATUS (f.port / 4)) 8 8 - s.cf f.bank (ERG_PRS_PORT (ergOf f.port) (portIndex f.port)) 8 8)
  else f.order

/-- A frame has reached the erg by now: one within the order stamp's allowance waits there in good time (R143). -/
def reached (s : State) (f : Frame) : Bool := s.reaches f == f.order || Nat.ble (s.reaches f * nsUnit) (s.rawCount 0)

/-- A frame whose parse window is present and that may be dispatched. -/
def dispatchable (s : State) (f : Frame) : Bool :=
  f.stage == .waiting && s.windowIn f && s.reached f && !s.notParsed f && (f.looked || !s.seifReads f)

/-- The first frame in that order. -/
def earliest : List Frame → Option Frame
  | [] => none
  | f :: r => match earliest r with
    | none => some f
    | some g => if earlier g f then some g else some f

/-- Frames in the reorder stage of an erg. -/
def reorderFill (s : State) (e : Nat) : Nat := ((s.ergFrames e).filter fun f => f.stage == .reorder).length

/-- Dispatch is paused: since the reorder stage was last full there has been no room in it (R145). -/
def dispatchPaused (s : State) (e : Nat) : Bool := (s.prs e).paused && Nat.ble 64 (s.reorderFill e)

/-- PARSE_DISPATCH: the next frame goes to the engine in turn, if that is free. -/
def dispatch (s : State) (e : Nat) : State :=
  let x := s.prs e
  if ¬ s.forwarding ∨ s.dispatchPaused e then s
  else if ¬ s.awake (domErg e) then s.wake (domErg e)
  else if (s.ergFrames e).any fun f => f.stage == .engine x.turn then s
  else match earliest ((s.ergFrames e).filter s.dispatchable) with
    | none => s
    | some f =>
      (s.setFrame { f with stage := .engine x.turn, dispatched := some s.rawNs }).setPrs e { x with turn := (x.turn + 1) % 8 }

/-! ### Parsing (R147, R148, R160) -/

/-- The graph walk of a frame (R147). -/
def parseFrame (s : State) (f : Frame) (e : Nat) : ParseResult :=
  let k := if f.second then 16 else portIndex f.port
  let start := s.cf f.bank (ERG_PRS_PORT e k) 0 8
  let r : ParseResult := if f.second then ParseResult.set {} flagSecondPass else {}
  walk (fun n => s.crested f.bank 0x01 e n 128) (fun n => s.crested f.bank 0x02 e n 64) f.bytes
    (s.cf f.bank (ERG_PRS_CFG e) 0 5) start 0 (f.bytes.length - 4) r

/-- What a parse counts (R148, R160). -/
def countParse (s : State) (f : Frame) (e : Nat) (r : ParseResult) : State :=
  let s := s.bump (if f.second then ERG_PRS_SECOND e else ERG_PRS_FRAMES e)
  let s := s.when (r.flag flagDepthExceeded) fun s => s.bump (ERG_PRS_DEPTH_EXC e)
  let s := s.when (r.flag flagWindowEnd) fun s => s.bump (ERG_PRS_WINDOW_END e)
  let s := s.when (r.flag flagLenErr) fun s => s.bump (ERG_PRS_LEN_ERR e)
  s.when (r.flag flagNodeMiss) fun s => s.bump (ERG_PRS_NODE_MISS e)

/-- Two anchors as ERG_PRS_CAP_ANCHORi shows them. -/
def anchorPair (r : ParseResult) (i : Nat) : Nat :=
  let a := fun l => match r.anchor l with | some o => o % 256 + 256 | none => 0
  a (2 * i) + a (2 * i + 1) * 65536

/-- An armed capture takes the result of its port and pass (R160). -/
def capture (s : State) (f : Frame) (e : Nat) (r : ParseResult) : State :=
  let c := s.reg (ERG_PRS_CAP_CTL e)
  let k := if f.second then 16 else portIndex f.port
  if ¬ (s.prs e).capArmed ∨ bits c 1 5 ≠ k ∨ bit c 6 ≠ f.second then s else
  let s := s.each (List.range 5) fun s i => s.setReg (ERG_PRS_CAP_ANCHOR e i) (anchorPair r i)
  let s := (s.setReg (ERG_PRS_CAP_FLAGS e) (r.flags % 2 ^ 32)).setReg (ERG_PRS_CAP_INFO e)
    (r.visits % 32 + r.tags % 8 * 32 + r.last % 256 * 256 + r.fin % 256 * 65536)
  ((s.setBit (ERG_PRS_CAP_CTL e) 8).setBit (ERG_PRS_IRQ_STATUS e) 2).setPrs e { s.prs e with capArmed := false }

/-- A full reorder stage pauses dispatch; room in it ends the pause (R145). -/
def reorderCheck (s : State) (e : Nat) : State :=
  let x := s.prs e
  if 64 ≤ s.reorderFill e then
    if x.paused then s
    else ((s.setPrs e { x with paused := true }).bump (ERG_PRS_REORDER_FULL e)).setBit (ERG_PRS_IRQ_STATUS e) 3
  else s.setPrs e { x with paused := false }

/-! ### Release (R143, R144, R149) -/

/-- The action of R149 on a parse result: 0 classify, 1 drop, 2 trap. -/
def parseAction (s : State) (f : Frame) (e : Nat) : Nat :=
  let c := s.cfg f.bank (ERG_PRS_CFG e)
  let d := if f.parse.flag flagDepthExceeded || f.parse.flag flagWindowEnd then bits c 5 2 else 0
  let l := if f.parse.flag flagLenErr then bits c 7 2 else 0
  if d = 1 ∨ l = 1 then 1 else max d l

/-- The decision of a released frame: an express hit keeps its own (R197), a parse action comes before lookup (R149), and
every other frame is looked up and classified (R161, R194). A frame of an erg that awaits reload is discarded (R87). -/
def released (s : State) (f : Frame) (e : Nat) : State × Decision :=
  if s.rbit CRS_RELOAD (10 + e) then (s.bump CRS_RELOAD_DISCARDS, { discarded := true })
  else if f.dec.express then (s, f.dec) else
  match s.parseAction f e with
  | 1 => (s.bump (ERG_PRS_DROPS e), { discarded := true })
  | 2 =>
    let (pcp, dei) := framePrio f ((s.portDefault f.bank e (portIndex f.port)).getD 0)
    (s.bump (ERG_PRS_TRAPS e), { cpu := some 1, pcp, dei, cls := pcp })
  | _ =>
    match s.classify f e with
    | (s, c) =>
      let d := { c.dec with mirror := c.mirror }
      match c.wadi with
      | some a => (s, { d with dest := .port (65 + e), strip := some a, discarded := false })
      | none => (s, d)

/-- The monitor events of a frame decided: the code of its path, and its octets (R394). -/
def decidedEvents (s : State) (e code : Nat) (f : Frame) : State :=
  (s.event e code 1 { cls := f.dec.cls }).event e 4 f.bytes.length { cls := f.dec.cls }

/-- The tracer sees a frame decided: a first pass of a lane, field or CPU port may be selected (R402, R403). -/
def traceDecided (s : State) (f : Frame) (e : Nat) : State :=
  if f.second then s else
  let s := match renilOf f with
    | some t => s.traceSelect f e (bit t 43 && !bit t 45) (bit t 45)
    | none => s.traceSelect f e false false
  match f.dispatched with
  | some ns => s.traceAt f.root 0 ns
  | none => s

/-- The mark that a selected frame's copies carry (R403). -/
def markTraced (s : State) (f : Frame) : State :=
  match s.frame f.id with
  | some g => s.setFrame { g with trace := f.trace || ((s.traced f.root).isSome && s.rbit MON_TRC_CFG 10) }
  | none => s

/-- A frame leaves the reorder stage, is looked up and classified, and stands decided (R143). A decision with a handle
calls for the caravan (R318). -/
def release (s : State) (f : Frame) (e : Nat) : State :=
  let x := s.prs e
  let s := s.setPrs e { x with released := some (max (x.released.getD 0) f.order) }
  let s := s.traceDecided f e
  let s := s.traceAt f.root 1 s.rawNs
  let (s, d) := s.released f e
  let f := { f with stage := .decided, dec := d }
  let s := ((s.setFrame f).traceAt f.root 2 s.rawNs).decidedEvents e (if f.second then 2 else 1) f
  ((s.markTraced f).reorderCheck e).when d.handle.isSome fun s => s.revote domCaravan

/-- An error of the table memories that a lookup meets (R283, R338): corrected, or the entry is lost in both banks. -/
def tableError (s : State) (x : TableErr) : State :=
  let erg := if x.erg < 4 then x.erg else 0xFF
  if x.corrected then s.raise 13 x.table erg x.index
  else
    let s := ((s.setTab x.table x.erg x.index 0).setTabB false x.table x.erg x.index 0).setTabB true x.table x.erg x.index 0
    s.raise (if x.erg < 4 then 14 else 15) x.table erg x.index

/-- A frame that has reached the erg, has not left the reorder stage and will pass through it (R143). -/
def unreleased (s : State) (f : Frame) : Bool :=
  match f.stage with
  | .waiting => !s.notParsed f && s.reached f
  | .engine _ => true
  | .reorder => true
  | _ => false

/-- The frame of an erg that is next released: the earliest of those that have reached it (R143). -/
def nextRelease (s : State) (e : Nat) : Option Frame := earliest ((s.ergFrames e).filter s.unreleased)

/-- A frame that is next released leaves at its order stamp, if none before it reaches the erg until then (R143). -/
def releaseAt (s : State) (f : Frame) (e : Nat) (ecc : List TableErr) : State :=
  let s := s.elapseToRaw (f.order * nsUnit)
  if (s.nextRelease e).any fun g => g.id == f.id then (s.each ecc fun s x => s.tableError x).release f e else s

/-- REORDER_RELEASE: the earliest frame of the erg, once it is parsed and the raw count has reached its order stamp. -/
def reorderRelease (s : State) (e : Nat) (ecc : List TableErr) : State :=
  if ¬ s.forwarding then s else
  match s.nextRelease e with
  | none => s
  | some f => if f.stage ≠ .reorder then s else s.releaseAt f e ecc

/-- PARSE_COMPLETE: the frame in engine `k` enters the reorder stage; a late one is released at once (R144). While the stage holds
64 frames, a frame stays in its engine, but for the one that is next released: it leaves as from the stage, which could not make
room otherwise (R145; DESIGN CHOICE, log entry 142). -/
def parsed (s : State) (e k : Nat) : State :=
  if ¬ s.forwarding then s else
  match (s.ergFrames e).find? fun f => f.stage == .engine k with
  | none => s
  | some f =>
    let late := (s.prs e).released.any (Nat.blt f.order)
    let full := Nat.ble 64 (s.reorderFill e)
    let next := (s.nextRelease e).any fun g => g.id == f.id
    if full && !late && !next then s else
    let s := s.reorderCheck e
    let r := s.parseFrame f e
    let f := { f with parse := r, stage := .reorder }
    let s := ((s.setFrame f).countParse f e r).capture f e r
    if late then (((s.bump (ERG_PRS_LATE e)).setBit (ERG_PRS_IRQ_STATUS e) 0).raise 34 e f.port).release f e
    else if full then s.releaseAt f e []
    else s.reorderCheck e

/-! ### The second pass (R82, R113, R156) -/

/-- The frame as the recirculate action leaves it, with a new FCS. -/
def stripped (f : Frame) : Bytes :=
  withFcs ((f.bytes.take (f.bytes.length - 4)).drop ((f.dec.strip.bind f.parse.anchor).getD 0))

/-- The head copy of a queue of port 65 + e leaves for the wadi and comes back as a second pass. -/
def wadiSend (s : State) (e : Nat) (c : Copy) (f : Frame) : State :=
  let p := 65 + e
  let a := s.copyAttr c
  let s := (s.chargeSend p c).event 4 6 1 a
  let out := s.outBody c f f.raw
  let n := out.length + 4
  let s := ((((s.event 4 7 n a).stat p stTxOctets n).countSent p n (beAt out 0 6)).bwTx p n).egressMirrors c f out
  if c.own.isSome ∨ f.dec.strip.isNone then (s.releaseCopy c).checkHead c.queue
  else
    let g : Frame := {
      id := s.nextId, port := f.port, bytes := stripped f, bank := f.bank, cnt := f.cnt, raw := f.raw,
      order := f.order + s.cf f.bank (ERG_PRS_WADI e) 0 16, second := true, lastIn := true, root := f.root,
      mirrored := ((s.frame f.id).map (·.mirrored)).getD f.mirrored, recv := some f.bytes, trace := f.trace }
    let s := { s with frames := s.frames ++ [g], nextId := s.nextId + 1 }
    let s := (s.countRx { g with port := p }).countOk { g with port := p }
    let s := (s.releaseCopy c).checkHead c.queue
    s.wake (domErg e)

/-- WADI_RETURN: the copy that port 65 + e chooses is read (R283) and sent. -/
def wadiReturn (s : State) (e : Nat) (ecc : Ecc) : State :=
  let p := 65 + e
  if ¬ s.forwarding ∨ ¬ s.awake domOasis ∨ ¬ s.awake domSched then s else
  match s.portChoice p (s.backlog p) with
  | none => s
  | some o =>
    match s.headCopy o.queue with
    | none => s
    | some c =>
      match s.frame c.frame with
      | none => s
      | some f =>
        match ecc with
        | .good => s.wadiSend e c f
        | .corrected word => (s.eccCorrected word).wadiSend e c f
        | .structural word => (s.eccStructure f c.queue word).checkHead c.queue
        | .data place => s.eccData f place none

/-! ### The express lookup (R36, R154, R155, R197) -/

/-- What the short parse knows of a frame, for the edits that the seif path allows. -/
def seifParse (f : Frame) (k : SeifKey) : ParseResult :=
  let r : ParseResult := { tags := k.tags, lim := f.bytes.length - 4 }
  let r := if 0 < k.tags then r.mark 1 12 else r
  if k.renil.isSome then (r.set 5).mark 2 (12 + 4 * k.tags)
  else match k.rtag with
    | some o => (r.set 6).mark 2 o
    | none => r

/-- A copy needs no L3 or application anchor (R36). -/
def seifEdits (s : State) (f : Frame) (p : Nat) (k : SeifKey) : Bool :=
  f.dec.reDscp.isNone &&
    (s.cf f.bank (TMB_PORT_PTP p) 0 2 == 0 || !(k.etype == 0x88F7 || k.etype == 0x0800 || k.etype == 0x86DD))

/-- The conditions of R36 and R297 hold for the copy of an express hit. -/
def seifPath (s : State) (f : Frame) (k : SeifKey) : Bool :=
  match f.dec.dest with
  | .port p =>
    let t := (s.forwardTarget f 0 p).2
    let g := { f with parse := seifParse f k, dec := { f.dec with seif := true } }
    let seq := f.dec.handle.any fun h =>
      (s.seqOf g (s.streamProfile f.bank h)).isSome || (s.seqEntry f).isSome
    Nat.blt p 64 && s.cbit f.bank OAS_CFG 0 && Nat.ble (s.rate p) (s.rate f.port) &&
      !(s.oas.copies.any fun c => c.queue == t.queue) && s.egressAwake p && s.cbit f.bank (MAC_CFG p) 1 && s.sduReady p t.queue &&
      !s.needsLength g p seq && s.seifEdits f p k && !s.marks { f with rsv := s.reservation f.bank f.dec.handle } (s.chargeFor f) t
  | _ => false

/-- An express hit decided (R155): by the seif path at once, else through the parser with the same result. R36 speaks of the frame's
copy; a frame that its express decision discards has none, and counts as one of the seif path, which decides it at once (DESIGN
CHOICE, log entry 143). -/
def expressTaken (s : State) (f : Frame) (e : Nat) (k : SeifKey) : State :=
  let g := { f with parse := seifParse f k, dispatched := some s.rawNs }
  if f.dec.discarded ∨ s.seifPath f k then
    let g := { g with stage := .decided, dec := { g.dec with seif := true } }
    let s := (((s.setFrame g).bump (ERG_PRS_SEIF_FRAMES e)).traceDecided g e).decidedEvents e 3 g
    (s.markTraced g).when g.dec.handle.isSome fun s => s.revote domCaravan
  else s.setFrame f

/-- Destination address arrival of a port's rate in hundredths of a nanosecond (R35, R106, R132). -/
def addressArrival (mbps : Nat) : Nat :=
  if mbps = 25000 then 190 else if mbps = 100000 then 50 else if mbps = 10000 then 480 else if mbps = 1000 then 4800 else 480000

/-- Meter instant of a frame (R198): its raw stamp and the time to the end of the express lookup at P0, rounded down to
nanoseconds; the lookup ends no earlier than the last byte of the key's EtherType arrives (R154). -/
def meterInstant (s : State) (f : Frame) (k : SeifKey) : Nat :=
  let r := s.portMbps f.bank f.port
  let skew := if s.quad100 f.bank f.port then s.rf (LNE_QUAD_STATUS (f.port / 4)) 8 8 else 0
  let tag := if k.renil.isSome then 8 else if k.rtag.isSome then 6 else 0
  let h := s.nominalDelay f.bank f.port * 10 + skew * 100 + max (addressArrival r + 590) ((14 + 4 * k.tags + tag) * 800000 / r)
  (f.raw.getD 0 0 * 100 + h * nsUnit) / (100 * nsUnit)

/-- An earlier express hit of the erg is still to be looked up: by meter instant, then by port (R198). -/
def meterHeld (s : State) (f : Frame) (e : Nat) (k : SeifKey) : Bool :=
  let n := s.meterInstant f k
  (s.ergFrames e).any fun g => g.id != f.id && g.stage == .waiting && !g.looked && s.seifReads g && !s.notParsed g &&
    match s.seifKey g e with
    | none => false
    | some kg => (s.expressHit g e kg).isSome &&
      (Nat.blt (s.meterInstant g kg) n || (s.meterInstant g kg == n && Nat.blt g.port f.port))

/-- EXPRESS_LOOKUP: the short parse and the express lookup of a frame end. A hit waits, the frame unchanged, while one before it in
the order of R198 is to be looked up, and is metered no earlier than its meter instant, by which every frame of an earlier one has
come. -/
def expressLookup (s : State) (id : Nat) : State :=
  match s.frame id with
  | none => s
  | some f =>
    let e := ergOf f.port
    if ¬ s.forwarding ∨ f.stage ≠ .waiting ∨ f.looked ∨ ¬ s.seifReads f ∨ s.notParsed f then s
    else if ¬ s.awake (domErg e) then s.wake (domErg e)
    else
      let f := { f with looked := true }
      match s.seifKey f e with
      | none => s.setFrame f
      | some k =>
        match if s.rbit CRS_RELOAD (10 + e) then none else s.expressHit f e k with
        | none => s.setFrame f
        | some x =>
          if s.meterHeld f e k then s else
          let s := s.elapseToRaw (s.meterInstant f k * nsUnit)
          let (s, d) := s.expressDecide f e x k
          s.expressTaken { f with dec := d } e k

/-! ### Learning and aging as commands (R172, R173, R175) -/

/-- The update port of an erg works while the erg is on (R173, R175). -/
def ergOn (s : State) (e : Nat) : Bool := Nat.blt e 4 && s.awake (domErg e) && s.forwarding

end State

/-! ### The commands -/

/-- PARSE_DISPATCH, R141 -/
def execParseDispatch (e : Nat) (s : State) : Result := finish (if e < 4 then s.dispatch e else s)

/-- PARSE_COMPLETE, R147 -/
def execParseComplete (e k : Nat) (s : State) : Result := finish (if e < 4 ∧ k < 8 then s.parsed e k else s)

/-- REORDER_RELEASE, R143 -/
def execReorderRelease (e : Nat) (ecc : List TableErr) (s : State) : Result := finish (if e < 4 then s.reorderRelease e ecc else s)

/-- WADI_RETURN, R156 -/
def execWadiReturn (r : WadiRead) (s : State) : Result := finish (if r.erg < 4 then s.wadiReturn r.erg r.ecc else s)

/-- EXPRESS_LOOKUP, R154 -/
def execExpressLookup (id : Nat) (s : State) : Result := finish (s.expressLookup id)

/-- LEARN_BUS_DELIVER, R172: one event every 10 ns, the oasis being on. -/
def execLearnBusDeliver (s : State) : Result := finish (if s.awake domOasis then s.learnBus else s)

/-- LEARN_EVENT_APPLY, R173 -/
def execLearnEventApply (e : Nat) (s : State) : Result := finish (if s.ergOn e then s.applyHead e else s)

/-- AGE_SCAN_STEP, R175 -/
def execAgeScanStep (e : Nat) (s : State) : Result := finish (if s.ergOn e then s.scanStep e else s)

end Sys2Proof.Machine
end

