-- ==== Sys2Proof/Machine/Rings.lean ====
section
/-! DEFINITION. The PCIe endpoint (R346, R347) and the receive and transmit rings (R356 to R360). -/

namespace Sys2Proof.Machine

/-- Fields of a transmit descriptor (R359). -/
structure TxDesc where
  addr : Nat
  len : Nat
  bypass : Bool
  port : Nat
  cls : Nat
  ts : Option (Nat × Nat)
  irq : Bool
  deriving DecidableEq, Repr

/-- A transmit descriptor read from its 256 bits. -/
def txDesc (d : Nat) : TxDesc := {
  addr := bits d 0 64 / 8 * 8, len := bits d 64 14, bypass := bit d 78, port := bits d 79 7, cls := bits d 86 3,
  ts := if bit d 89 then some (bits d 92 16, bits d 90 2) else none, irq := bit d 108 }

namespace State

/-! ### Transmit (R359) -/

/-- The transmit ring whose descriptor is next taken: the first one that has one, from the ring whose turn it is. -/
def nextTxRing (s : State) : Option Nat :=
  ((List.range 16).map fun i => (s.ifc.turn + i) % 16).find? fun r => s.chanOn (16 + r) && s.chanPosted (16 + r)

/-- STATUS and DONE of a transmit descriptor written at HEAD. -/
def txStatus (s : State) (c status : Nat) : State :=
  s.dmaWrite (s.chanSram c) (s.chanDesc c 32 + 24) [BitVec.ofNat 8 status, 1]

/-- A transmit descriptor ends with a status other than DMA_ERROR. Bytes moved are the descriptor read, the frame where it was read
and the 2 bytes written back (log entry 92). -/
def txEnds (s : State) (c : Nat) (d : TxDesc) (status : Nat) : State :=
  (((s.txStatus c status).dmaMoved c (34 + if status = 0 then d.len else 0)).chanAdvance c).complete c d.irq

/-- A frame that passes the size check counts in the receive statistics of port 64 (R117). -/
def countCpu (s : State) (body : Bytes) : State :=
  let f : Frame := { id := s.nextId, port := 64, bytes := withFcs body, bank := s.crest.bank, cnt := [], raw := [], order := 0 }
  (s.countRx f).countOk f

/-- Checks 1 to 3 of R359: the status, and what it counts. -/
def txRefused (s : State) (d : TxDesc) : Option (Nat × State) :=
  let b := s.crest.bank
  if d.len + 4 < 64 then some (2, (s.stat 64 15 1).rawCtr 64 2)
  else if s.maxFrame b 64 < d.len + 4 then some (2, (s.stat 64 17 1).rawCtr 64 3)
  else if ¬ d.bypass then none
  else if 64 ≤ d.port ∨ ¬ s.portExists b d.port then some (3, s.bump (ERG_FWD_NO_PORT 0))
  else if s.maxFrame b d.port < d.len + 4 then some (2, (s.stat d.port stTxOversize 1).rawCtr d.port 11)
  else none

/-- A timestamp asked for without BYPASS or on no port from 0 to 63 is ignored and counts (R55, log entry 88). -/
def ignoredRequest (s : State) (d : TxDesc) : State :=
  s.when (d.ts.isSome && !(d.bypass && Nat.blt d.port 64)) fun s => s.bump TMB_TXTS_REQ_IGNORED

/-- The frame goes to the data plane: on a class queue where BYPASS is 1, else to erg 0. -/
def txInject (s : State) (d : TxDesc) (body : Bytes) (client : Nat) : State :=
  if d.bypass then (s.countCpu body).sendDirect body d.port d.cls client d.ts false else (s.injectFrame body client).1

/-- Client number of the CPU DMA engine, which allocates and releases the buffer of a frame from any transmit ring (R256, R264). -/
def ringClient : Nat := 5

/-- A transmit descriptor is taken. -/
def txTake (s : State) (tx : TxFetch) : State :=
  let c := 16 + tx.ring
  let d := txDesc tx.desc
  let s := s.setIfc { s.ifc with turn := (tx.ring + 1) % 16 }
  if tx.lost ∨ sramBeyond (s.chanSram c) (s.chanDesc c 32) 32 then s.chanError c else
  let s := s.ignoredRequest d
  match s.txRefused d with
  | some (st, s) => s.txEnds c d st
  | none =>
    match s.allocBuffer (d.len + 4) ringClient with
    | (t, none) => t.txEnds c d 1
    | (t, some (cell, _)) =>
      if tx.fail ∨ tx.bytes.length ≠ d.len ∨ sramBeyond (s.chanSram c) d.addr d.len then
        ((t.freeBy cell ringClient).txStatus c 4).chanError c
      else (s.txInject d tx.bytes ringClient).txEnds c d 0

/-- TX_DESCRIPTOR_FETCH: while the data plane forwards, from the ring whose turn it is. -/
def txFetch (s : State) (tx : TxFetch) : State :=
  let s := s.elapse tx.wait
  if s.forwarding ∧ s.nextTxRing = some tx.ring then s.txTake tx else s

/-! ### Receive (R357) -/

/-- Receive ring of a copy to port 64. -/
def cpuRing (s : State) (c : Copy) : Nat := s.cf c.bank (HST_TRAP (c.reason % 16)) 8 4

/-- The head copy of a queue of port 64 has a posted buffer. -/
def cpuReady (s : State) (q : Nat) : Bool :=
  match s.headCopy q with
  | some c => s.chanOn (s.cpuRing c) && s.chanPosted (s.cpuRing c)
  | none => false

/-- The bits of a receive descriptor above ADDR, as a number from bit 64 up. -/
def rxDesc (s : State) (c : Copy) (f : Frame) (n : Nat) (trunc : Bool) : Nat :=
  let tb := s.rf TMB_CTL 0 2
  let st := f.cnt.getD tb 0
  n % 2 ^ 14 + b2n trunc * 2 ^ 14 + f.port * 2 ^ 15 + c.reason % 16 * 2 ^ 22 + f.dec.cls % 8 * 2 ^ 26 + b2n f.bank * 2 ^ 29 +
    b2n f.second * 2 ^ 30 + b2n f.dec.handle.isSome * 2 ^ 31 + f.dec.handle.getD 0 % 2 ^ 24 * 2 ^ 32 + f.dec.vid % 4096 * 2 ^ 56 +
    ns32 st * 2 ^ 68 + frac8 st * 2 ^ 100 + tb * 2 ^ 108 + f.dec.rule.getD 0 % 4096 * 2 ^ 110 + b2n f.dec.rule.isSome * 2 ^ 122 +
    2 ^ 136

/-- Firmware receives an update frame through a ring of its own (R379). -/
def firmwareFrame (s : State) (ring : Nat) (f : Frame) : State :=
  if s.rbit (HST 0x040) ring ∧ (messageStart s.inbandType f.bytes).isSome ∧ beAt f.bytes 0 6 = s.deviceMac then
    s.setBoot { s.boot with inband := s.boot.inband ++ [(f.port, f.bytes)] }
  else s

/-- A copy written to its ring: the frame, the descriptor with DONE last, then HEAD. Bytes moved are the descriptor read, the frame
and the 24 bytes written back (log entry 92). -/
def cpuWrite (s : State) (r : Nat) (c : Copy) (f : Frame) (addr : Nat) (body : Bytes) : State :=
  let buf := s.rf (chanBase r) 8 8 * 64
  let trunc := Nat.blt buf body.length
  let s := s.dmaWrite (s.chanSram r) addr (body.take buf)
  let s := s.dmaWrite (s.chanSram r) (s.chanDesc r 32 + 8) (leBytes 24 (s.rxDesc c f body.length trunc))
  let s := s.when trunc fun s => s.satFld (chanBase r + 0x1C) 16 16 1
  ((((s.dmaMoved r (56 + min buf body.length)).chanAdvance r).complete r true).firmwareFrame r f)

/-- The copy that port 64 chooses leaves for its ring; a failing transfer stops the ring, and the copy stays. -/
def cpuSend (s : State) (rx : RxDeliver) (c : Copy) (f : Frame) : State :=
  let r := s.cpuRing c
  let body := s.outBody c f f.raw
  let n := body.length + 4
  let addr := rx.addr % 2 ^ 64 / 8 * 8
  if rx.fail ∨ sramBeyond (s.chanSram r) (s.chanDesc r 32) 32 ∨ sramBeyond (s.chanSram r) addr (min body.length (s.rf (chanBase r) 8 8 * 64)) then
    s.chanError r
  else
    let a := s.copyAttr c
    let s := ((s.event 4 6 1 a).event 4 7 n a).event 4 10 (b2n c.rsv) a
    let s := ((s.chargeSend 64 c).stat 64 stTxOctets n).countSent 64 n (beAt body 0 6)
    let s := (s.bwTx 64 n).egressMirrors c f body
    let s := s.when (s.follows f c) fun s => (s.traceAt f.root 5 s.rawNs).traceAt f.root 6 s.rawNs
    ((((s.cpuWrite r c f addr body).traceEnd f c 7).releaseCopy c).checkHead c.queue)

/-- CPU_RX_DELIVER. -/
def cpuDeliver (s : State) (rx : RxDeliver) : State :=
  let s := s.elapse rx.wait
  if ¬ s.forwarding ∨ ¬ s.awake domOasis ∨ ¬ s.awake domSched then s else
  match (s.portChoice 64 ((s.backlog 64).filter s.cpuReady)).bind fun o => s.headCopy o.queue with
  | none => s
  | some c =>
    match s.frame c.frame with
    | none => s
    | some f =>
      match rx.ecc with
      | .good => s.cpuSend rx c f
      | .corrected word => (s.eccCorrected word).cpuSend rx c f
      | .structural word => (s.eccStructure f c.queue word).checkHead c.queue
      | .data place => s.eccData f place none

/-! ### The endpoint -/

/-- A read of host memory has been waited for in vain (R347): the channel stops (R360). The channels of the monitors only
write. -/
def readTimeout (s : State) (c : Nat) : State :=
  if 36 ≤ c ∨ ¬ s.chanOn c ∨ s.chanSram c ∨ ¬ s.chanPosted c then s
  else (s.elapse (s.rf (HST 0x004) 0 16 * 250)).chanError c

/-- The link goes down, or an uncorrectable error is reported (R346). -/
def pcieError (s : State) (down : Bool) (status : Nat) : State :=
  if s.inReset then s else
  let s := if down then s.clrBit (HST 0x000) 8 else s
  (s.setBit (HST 0x020) 2).raise 17 status

/-- The link has trained. -/
def pcieUp (s : State) (speed width : Nat) : State :=
  if s.inReset ∨ speed = 0 ∨ 3 < speed ∨ ¬ (width = 1 ∨ width = 2) then s
  else ((s.setFld (HST 0x000) 0 2 speed).setFld (HST 0x000) 4 2 width).setBit (HST 0x000) 8

/-- The host writes configuration space: Bus Master Enable, MSI-X Enable and the function mask; writes that waited go out. -/
def pcieConfig (s : State) (bme msix fmask : Bool) : State :=
  if s.inReset then s else
  let s := ((s.putBit (HST 0x000) 9 bme).putBit (HST 0x000) 10 msix).setIfc { s.ifc with fmask }
  if bme then s.flushPosted else s

end State

/-! ### The commands -/

/-- TX_DESCRIPTOR_FETCH, R359 -/
def execTxDescriptorFetch (tx : TxFetch) (s : State) : Result := finish (s.txFetch tx)

/-- DMA_READ_TIMEOUT, R347 -/
def execDmaReadTimeout (chan : Nat) (s : State) : Result := finish (s.readTimeout chan)

/-- CPU_RX_DELIVER, R357 -/
def execCpuRxDeliver (rx : RxDeliver) (s : State) : Result := finish (s.cpuDeliver rx)

/-- PCIE_LINK_DOWN, R346 -/
def execPcieLinkDown (down : Bool) (status : Nat) (s : State) : Result := finish (s.pcieError down status)

/-- PCIE_LINK_UP, R346 -/
def execPcieLinkUp (speed width : Nat) (s : State) : Result := finish (s.pcieUp speed width)

/-- PCIE_CONFIG_WRITE, R364 -/
def execPcieConfigWrite (bme msix fmask : Bool) (s : State) : Result := finish (s.pcieConfig bme msix fmask)

end Sys2Proof.Machine
end

