-- ==== Sys2Proof/Machine/Show.lean ====
section
/-! DEFINITION. What a read of a register returns (R7, R11, R71, R353) and what it changes (R57, R265, R408). The modes and
sequencers that registers report are shown over the stored bits. -/

namespace Sys2Proof.Machine

/-- One bit of a word at a place. -/
def flagAt (b : Bool) (i : Nat) : Nat := b2n b * 2 ^ i

namespace State

/-! ### Live bits, block by block; `v` is the stored word and `o` the offset in the block -/

/-- GLB (R365). -/
def showGlb (s : State) (o v : Nat) : Nat :=
  match o with
  | 0x004 => Config.serial % 2 ^ 32
  | 0x008 => Config.serial / 2 ^ 32 % 2 ^ 32
  | 0x00C => s.mode.code + flagAt (s.mode == .recovery && s.recFromHandover) 3
  | 0x010 => s.ifc.straps % 8 + s.ifc.sbAddr % 4 * 16
  | _ => v

/-- CRS (R89). -/
def showCrs (s : State) (o v : Nat) : Nat :=
  match o with
  | 0x004 => v / 16 * 16 + s.crestCode + flagAt (s.crest.phase != .opened) 2 + flagAt s.crest.bank 3
  | 0x01C => s.crestId
  | 0x030 => s.drainCount (!s.crest.bank)
  | _ => v

/-- TMB (R65). -/
def showTmb (s : State) (o v : Nat) : Nat :=
  match o with
  | 0x010 => s.txtsPending 0
  | 0x014 => s.txtsPending 32
  | _ =>
    if o < 0x1000 ∨ 0x1800 ≤ o then v else
    let p := (o - 0x1000) / 0x20
    match o % 0x20 with
    | 0x10 => v / 16 * 16 + (s.txtsQueue p).length % 16
    | 0x18 => s.txtsLo p
    | 0x1C => s.txtsHi p
    | _ => v

/-- Idle time that remains to a domain in µs, rounded up (R319): IDLE_US while an ON vote holds it there, none where no idle
time is kept (DEDUCED, log entry 123). -/
def idleLeft (s : State) (d : Nat) : Nat :=
  match s.idleEnd d with
  | some e => ceilDiv (e - s.time.clk) 250
  | none => if heeds d && s.powerRuns && s.domState d == 0 && s.domPhase d == 0 then s.rf (PWR_D_CFG d) 8 16 else 0

/-- The idle time of a domain is counting (R319). -/
def idleRuns (s : State) (d : Nat) : Bool := (s.idleEnd d).any fun e => Nat.blt s.time.clk e

/-- PWR (R333). MAIN_OK tells which supply AO runs from now (DESIGN CHOICE, log entry 122). -/
def showPwr (s : State) (o v : Nat) : Nat :=
  if o = 0x008 then v / 2 * 2 + b2n !s.mainLost
  else if 0x100 ≤ o ∧ o < 0x3C0 ∧ o % 0x20 = 0x0C then
    let d := (o - 0x100) / 0x20
    v % 16 + s.voteBits d * 16 + flagAt (s.idleRuns d) 11 + s.idleLeft d * 2 ^ 16
  else if 0x400 ≤ o ∧ o % 16 = 8 then v % 16 + s.effPoint ((o - 0x400) / 16) * 16
  else v

/-- FLT (R345). -/
def showFlt (s : State) (o v : Nat) : Nat :=
  match o with
  | 0x004 => v / 8 * 8 + b2n (s.mode == .safe) + flagAt s.grave 1 + flagAt s.faultLow 2
  | 0x058 => s.wdogLeft
  | _ => v

/-- HST (R366). -/
def showHst (s : State) (o v : Nat) : Nat :=
  match o with
  | 0x030 => vecWord s.vecCond 0
  | 0x034 => vecWord s.vecCond 32
  | 0x9000 => vecWord s.vecPba 0
  | 0x9004 => vecWord s.vecPba 32
  | _ => v

/-- Seconds that remain of the confirmation window, rounded up (R385). -/
def confirmLeft (s : State) : Nat :=
  match s.boot.confirmAt with
  | none => 0
  | some t => ceilDiv (t + s.rf (NVM 0x008) 0 12 * 250000000 - s.time.clk) 250000000

/-- NVM (R391). -/
def showNvm (s : State) (o v : Nat) : Nat :=
  match o with
  | 0x000 => setBits v 5 1 (b2n s.boot.confirmAt.isSome)
  | 0x00C => s.confirmLeft
  | 0x01C => match s.boot.session with
    | none => 0
    | some x => 1 + x.kind % 4 * 2 + s.slotField x.slot 2 1 % 2 * 8 + x.received % 2 ^ 24 * 2 ^ 8
  | _ => v

/-- A filter of a counter stands on an attribute that its event lacks (R395). -/
def filterIgnored (s : State) (u k : Nat) : Bool :=
  let c := s.reg (MON_U_CTR u k)
  let has := monAttrs u (bits c 0 8)
  (!bit has 0 && s.rf (MON_U_CLASSES u k) 0 8 != 0xFF) || (!bit has 1 && bit c 21) || (!bit has 2 && bits c 10 3 != 7) ||
    (!bit has 3 && bit c 13) || (!bit has 4 && bit c 20)

/-- MON (R408). -/
def showMon (s : State) (o v : Nat) : Nat :=
  if o = 0x044 then s.bufferWord
  else if o = 0x09C then v / 16 % 2 * 16 + s.mon.ergs % 16 + (s.mon.traced.filter fun t => t.outcome.isNone).length % 128 * 2 ^ 8
  else if o < 0x1000 then v
  else
    let u := (o - 0x1000) / 0x200
    let r := (o - 0x1000) % 0x200
    match r with
    | 0x000 => s.mon.cyc.getD u 0 % 2 ^ 32
    | 0x004 => s.mon.cyc.getD u 0 / 2 ^ 32
    | 0x008 => v % 256 + s.domState (unitDomain u) * 256
    | _ => if 0x40 ≤ r ∧ r % 0x20 = 0 then setBits v 31 1 (b2n (s.filterIgnored u ((r - 0x40) / 0x20))) else v

/-- MAC of port `p` (R140). -/
def showMac (s : State) (p o v : Nat) : Nat :=
  if o = 0x044 then setBits (v % 2 ^ 16) 2 1 (b2n (s.beacons p)) + s.dwellLeft p * 2 ^ 16 else v

/-- Parse engines of an erg at work. -/
def enginesBusy (s : State) (e : Nat) : Nat :=
  (s.ergFrames e).foldl (fun a f => match f.stage with | .engine k => a ||| 2 ^ k | _ => a) 0

/-- ERG_FWD_LOCK_STATUS (R193). -/
def showLock (s : State) (e : Nat) : Nat :=
  match (s.fw e).lock with
  | none => 0
  | some l => 1 + requesterNum l.holder * 2 + l.first % 256 * 2 ^ 8 + l.last % 256 * 2 ^ 16 +
      min 127 ((s.time.clk - l.since) / 250000) * 2 ^ 24

/-- Learned entries of an erg. -/
def learnedFill (s : State) (e : Nat) : Nat := ((s.listed tblFdb e).filter fun x => fdbKind x.2 == 1 && !fdbStatic x.2).length

/-- Static entries of an erg. -/
def staticFill (s : State) (e : Nat) : Nat := ((s.listed tblFdb e).filter fun x => fdbStatic x.2).length

/-- Slots of the stash in use. -/
def stashFill (s : State) (e : Nat) : Nat := ((s.listed tblFdb e).filter fun x => Nat.ble 131072 x.1 && !fdbFree x.2).length

/-- ERG of erg `e` (R160, R193). -/
def showErg (s : State) (e o v : Nat) : Nat :=
  match o with
  | 0x010 => min 127 (s.reorderFill e) + s.enginesBusy e % 256 * 2 ^ 8 + flagAt (s.dispatchPaused e) 16
  | 0x1010 => s.showLock e
  | 0x1014 => s.learnedFill e
  | 0x1018 => s.staticFill e % 2 ^ 18 + s.stashFill e % 128 * 2 ^ 24
  | 0x101C => (s.fw e).inbound.length % 512 + flagAt (s.fw e).headHeld 9
  | 0x300C => v / 2 * 2 + b2n (s.fw e).mir.running
  | _ => v

/-- OAS (R286), as requester `rq` reads it. OAS_SHARED_FREE shows what is free from reset on, though the map's Reset column has 0
(DESIGN CHOICE, log entry 122). -/
def showOas (s : State) (rq : Requester) (o v : Nat) : Nat :=
  match o with
  | 0x010 => s.sharedFree
  | 0x014 => s.cellsUsed
  | 0x018 => s.descFree
  | 0x01C => s.pinUsed
  | 0x020 => s.accounts.foldl (fun a x => a + x.2) 0
  | 0x084 => s.allocResult rq
  | _ =>
    if o = 0x044 ∨ o = 0x054 ∨ o = 0x064 ∨ o = 0x074 then
      s.carved ((o - 0x044) / 0x10) % 2 ^ 14 + (s.poolFree ((o - 0x044) / 0x10)).length % 2 ^ 14 * 2 ^ 16
    else v

/-- CVN_HEARDi (R254): age in ms, at most 35. -/
def showHeard (s : State) (i r : Nat) : Nat :=
  match s.cvn.heard.getD i none with
  | none => 0
  | some h => match r with
    | 0x0 => h.mac % 2 ^ 32
    | 0x4 => h.mac / 2 ^ 32 % 2 ^ 16 + 2 ^ 31
    | 0x8 => h.claim
    | _ => min 35 ((s.rawCount 0 - h.stamp) / (1000000 * nsUnit))

/-- CVN_COUPLE_STATUS. FWD shows 1 from reset on, as coupling off always forwards (R247), though the map's Reset column has 0
(DESIGN CHOICE, log entry 122). -/
def coupleStatus (s : State) : Nat :=
  b2n s.cvn.fwd + b2n s.cvn.win * 2 + b2n s.cvn.yielding * 4 + b2n s.cvn.silentAt.isSome * 8 + b2n s.cvn.ownAt.isSome * 16 +
    (s.cvn.heard.filter (·.isSome)).length * 256

/-- CVN (R254). -/
def showCvn (s : State) (o v : Nat) : Nat :=
  if o = 0x22C then s.coupleStatus
  else if 0x240 ≤ o ∧ o < 0x280 then s.showHeard ((o - 0x240) / 16) (o % 16)
  else v

/-- SCH (R313). -/
def showSch (s : State) (o v : Nat) : Nat :=
  if 0x1000 ≤ o ∧ o % 0x40 = 0x24 then
    let p := (o - 0x1000) / 0x40
    let (g, i) := s.gateStatus p
    g % 256 + i % 1024 * 2 ^ 8 + flagAt (s.mac p).held.isSome 18 +
      flagAt (s.sched.voting.any fun x => x / 8 == p) 19
  else v

/-- The stored word with the live bits of its block. -/
def showWord (s : State) (rq : Requester) (b : Block) (o v : Nat) : Nat :=
  match b with
  | .glb => s.showGlb o v
  | .crs => s.showCrs o v
  | .tmb => s.showTmb o v
  | .pwr => s.showPwr o v
  | .flt => s.showFlt o v
  | .hst => s.showHst o v
  | .nvm => s.showNvm o v
  | .mon => s.showMon o v
  | .lne _ => v
  | .mac p => s.showMac p o v
  | .erg e => s.showErg e o v
  | .oas => s.showOas rq o v
  | .cvn => s.showCvn o v
  | .sch => s.showSch o v

end State

end Sys2Proof.Machine
end

