-- ==== Sys2Proof/Machine/Effects.lean ====
section
/-! DEFINITION. What a write of a register stores and does (R7, R9, R10, R69, R70 and the chapter of each block). -/

namespace Sys2Proof.Machine

/-- Channel whose registers hold an offset: receive rings 0 to 15, transmit rings 16 to 31, table channels 32 to 35
(R366). -/
def channelOf (off : Nat) : Option Nat := if 0x50400 ≤ off ∧ off < 0x50880 then some ((off - 0x50400) / 0x20) else none

/-- The key of GLB_TEST_CTL, FLT_WDOG_KICK and NVM_FW_CTL (R365, R341, R385). -/
abbrev keyTest : Nat := 0x7E57
@[inherit_doc keyTest] abbrev keyKick : Nat := 0xA5C3
@[inherit_doc keyTest] abbrev keyConfirm : Nat := 0xC0F1

namespace State

/-! ### Writes that are ignored -/

/-- Owner of a channel (R356, R361). -/
def channelOwner (s : State) (c : Nat) : Requester :=
  if c < 32 then (if s.rbit (HST 0x040) c then .mgmt else .host) else chanRequester c

/-- A write of the requester to the register is ignored: votes of the other side (R317), rings and channels of the other side
(R356, R361), and the registers that one side alone may write (R341, R345, R356, R365, R391). -/
def ignoresWrite (s : State) (rq : Requester) (off : Nat) : Bool :=
  match channelOf off with
  | some c => s.channelOwner c != rq
  | none =>
    if 0x30100 ≤ off ∧ off < 0x303C0 ∧ off % 0x20 = 0x04 then rq == .mgmt
    else if 0x30100 ≤ off ∧ off < 0x303C0 ∧ off % 0x20 = 0x08 then rq == .host
    else if off = GLB_FW_VERSION ∨ off = NVM 0x010 ∨ off = FLT 0x054 ∨ off = FLT 0x024 then rq == .host
    else if off = HST 0x040 ∨ off = GLB_TEST_CTL then rq == .mgmt
    else if 0x61000 ≤ off ∧ off < 0x62040 then rq == .mgmt
    else false

/-! ### Effects, block by block -/

/-- GLB_TEST_CTL (R31, R32, R365): in TEST every domain is ON (R316). -/
def testControl (s : State) (v : Nat) : State :=
  if bits v 16 16 ≠ keyTest then s
  else if bit v 0 ∧ s.mode = .run then s.each (List.range 22) (fun s d => s.wake d) |>.setMode .test
  else if bit v 1 ∧ s.mode = .test then s.reload
  else s

/-- CRS_COMMIT: GO arms a commit (R73); a write with ABORT acts as ABORT, whatever its GO (R77, R89). -/
def commitControl (s : State) (v : Nat) : State :=
  if bit v 1 then (s.setReg CRS_COMMIT (v % 32 / 4 * 4)).crestAbort
  else if bit v 0 then s.crestGo v
  else s.setReg CRS_COMMIT (v % 32 / 4 * 4)

/-- CRS (R89): with the check off, MATCH reads 0 (R86). -/
def crsWritten (s : State) (o : Nat) : State :=
  if o = 0 ∧ ¬ s.rbit CRS_CTL 0 then s.clrBit CRS_DIGEST_STATUS 1 else s

/-- TMB_TBn_CMD: 1 is SET, 2 is STEP (R41); gates move with their time base (R300), and an armed commit may fall due at once
(R76). -/
def timeCommand (s : State) (n v : Nat) : State :=
  match v % 4 with
  | 1 => ((s.tbSet n).gatesMoved s).commitIfDue
  | 2 => ((s.tbStep n).gatesMoved s).commitIfDue
  | _ => s

/-- TMB (R44, R60). -/
def tmbWritten (s : State) (o v : Nat) : State :=
  if o = 0x004 then (if bit v 0 then s.snapTake else s)
  else if 0x100 ≤ o ∧ o < 0x200 ∧ o % 0x40 = 0x30 then s.timeCommand ((o - 0x100) / 0x40) v
  else if 0x300 ≤ o ∧ o < 0x400 ∧ o % 0x40 < 0x18 then s.tioWritten ((o - 0x300) / 0x40)
  else s

/-- PWR (R317, R319, R326, R328, R330). -/
def pwrWritten (s : State) (o : Nat) : State :=
  if o = 0x000 then s.avsSwitched
  else if o = 0x020 then s.each (List.range 22) fun s d => s.revote d
  else if 0x100 ≤ o ∧ o < 0x3C0 then (if o % 0x20 < 0x0C then s.voted ((o - 0x100) / 0x20) else s)
  else if 0x400 ≤ o ∧ o % 16 = 0 then s.perfAsk
  else s

/-- FLT (R341, R345); `old` is what the register held. -/
def fltWritten (s : State) (o old v : Nat) : State :=
  match o with
  | 0x000 =>
    let s := if bit v 1 then s.setReg (FLT 0x03C) 0 else s
    if bit v 2 then s.setFld (FLT 0x064) 8 8 (s.rf (FLT 0x064) 0 8) else s
  | 0x020 => if s.rbit (FLT 0x000) 0 then s.occur { src := v % 64, injected := true } else s
  | 0x024 => s.raise 0 (v % 65536)
  | 0x050 => if s.rbit (FLT 0x050) 0 ∧ ¬ bit old 0 then s.wdogRestart else s
  | 0x054 => if v % 65536 = keyKick then s.wdogRestart else s
  | _ => s

/-- CTL of a ring or a table channel: EN = 1 sets HEAD and TAIL to 0; EN from 0 to 1 ends a stop (R356, R360). -/
def channelEnable (s : State) (c old : Nat) : State :=
  if ¬ s.rbit (chanBase c) 0 then s.setPow { s.pow with waiting := s.pow.waiting.filter fun w => 32 + w.req.chan != c } else
  let s := (s.setReg (chanBase c + 0x0C) 0).setReg (chanBase c + 0x10) 0
  if bit old 0 then s else s.clrBit (chanBase c + 0x1C) 0

/-- HST_RING_OWNER: the owner of a ring whose EN is 1 stays (R356). -/
def ownersKept (s : State) (old : Nat) : State :=
  s.each (List.range 32) fun s c => if s.rbit (chanBase c) 0 then s.putBit (HST 0x040) c (bit old c) else s

/-- Vectors taken out of service by a write of HST_VEC_REARM (R364). -/
def rearm (s : State) (base v : Nat) : State :=
  s.setIfc { s.ifc with service := s.ifc.service.filter fun x => !(Nat.ble base x && Nat.blt x (base + 32) && bit v (x - base)) }

/-- HST (R356 to R364). -/
def hstWritten (s : State) (o old v : Nat) : State :=
  match channelOf (HST o) with
  | some c =>
    if o % 0x20 = 0x00 then s.channelEnable c old
    else if o % 0x20 = 0x18 then s.acknowledge c (v % 4096)
    else s
  | none =>
    if o = 0x040 then s.ownersKept old
    else if o = 0x048 then s.rearm 0 v
    else if o = 0x04C then s.rearm 32 v
    else s

/-- The firmware confirms the image that runs (R385). -/
def confirm (s : State) : State :=
  match s.boot.confirmAt, s.slotIn kindFw slotPending with
  | some _, some j => ((s.setSlots [(j, slotActive)]).setBoot { s.boot with confirmAt := none }).clrBit (NVM 0) 5
  | _, _ => s

/-- NVM_MBX_CTL.POST (R379): refused in LOAD and while a message is under way. -/
def mailboxPost (s : State) : State :=
  if s.mode = .load ∨ s.rbit (NVM 0x020) 1 then s.bump (NVM 0x108)
  else ((s.setBit (NVM 0x020) 1).setPow { s.pow with mgmtEvent := true }).revote domMgmt

/-- NVM (R379, R385). -/
def nvmWritten (s : State) (o v : Nat) : State :=
  match o with
  | 0x010 => if bit v 0 ∧ bits v 16 16 = keyConfirm then s.confirm else s
  | 0x020 => if bit v 0 then s.mailboxPost else s
  | _ => s

/-- MON (R397, R399, R402, R406). -/
def monWritten (s : State) (o old v : Nat) : State :=
  match o with
  | 0x000 => s.monControl v
  | 0x020 => s.dumpConfig old
  | 0x080 => s.tracerConfig
  | 0x098 => s.tracerRead
  | _ => s

/-- LNE of quad `q` (R98, R107, R108): a checker whose pattern changes has to lock again. -/
def lneWritten (s : State) (q o old v : Nat) : State :=
  if o = 0x008 then s.laneRestart q (v % 16)
  else if 0x100 ≤ o ∧ o % 0x100 = 0x24 then
    let p := 4 * q + (o - 0x100) / 0x100
    let s := if s.rf (LNE_L_TEST p) 3 3 = bits old 3 3 then s else s.clrBit (LNE_L_PRBS_STATUS p) 0
    if bit v 9 then s.prbsInject p else s
  else s

/-- MAC of port `p` (R135, R138). -/
def macWritten (s : State) (p o v : Nat) : State :=
  if o = 0x058 then (if bit v 0 then s.statClear p else s)
  else if o = 0x040 then (if bit v 0 then s.clearFallback p else s)
  else s

/-- ERG of erg `e` (R160, R191): a capture is armed; a write of ERG_MIR_CTL lets a skipped check start again. -/
def ergWritten (s : State) (e o v : Nat) : State :=
  if o = 0x180 then
    (if bit v 0 then (s.clrBit (ERG_PRS_CAP_CTL e) 8).setPrs e { s.prs e with capArmed := true } else s)
  else if o = 0x1004 then s.ageWritten e
  else if o = 0x3000 then
    let m := (s.fw e).mir
    s.setMirage e { m with waiting := false, running := m.running && s.rbit (ERG_MIR_CTL e) 0 }
  else s

/-- OAS (R261, R262, R265). -/
def oasWritten (s : State) (rq : Requester) (o v : Nat) : State :=
  if o = 0x080 then s.allocRequest rq (v % 2 ^ 14)
  else if o = 0x088 then s.freeBy (v % 2 ^ 18) (clientOf rq)
  else if o = 0x094 then (if bit v 0 then s.clearFreeLog else s)
  else s

/-- An empty ring can lose its first report again (R234). -/
def ringRead (s : State) (r : Nat) : State :=
  if s.rf (CVN_RING_CONS r) 0 20 = s.rf (CVN_RING_PROD r) 0 20 then s.withCvn { s.cvn with overran := s.cvn.overran.set r false } else s

/-- EN = 1 sets PROD and CONS of a stale-stream ring to 0 (R254). -/
def ringEnable (s : State) (r : Nat) : State :=
  if s.rbit (CVN_RING_CTL r) 0 then (((s.setReg (CVN_RING_PROD r) 0).setReg (CVN_RING_CONS r) 0)).ringRead r else s

/-- CVN (R234, R246, R247); `mode` is the coupling mode that was in force. -/
def cvnWritten (s : State) (o mode : Nat) : State :=
  if o = 0x200 then s.coupleModeWas mode
  else if o = 0x204 then s.coupleEval
  else if o = 0x100 ∨ o = 0x120 then s.ringEnable ((o - 0x100) / 0x20)
  else if o = 0x110 ∨ o = 0x130 then s.ringRead ((o - 0x110) / 0x20)
  else s

/-- What a write of `v` to an immediate register does beside storing; `old` is what the register held, `mode` the coupling
mode before the write. -/
def written (s : State) (rq : Requester) (b : Block) (o old v mode : Nat) : State :=
  match b with
  | .glb => if o = 0x014 then s.testControl v else s
  | .crs => s.crsWritten o
  | .tmb => s.tmbWritten o v
  | .pwr => s.pwrWritten o
  | .flt => s.fltWritten o old v
  | .hst => s.hstWritten o old v
  | .nvm => s.nvmWritten o v
  | .mon => s.monWritten o old v
  | .lne q => s.lneWritten q o old v
  | .mac p => s.macWritten p o v
  | .erg e => s.ergWritten e o v
  | .oas => s.oasWritten rq o v
  | .cvn => s.cvnWritten o mode
  | .sch => s

/-! ### Storing -/

/-- A write of a staged register: to the pending bank in OPEN, discarded and counted otherwise (R69, R70). -/
def stagedWrite (s : State) (r : RegRow) (off v : Nat) : State :=
  if s.crest.phase = .opened then s.setCfg (!s.crest.bank) off (storeWrite r.fields (s.cfg (!s.crest.bank) off) v)
  else (s.bump CRS_FROZEN_WRITES).setBit CRS_STATUS 6

/-- A write of an always-on register waits for the next edge of the 32.768 kHz clock (R353). -/
def aoWrite (s : State) (off v : Nat) : State := s.setIfc { s.ifc with aoWrites := s.ifc.aoWrites ++ [(off, v)] }

/-- A write of an immediate register; CRS_COMMIT is stored by its own rule (R73). -/
def immediateWrite (s : State) (rq : Requester) (b : Block) (base : Nat) (r : RegRow) (off v : Nat) : State :=
  if aoServed off then s.aoWrite off v
  else if off = CRS_COMMIT then s.commitControl v
  else
    let old := s.reg off
    (s.setReg off (storeWrite r.fields old v)).written rq b (off - base) old v s.coupleMode

/-- A write of a listed register of the normal view, through the port of the loader where nothing is refused (R372). -/
def portWrite (s : State) (rq : Requester) (off v : Nat) : State :=
  match findReg off, blockOf off with
  | some (r, _), some (b, base) => if r.staged then s.stagedWrite r off v else s.immediateWrite rq b base r off v
  | _, _ => s

/-- A write of a listed register of the normal view by a requester. -/
def registerWrite (s : State) (rq : Requester) (off v : Nat) : State := if s.ignoresWrite rq off then s else s.portWrite rq off v

/-! ### Reading -/

/-- The stored word that a read shows: a staged register's pending value in OPEN and ARMED and its active value otherwise and
in the active-mirror view (R71), an always-on register's copy (R353). -/
def readStored (s : State) (r : RegRow) (off : Nat) (mirror : Bool) : Nat :=
  if r.staged then
    let pending := !mirror && (s.crest.phase == .opened || s.crest.phase == .armed)
    s.cfg (s.crest.bank != pending) off
  else if aoServed off then sparseGet regReset off s.ifc.aoCopy
  else s.reg off

/-- What a read changes beside RC fields: the head of a timestamp queue goes (R57), an allocation result is taken (R265), the
address of the dump buffer moves on (R400). -/
def readEffect (s : State) (rq : Requester) (off : Nat) : State :=
  if 0x21000 ≤ off ∧ off < 0x21800 ∧ off % 0x20 = 0x1C then s.txtsPop ((off - 0x21000) / 0x20)
  else if off = OAS_ALLOC_RESULT then s.setAllocResult rq (s.allocResult rq % 2 ^ 31)
  else if off = MON 0x044 then s.wrapFld MON_DUMP_BUF_ADDR 2 14
  else s

/-- A read of a listed register: the state after it and the word returned. -/
def registerRead (s : State) (rq : Requester) (off : Nat) (mirror : Bool) : State × Nat :=
  match findReg off, blockOf off with
  | some (r, _), some (b, base) =>
    let v := readValue r.fields (s.showWord rq b (off - base) (s.readStored r off mirror))
    let s := if r.fields.any (fun f => f.acc == .rc) then s.setReg off (afterRead r.fields (s.reg off)) else s
    (if mirror then s else s.readEffect rq off, v)
  | _, _ => (s, 0)

end State

end Sys2Proof.Machine
end

