-- ==== Sys2Proof/Machine/Boot.lean ====
section
/-! DEFINITION. LOAD (R367 to R373): headers, the firmware check, the sections of the crest image and the first commit. -/

namespace Sys2Proof.Machine

/-- Image areas of management SRAM (R384). -/
def imageArea (areaB : Bool) : Nat := if areaB then 0x0F0000 else 0

/-- Bytes of one entry of a table in a section or a record (R362, R372). -/
def entryBytes (x : TableSpec) : Nat := (x.width + 63) / 64 * 8

/-- A section's entries exist (R373): its table, its erg and every index. -/
def sectionExists (x : TableSpec) (sec : Section) (n : Nat) : Bool :=
  (if x.perErg then Nat.blt sec.erg 4 else sec.erg == 0xFF) && Nat.ble (sec.first + n) x.entries && x.kind != .readOnly &&
    !(x.num == tblVlan && x.perErg && sec.erg != 0 && Nat.blt 8226 (sec.first + n))

namespace State

/-! ### Images of the slots -/

/-- The strap asks for two slots (R367). -/
def strapTwo (s : State) : Bool := s.ifc.straps == 1 || s.ifc.straps == 3

/-- The firmware slot that runs or is being loaded. -/
def fwSlot (s : State) : Option Nat := s.slotNumbered kindFw (s.rf (NVM 0) 3 1)

/-- A slot's image read into an image area of SRAM, and the check of R371. -/
def imageCheck (s : State) (j : Nat) (areaB err : Bool) : State × Bool :=
  let b := s.slotBytes j
  (s.sramWrite (imageArea areaB) b, !err && firmwareGood b (s.headerField 24 4))

/-- RECOVERY is entered from LOAD. -/
def toRecovery (s : State) : State := (s.setBoot { s.boot with stage := 4 }).setMode .recovery

/-! ### Headers and the choice of slots (steps 2 and 3 of R373) -/

/-- The firmware slot in use is numbered in NVM_STATUS. -/
def showFwSlot (s : State) (j : Nat) : State := s.setFld (NVM 0) 3 1 (s.slotField j 2 1)

/-- The firmware slot to load: the one in ACTIVE; in a two-slot NVM with one in CONFIRM_PENDING the PREVIOUS one, which becomes
ACTIVE, while the pending one is BAD (R385). -/
def chooseFirmware (s : State) : State :=
  let pend := if s.twoSlot then s.slotIn kindFw slotPending else none
  let s := match pend with
    | none => s
    | some j =>
      let n := s.slotField j 2 1
      let s := s.setSlots ((j, slotBad) :: (match s.slotIn kindFw slotPrevious with | some i => [(i, slotActive)] | none => []))
      (s.bump (NVM 0x110)).raise 22 n
  match s.slotIn kindFw slotActive with
  | none => s.toRecovery
  | some j => (s.showFwSlot j).setBoot { s.boot with stage := 1, retried := false }

/-- A valid header is in use: the last accepted counter is not below its COUNTER (R378). -/
def useHeader (s : State) (copyB : Bool) : State :=
  let s := (s.setBoot { s.boot with header := true }).putBit (NVM 0) 2 copyB
  (s.setReg (NVM 0x024) (max (s.reg (NVM 0x024)) (s.headerField 28 4))).chooseFirmware

/-- A read of the NVM fails in LOAD: the domains are reset, and the step is tried once more (R373). -/
def loadFails (s : State) (addr : Nat) : State :=
  ((s.resetPlane).bump (NVM 0x114)).raise 20 addr

/-- NVM_HEADER_READ: SFDP and both headers. -/
def headerRead (s : State) (part : NvmPart) : State :=
  if s.mode ≠ .load ∨ s.boot.stage ≠ 0 ∨ s.inReset then s else
  let s := s.each part.content fun s x => s.nvmWrite x.1 x.2
  if ¬ part.sfdp ∨ part.density < 2 ^ 23 then (s.raise 20 0).toRecovery
  else
    let two := s.strapTwo && Nat.ble (2 ^ 24) part.density
    let s := ((s.putBit (NVM 0) 0 two).putBit (NVM 0) 1 (s.strapTwo && !two)).setFld (NVM 0) 8 8 part.density.log2
    let s := s.setFld (NVM 0) 16 8 (min 104 part.clock)
    if part.err then
      let s := s.loadFails 0
      if s.boot.retried then s.toRecovery else s.setBoot { s.boot with retried := true }
    else match s.chooseHeader (b2n two) with
      | some copyB => s.useHeader copyB
      | none => (s.raise 20 0).toRecovery

/-! ### Firmware (step 4) -/

/-- Another slot of a kind in ACTIVE or PREVIOUS. -/
def otherSlot (s : State) (kind j : Nat) : Option Nat :=
  (s.slotsOf kind).find? fun i => i != j && (s.slotState i == slotActive || s.slotState i == slotPrevious)

/-- The other crest slot, where it holds a whole image: in ACTIVE, PREVIOUS or STAGED (DEDUCED, log entry 98). -/
def otherCrest (s : State) (j : Nat) : Option Nat :=
  (s.slotsOf kindCrest).find? fun i => i != j && [slotActive, slotPrevious, slotStaged].contains (s.slotState i)

/-- A firmware slot fails: the other one is loaded, or RECOVERY is entered. -/
def firmwareFails (s : State) (j : Nat) : State :=
  let s := s.raise 21 (s.slotField j 2 1)
  match s.otherSlot kindFw j with
  | some i => (((s.setSlots [(j, slotBad), (i, slotActive)]).bump (NVM 0x110)).showFwSlot i).setBoot { s.boot with retried := false }
  | none => s.toRecovery

/-- The crest slot in ACTIVE is taken (step 5). -/
def chooseCrest (s : State) : State :=
  match s.slotIn kindCrest slotActive with
  | none => s.toRecovery
  | some j => (s.setFld (NVM 0) 4 1 (s.slotField j 2 1)).setBoot { s.boot with stage := 2, retried := false, applied := 0, next := 64 }

/-- FW_IMAGE_CHECK: the selected image is read into area A and checked. -/
def firmwareCheck (s : State) (err : Bool) : State :=
  if s.mode ≠ .load ∨ s.boot.stage ≠ 1 ∨ s.inReset then s else
  match s.fwSlot with
  | none => s.toRecovery
  | some j =>
    if err ∧ ¬ s.boot.retried then (s.loadFails (s.slotBase j)).setBoot { s.boot with retried := true }
    else match s.imageCheck j false err with
      | (s, true) => (s.setBoot { s.boot with areaB := false }).chooseCrest
      | (s, false) => s.firmwareFails j

/-! ### Crest sections (steps 5 to 7) -/

/-- A type 1 record, through the loader's own port, or skipped. -/
def loaderRecord (s : State) (off v : Nat) : State :=
  match findReg off with
  | some (r, _) => if allRo r.fields then (s.bump (NVM 0x118)).setBit (NVM 0) 7 else s.portWrite .mgmt off v
  | none => (s.bump (NVM 0x118)).setBit (NVM 0) 7

/-- The type 1 records of a body, each BAR0 offset and value. -/
def bodyRecords (b : Bytes) : List (Nat × Nat) :=
  (List.range (b.length / 8)).map fun i => (ofLe ((b.drop (8 * i)).take 4), ofLe ((b.drop (8 * i + 4)).take 4))

/-- Entry `i` of a type 2 body. -/
def bodyEntry (x : TableSpec) (b : Bytes) (i : Nat) : Nat := ofLe ((b.drop (i * entryBytes x)).take (entryBytes x))

/-- An entry written for the pending bank: a crested one with the pending flag 1; a prefix entry enters the filters with it
(R181). -/
def loadEntry (s : State) (x : TableSpec) (e i v : Nat) : State :=
  let v := if x.kind = .crested then setBits v (x.width - 2 + b2n (!s.crest.bank)) 1 1 else v
  let s := (s.tableWriteSlot x e i v).1
  if x.num = tblPrefix then s.bloomNote e (tableStore tblPrefix 0 0 v) else s

/-- The erg under which a table is stored. -/
def storeErg (x : TableSpec) (e : Nat) : Nat := if x.perErg then e else 4

/-- A type 2 section, or its skip. -/
def loadTable (s : State) (sec : Section) : State :=
  match tableSpec sec.table with
  | none => s.setBit (NVM 0) 6
  | some x =>
    let n := sec.body.length / entryBytes x
    if sectionExists x sec n then
      s.each (List.range n) fun s i => s.loadEntry x (storeErg x sec.erg) (sec.first + i) (bodyEntry x sec.body i)
    else s.setBit (NVM 0) 6

/-- A section is applied; the settings of type 3 are the firmware's own. -/
def loadSection (s : State) (sec : Section) : State :=
  match sec.kind with
  | 1 => s.each (bodyRecords sec.body) fun s x => s.loaderRecord x.1 x.2
  | 2 => s.loadTable sec
  | _ => s

/-- CRS_PEND_CREST_ID and CRS_REF_DIGEST from the crest header (R372). -/
def crestIds (s : State) (b : Bytes) : State :=
  let le := fun (o : Nat) => ofLe ((b.drop o).take 4)
  ((s.portWrite .mgmt CRS_PEND_CREST_ID (le 8)).portWrite .mgmt CRS_REF_DIGEST_HI (le 12)).portWrite .mgmt CRS_REF_DIGEST_LO (le 16)

/-- The crest slot fails: the step is tried once more, then the slot is BAD and the other one is taken. -/
def crestFails (s : State) (j addr : Nat) : State :=
  let again := s.boot.retried
  let s := s.loadFails addr
  if ¬ again then s.setBoot { s.boot with retried := true, applied := 0, next := 64 }
  else match s.otherCrest j with
    | some i => (s.setSlots [(j, slotBad), (i, slotActive)]).chooseCrest
    | none => (s.setSlots [(j, slotBad)]).toRecovery

/-- After the last section: identifiers, and a commit with MODE 0 and TB 0. -/
def firstCommit (s : State) (b : Bytes) : State := ((s.crestIds b).crestGo 1).setBoot { s.boot with stage := 3 }

/-- CREST_SECTION_APPLY: the next section of the crest slot in ACTIVE. -/
def sectionApply (s : State) (err : Bool) : State :=
  if s.mode ≠ .load ∨ s.boot.stage ≠ 2 ∨ ¬ s.boot.ready ∨ s.inReset then s else
  match s.slotIn kindCrest slotActive with
  | none => s.toRecovery
  | some j =>
    let b := s.slotBytes j
    let count := ofLe ((b.drop 20).take 4)
    let sec := sectionAt b s.boot.next
    if err ∨ ¬ crestHeaderGood b then s.crestFails j (s.slotBase j)
    else if count ≤ s.boot.applied then s.firstCommit b
    else if ¬ sec.good then s.crestFails j (s.slotBase j + s.boot.next)
    else
      let s := s.loadSection sec
      let s := s.setBoot { s.boot with applied := s.boot.applied + 1, next := s.boot.next + 16 + sec.body.length }
      if count ≤ s.boot.applied then s.firstCommit b else s

end State

/-! ### The commands -/

/-- NVM_HEADER_READ, R369 -/
def execNvmHeaderRead (part : NvmPart) (s : State) : Result := finish (s.headerRead part)

/-- FW_IMAGE_CHECK, R371 -/
def execFwImageCheck (err : Bool) (s : State) : Result := finish (s.firmwareCheck err)

/-- CREST_SECTION_APPLY, R372 -/
def execCrestSectionApply (err : Bool) (s : State) : Result := finish (s.sectionApply err)

end Sys2Proof.Machine
end

