-- ==== Sys2Proof/Machine/Bus.lean ====
section
/-! DEFINITION. The register bus (R348 to R353): views, modes, bus errors, accesses that wait for a sleeping domain (R323,
R324), and every command that is one register access. -/

namespace Sys2Proof.Machine

/-- The MSI-X table and the PBA (R350, R366). -/
def inMsix (addr : Nat) : Bool := (Nat.ble 0x58000 addr && Nat.blt addr 0x58400) || (Nat.ble 0x59000 addr && Nat.blt addr 0x59008)

/-- A block that the mode admits (R30). -/
def modeAdmits (m : Mode) (recFromHandover write : Bool) (b : Block) : Bool :=
  let start := match b with | .glb | .hst | .nvm => true | _ => false
  let flt := match b with | .flt => true | _ => false
  match m with
  | .load => start
  | .recovery => recFromHandover || start || flt
  | .safe => !write && (flt || b == .glb)
  | _ => true

/-- The request is one aligned word (R350); the host may reach the MSI-X table and PBA otherwise. -/
def wholeWord (rq : Requester) (addr : Nat) (whole : Bool) : Bool := addr % 4 == 0 && (whole || (rq == .host && inMsix addr))

namespace State

/-! ### Bus errors (R351) -/

/-- The kind of bus error that an access meets: 3, 1, 4, 0 in this order, none where it is served. -/
def accessError (s : State) (rq : Requester) (addr : Nat) (write whole : Bool) : Option Nat :=
  let off := viewOff addr
  if ¬ wholeWord rq addr whole then some 3
  else if (blockOf off).any fun x => !modeAdmits s.mode s.recFromHandover write x.1 then some 1
  else if inMirror addr then (if write ∨ ¬ regStaged off then some 4 else none)
  else if (findReg off).isNone then some 0
  else none

/-- A bus error is recorded and raised; in SAFE the fault record alone tells of it (R343, R351). -/
def busError (s : State) (rq : Requester) (addr kind : Nat) (write : Bool) : State :=
  let s := if s.mode = .safe then s else
    (((s.setReg (HST 0x010) addr).setReg (HST 0x014) (requesterNum rq + kind * 2 + b2n write * 16)).bump (HST 0x018)).setBit (HST 0x020) 0
  s.raise 16 addr (requesterNum rq) kind

/-- A read completes. -/
def readDone (s : State) (rq : Requester) (addr : Nat) (ok : Bool) (value : Nat) : State :=
  s.setIfc { s.ifc with reads := s.ifc.reads ++ [{ rq, addr, ok, value }] }

/-- An access fails. -/
def accessFails (s : State) (x : Stalled) (kind : Nat) : State :=
  let s := s.busError x.rq x.addr kind x.write.isSome
  if x.write.isSome then s else s.readDone x.rq x.addr false 0

/-! ### Service -/

/-- What an access carries for the monitors' filters (R394, R395): the core's accesses as firmware supervisor. -/
def busAttr (x : Stalled) : Attr := { priv := requesterNum x.rq, master := requesterNum x.rq, addr := x.addr }

/-- An access of less than a word to the MSI-X table moves bytes that are open (log entry 2). -/
def accessWord (s : State) (x : Stalled) (v : Word) : Nat × State :=
  if x.whole then (v.toNat, s)
  else match s.draw with
    | (w, s) => (w.toNat, s)

/-- The part of a written value that acts where the monitor of the register bus counts the write itself: a wrap bit that the
count sets in this cycle stays set (R8). -/
def settingWins (s : State) (off v : Nat) (a : Attr) : Nat :=
  if off = MON_U_STATUS 6 ∨ off = MON_IRQ_STATUS then
    let set := ((s.setReg off 0).event 6 2 1 a).reg off
    (v ||| set) ^^^ set
  else v

/-- COUNT of a counter of the register bus's own monitor unit, to which an increment in the cycle of its write is added (R397). -/
def ownCount (off : Nat) : Bool := (List.range 8).any fun k => off == MON_U_COUNT 6 k

/-- A write is served: it counts as one, and what that sets stays set (R8, R397). -/
def serveWrite (s : State) (x : Stalled) (v : Word) : State :=
  let off := viewOff x.addr
  if ownCount off then (s.registerWrite x.rq off v.toNat).event 6 2 1 (busAttr x)
  else match (s.event 6 2 1 (busAttr x)).accessWord x v with
    | (v, t) => t.registerWrite x.rq off (s.settingWins off v (busAttr x))

/-- An access is served. -/
def serve (s : State) (x : Stalled) : State :=
  match x.write with
  | some v => s.serveWrite x v
  | none =>
    match (s.event 6 1 1 (busAttr x)).registerRead x.rq (viewOff x.addr) (inMirror x.addr) with
    | (s, v) =>
      match s.accessWord x (BitVec.ofNat 32 v) with
      | (v, s) => s.readDone x.rq x.addr true v

/-- The domain that an access needs is not ON (R323). -/
def asleep (s : State) (x : Stalled) : Bool := !s.awake (domOfReg (viewOff x.addr))

/-- An access reaches the head of the bus: it fails, is served, or stalls and wakes its domain. -/
def atHead (s : State) (x : Stalled) : State :=
  match s.accessError x.rq x.addr x.write.isSome x.whole with
  | some k => s.accessFails x k
  | none =>
    let d := domOfReg (viewOff x.addr)
    if s.asleep x then
      let s := (s.bump (PWR_D_STALLS d)).wake d
      s.setPow { s.pow with stalled := x :: s.pow.stalled }
    else (s.demand d).serve x

/-- Accesses that wait are taken in arrival order until one stalls (R352). -/
def takeWaiting (s : State) : Nat → State
  | 0 => s
  | n + 1 =>
    match s.pow.stalled with
    | [] => s
    | x :: rest =>
      let t := (s.setPow { s.pow with stalled := rest }).atHead x
      if t.pow.stalled.length ≤ rest.length then t.takeWaiting n else t

/-- The access that stalls is looked at again: served where its domain is ready or the mode now refuses it, and those behind
it after it. -/
def resumeBus (s : State) : State :=
  match s.pow.stalled with
  | [] => s
  | x :: _ =>
    if (s.accessError x.rq x.addr x.write.isSome x.whole).isSome ∨ ¬ s.asleep x then s.takeWaiting s.pow.stalled.length else s

/-- An access from a requester: nothing while the device is in reset, nor from a management core that is halted (R30). The bus
serves one access at a time (R352). -/
def access (s : State) (x : Stalled) : State :=
  if s.inReset ∨ (x.rq = .mgmt ∧ (s.mode = .test ∨ s.mode = .safe)) then s
  else if s.pow.stalled.isEmpty then s.atHead x
  else s.setPow { s.pow with stalled := s.pow.stalled ++ [x] }

/-- A register access as a command. -/
def busAccess (s : State) (rq : Requester) (addr : Nat) (write : Option Word) (whole : Bool) : State :=
  (s.setIfc { s.ifc with reads := [] }).access { rq, addr, write, whole, since := s.time.clk }

/-- A write of a whole word. -/
def busWrite (s : State) (rq : Requester) (addr : Nat) (v : Word) : State := s.busAccess rq addr (some v) true

/-- A read of a whole word. -/
def busRead (s : State) (rq : Requester) (addr : Nat) : State := s.busAccess rq addr none true

/-! ### Wakes -/

/-- The domain is ready: a block reset that waited for it acts, the watchdog starts again with the management core (R341), and
the accesses and table requests that waited are served. -/
def wakeComplete (s : State) (d : Nat) (bad : List KeepErr) : State :=
  if s.domPhase d ≠ 2 then s else
  let s := s.domainReady d bad
  let s := if d = domMgmt then s.wdogRestart else s
  let late := s.pow.resetLate.contains d
  let s := if late then (s.setPow { s.pow with resetLate := s.pow.resetLate.erase d }).blockReset d else s
  ((s.setIfc { s.ifc with reads := [] }).resumeBus).resumeRequests

/-- The access at the head has stalled for 100 µs (R324). -/
def stallTimeout (s : State) : State :=
  match s.pow.stalled with
  | [] => s
  | x :: rest =>
    let s := s.elapseFrom x.since 25000
    let s := (s.setPow { s.pow with stalled := rest }).setIfc { s.ifc with reads := [] }
    let s := ((s.bump PWR_STALL_TIMEOUTS).setBit PWR_IRQ_STATUS 1).raise 53 (domOfReg (viewOff x.addr)) x.addr
    let s := s.accessFails x 2
    s.takeWaiting rest.length

end State

/-! ### The commands -/

/-- REGISTER_WRITE, R351 -/
def execRegisterWrite (rq : Requester) (addr : Nat) (v : Word) (whole : Bool) (s : State) : Result :=
  finish (s.busAccess rq addr (some v) whole)

/-- REGISTER_READ, R351 -/
def execRegisterRead (rq : Requester) (addr : Nat) (whole : Bool) (s : State) : Result := finish (s.busAccess rq addr none whole)

/-- TEST_ENTER, R365: GLB_TEST_CTL.ENTER with its key -/
def execTestEnter (rq : Requester) (s : State) : Result := finish (s.busWrite rq GLB_TEST_CTL 0x7E570001)

/-- TEST_EXIT, R365: GLB_TEST_CTL.EXIT with its key -/
def execTestExit (rq : Requester) (s : State) : Result := finish (s.busWrite rq GLB_TEST_CTL 0x7E570002)

/-- TB_SET, R41 -/
def execTbSet (rq : Requester) (n : Nat) (s : State) : Result := finish (if n < 4 then s.busWrite rq (TMB_TB_CMD n) 1 else s)

/-- TB_STEP, R41 -/
def execTbStep (rq : Requester) (n : Nat) (s : State) : Result := finish (if n < 4 then s.busWrite rq (TMB_TB_CMD n) 2 else s)

/-- TB_TRIM_WRITE, R40 -/
def execTbTrimWrite (rq : Requester) (n : Nat) (v : Word) (s : State) : Result :=
  finish (if n < 4 then s.busWrite rq (TMB_TB_TRIM n) v else s)

/-- TMB_SNAP_TAKE, R44 -/
def execTmbSnapTake (rq : Requester) (s : State) : Result := finish (s.busWrite rq TMB_SNAP 1)

/-- TXTS_POP, R57 -/
def execTxtsPop (rq : Requester) (p : Nat) (s : State) : Result := finish (if p < 64 then s.busRead rq (TMB_TXTS_HI p) else s)

/-- CRS_GO, R73 -/
def execCrsGo (rq : Requester) (v : Word) (s : State) : Result := finish (s.busWrite rq CRS_COMMIT (v ||| 1))

/-- CRS_ABORT, R77 -/
def execCrsAbort (rq : Requester) (v : Word) (s : State) : Result := finish (s.busWrite rq CRS_COMMIT (v ||| 2))

/-- LANE_RESTART, R98 -/
def execLaneRestart (rq : Requester) (q mask : Nat) (s : State) : Result :=
  finish (if q < 8 then s.busWrite rq (LNE_QUAD_CTL q) (BitVec.ofNat 32 (mask % 16)) else s)

/-- PRBS_INJECT, R108: LNE_Ll_TEST written back with INJECT. -/
def execPrbsInject (rq : Requester) (p : Nat) (s : State) : Result :=
  finish (if p < 32 then s.busWrite rq (LNE_L_TEST p) (BitVec.ofNat 32 (s.reg (LNE_L_TEST p) % 512 + 512)) else s)

/-- CLEAR_FALLBACK, R135 -/
def execClearFallback (rq : Requester) (p : Nat) (s : State) : Result :=
  finish (if 32 ≤ p ∧ p < 64 then s.busWrite rq (MAC_FLD_CTL p) 1 else s)

/-- MAC_STAT_CLEAR, R138 -/
def execMacStatClear (rq : Requester) (p : Nat) (s : State) : Result :=
  finish (if p < 69 then s.busWrite rq (MAC_STAT_CTL p) 1 else s)

/-- COUPLE_CTL_WRITE, R247 -/
def execCoupleCtlWrite (rq : Requester) (v : Word) (s : State) : Result := finish (s.busWrite rq CVN_COUPLE_CTL v)

/-- COUPLE_CLAIM_WRITE, R246 -/
def execCoupleClaimWrite (rq : Requester) (v : Word) (s : State) : Result := finish (s.busWrite rq CVN_COUPLE_CLAIM v)

/-- CVN_RING_ENABLE, R254: a write of CVN_RINGr_CTL with EN = 1 -/
def execCvnRingEnable (rq : Requester) (r : Nat) (v : Word) (s : State) : Result :=
  finish (if r < 2 then s.busWrite rq (CVN_RING_CTL r) (v ||| 1) else s)

/-- OAS_ALLOC_REQ, R265 -/
def execOasAllocReq (rq : Requester) (v : Word) (s : State) : Result := finish (s.busWrite rq OAS_ALLOC_REQ v)

/-- OAS_ALLOC_RESULT_READ, R265 -/
def execOasAllocResultRead (rq : Requester) (s : State) : Result := finish (s.busRead rq OAS_ALLOC_RESULT)

/-- OAS_FREE, R261 -/
def execOasFree (rq : Requester) (v : Word) (s : State) : Result := finish (s.busWrite rq OAS_FREE v)

/-- DFREE_LOG_CLEAR, R262 -/
def execDfreeLogClear (rq : Requester) (s : State) : Result := finish (s.busWrite rq OAS_DFREE_LOG_CTL 1)

/-- DOMAIN_WAKE_COMPLETE, R314 -/
def execDomainWakeComplete (d : Nat) (bad : List KeepErr) (s : State) : Result := finish (if d < 22 then s.wakeComplete d bad else s)

/-- STALL_TIMEOUT, R324 -/
def execStallTimeout (s : State) : Result := finish s.stallTimeout

/-- PWR_VOTE_WRITE, R317: the requester's own VOTE register -/
def execPwrVoteWrite (rq : Requester) (d : Nat) (v : Word) (s : State) : Result :=
  finish (if d < 22 then s.busWrite rq (match rq with | .host => PWR_D_VOTE_HOST d | .mgmt => PWR_D_VOTE_FW d) v else s)

/-- PWR_LOW_WRITE, R319 -/
def execPwrLowWrite (rq : Requester) (d : Nat) (v : Word) (s : State) : Result :=
  finish (if d < 22 then s.busWrite rq (PWR_D_CFG d) v else s)

/-- PERF_REQ_WRITE, R326 -/
def execPerfReqWrite (rq : Requester) (e : Nat) (v : Word) (s : State) : Result :=
  finish (if e < 4 then s.busWrite rq (PWR_ERG_PERF_REQ e) v else s)

/-- WDOG_KICK, R341 -/
def execWdogKick (rq : Requester) (v : Word) (s : State) : Result := finish (s.busWrite rq (FLT 0x054) v)

/-- FLT_INJECT, R345 -/
def execFltInject (rq : Requester) (v : Word) (s : State) : Result := finish (s.busWrite rq (FLT 0x020) v)

/-- FLT_FW_REPORT, R345 -/
def execFltFwReport (rq : Requester) (v : Word) (s : State) : Result := finish (s.busWrite rq (FLT 0x024) v)

/-- FLT_CLASS_CLEAR, R345: FLT_CTL written back with CLASS_CLEAR -/
def execFltClassClear (rq : Requester) (s : State) : Result :=
  finish (s.busWrite rq (FLT 0x000) (BitVec.ofNat 32 (s.reg (FLT 0x000) % 2 + 2)))

/-- FLT_MAX_CLEAR, R345: FLT_CTL written back with MAX_CLEAR -/
def execFltMaxClear (rq : Requester) (s : State) : Result :=
  finish (s.busWrite rq (FLT 0x000) (BitVec.ofNat 32 (s.reg (FLT 0x000) % 2 + 4)))

/-- RING_ENABLE, R356: a write of a channel's CTL with EN = 1 -/
def execRingEnable (rq : Requester) (ring : Nat) (v : Word) (s : State) : Result :=
  finish (if ring < 36 then s.busWrite rq (chanBase ring) (v ||| 1) else s)

/-- RING_ACK, R363 -/
def execRingAck (rq : Requester) (ring : Nat) (v : Word) (s : State) : Result :=
  finish (if ring < 36 then s.busWrite rq (chanBase ring + 0x18) v else s)

/-- VEC_REARM, R364 -/
def execVecRearm (rq : Requester) (hi : Bool) (v : Word) (s : State) : Result := finish (s.busWrite rq (HST (if hi then 0x04C else 0x048)) v)

/-- MBX_POST, R379 -/
def execMbxPost (rq : Requester) (s : State) : Result := finish (s.busWrite rq (NVM 0x020) 1)

/-- FW_CONFIRM, R385 -/
def execFwConfirm (rq : Requester) (v : Word) (s : State) : Result := finish (s.busWrite rq (NVM 0x010) v)

/-- MON_RUN_WRITE, R397 -/
def execMonRunWrite (rq : Requester) (v : Word) (s : State) : Result := finish (s.busWrite rq MON_CTL v)

/-- MON_CLEAR, R397: a write of MON_CTL with CLEAR -/
def execMonClear (rq : Requester) (v : Word) (s : State) : Result := finish (s.busWrite rq MON_CTL (v ||| 2))

/-- MON_SNAP, R397: a write of MON_CTL with SNAP -/
def execMonSnap (rq : Requester) (v : Word) (s : State) : Result := finish (s.busWrite rq MON_CTL (v ||| 4))

/-- MON_COUNT_WRITE, R396 -/
def execMonCountWrite (rq : Requester) (u k : Nat) (v : Word) (s : State) : Result :=
  finish (if u < 7 ∧ k < 8 then s.busWrite rq (MON_U_COUNT u k) v else s)

/-- DUMP_ENABLE, R399: a write of MON_DUMP_CFG with EN = 1 -/
def execDumpEnable (rq : Requester) (v : Word) (s : State) : Result := finish (s.busWrite rq MON_DUMP_CFG (v ||| 1))

/-- DUMP_BUF_READ, R400 -/
def execDumpBufRead (rq : Requester) (s : State) : Result := finish (s.busRead rq (MON 0x044))

/-- TRC_ENABLE, R402: a write of MON_TRC_CFG -/
def execTrcEnable (rq : Requester) (v : Word) (s : State) : Result := finish (s.busWrite rq MON_TRC_CFG v)

/-- TRC_DISABLE, R402: a write of MON_TRC_CFG with ERGS = 0 -/
def execTrcDisable (rq : Requester) (v : Word) (s : State) : Result := finish (s.busWrite rq MON_TRC_CFG (v &&& 0xFFFFFFF0))

end Sys2Proof.Machine
end

