-- ==== Sys2Proof/Machine/Update.lean ====
section
/-! DEFINITION. Update and management messages (R377 to R390): the update session, activation and handover, the confirmation
window, crest activation and admission, and LLDP. -/

namespace Sys2Proof.Machine

/-- Message types (R377). -/
abbrev msgOpen : Nat := 1
@[inherit_doc msgOpen] abbrev msgBlock : Nat := 2
@[inherit_doc msgOpen] abbrev msgClose : Nat := 3
@[inherit_doc msgOpen] abbrev msgActivate : Nat := 4
@[inherit_doc msgOpen] abbrev msgRevert : Nat := 5
@[inherit_doc msgOpen] abbrev msgService : Nat := 6
@[inherit_doc msgOpen] abbrev msgStatus : Nat := 7

/-- Statuses of a reply (R382). -/
abbrev stOk : Nat := 0
@[inherit_doc stOk] abbrev stCrc : Nat := 1
@[inherit_doc stOk] abbrev stAuth : Nat := 2
@[inherit_doc stOk] abbrev stReplay : Nat := 3
@[inherit_doc stOk] abbrev stOffset : Nat := 4
@[inherit_doc stOk] abbrev stSession : Nat := 5
@[inherit_doc stOk] abbrev stTarget : Nat := 6
@[inherit_doc stOk] abbrev stDelta : Nat := 7
@[inherit_doc stOk] abbrev stNvmError : Nat := 8
@[inherit_doc stOk] abbrev stBusy : Nat := 9
@[inherit_doc stOk] abbrev stImageBad : Nat := 10
@[inherit_doc stOk] abbrev stState : Nat := 11

/-- A message taken by the update engine. -/
structure Msg where
  asked : Asked
  payload : Bytes
  tag : Bytes
  deriving DecidableEq, Repr

/-- A little-endian field of a message's header. -/
def Msg.field (m : Msg) (o n : Nat) : Nat := ofLe ((m.asked.head.drop o).take n)
/-- Type. -/
def Msg.type (m : Msg) : Nat := m.field 2 1
/-- Session identifier. -/
def Msg.session (m : Msg) : Nat := m.field 4 4
/-- Counter. -/
def Msg.counter (m : Msg) : Nat := m.field 8 4
/-- Target kind. -/
def Msg.kind (m : Msg) : Nat := m.field 12 1
/-- Target slot index. -/
def Msg.slot (m : Msg) : Nat := m.field 13 1
/-- Offset. -/
def Msg.offset (m : Msg) : Nat := m.field 16 4
/-- Bytes that the tag covers. -/
def Msg.covered (m : Msg) : Bytes := m.asked.head ++ m.payload

/-- A message read from bytes: its header, as many bytes of payload as that says, and its tag. -/
def readMsg (b : Bytes) (via : Option (Nat × Bytes)) : Msg :=
  let n := ofLe ((b.drop 14).take 2)
  { asked := { head := b.take 32, via }, payload := (b.drop 32).take n, tag := (b.drop (32 + n)).take 32 }

/-- The CRC-32C and the payload length are right (R377). -/
def Msg.crcGood (m : Msg) : Bool :=
  m.asked.head.length == 32 && m.field 14 2 == m.payload.length && Nat.ble m.payload.length 4096 &&
    m.field 20 4 == crc32c (m.asked.head.take 20 ++ m.payload)

namespace State

/-! ### What arrives (R378, R379) -/

/-- The mailbox's message is being answered: its reply waits for a commit or for a check. -/
def mailboxTaken (s : State) : Bool :=
  (s.boot.atCommit.any fun a => a.asked.via.isNone) || s.boot.handover.any fun h => h.asked.any fun a => a.via.isNone

/-- The update engine runs: firmware or the ROM recovery service answers. -/
def engineRuns (s : State) : Bool := (s.mode == .run || s.mode == .handover || s.mode == .recovery) && !s.inReset

/-- The message next taken, the mailbox's first, and the state without it. -/
def nextMessage (s : State) : Option (Msg × State) :=
  if s.rbit (NVM 0x020) 1 ∧ ¬ s.mailboxTaken then some (readMsg s.mailbox none, s)
  else match s.boot.inband with
    | [] => none
    | (p, f) :: rest =>
      match messageStart s.inbandType f with
      | none => some (readMsg [] (some (p, [])), s.setBoot { s.boot with inband := rest })
      | some n => some (readMsg (f.drop n) (some (p, f.take n)), s.setBoot { s.boot with inband := rest })

/-- In-band messages are accepted: both enables, and a valid header. -/
def inbandOn (s : State) : Bool := s.cbit s.crest.bank (NVM 0x014) 0 && bit (s.headerField 13 1) 1

/-- The message must be authentic and fresh (R378). -/
def mustAuthenticate (s : State) (m : Msg) : Bool := m.asked.via.isSome || bit (s.headerField 13 1) 0

/-- The status of a message that fails CRC, tag or counter. -/
def msgError (s : State) (m : Msg) : Option Nat :=
  if ¬ m.crcGood then some stCrc
  else if ¬ s.mustAuthenticate m then none
  else if m.tag ≠ hmacSha256 s.mgmtKey m.covered then some stAuth
  else if m.counter ≤ s.reg (NVM 0x024) then some stReplay
  else none

/-- A message is accepted: its counter is the last accepted one (R378). -/
def accepted (s : State) (m : Msg) : State := s.setReg (NVM 0x024) (max (s.reg (NVM 0x024)) m.counter)

/-- A message accepted and answered OK. -/
def answerOk (s : State) (m : Msg) (payload : Bytes) : State := (s.accepted m).answer m.asked stOk payload

/-- A message refused. -/
def refuse (s : State) (m : Msg) (status : Nat) : State := s.answer m.asked status []

/-- Types that the recovery service takes (R387). -/
def recoveryTypes : List Nat := [msgOpen, msgBlock, msgClose, msgActivate, msgStatus]

/-- The next message is taken where `mine` says that the command is about it: answered BUSY in a handover and while services
are paused (R382, R390), else checked and handed to `f`. -/
def takeMessage (s : State) (mine : Msg → Bool) (f : State → Msg → State) : State :=
  if ¬ s.engineRuns then s else
  match s.nextMessage with
  | none => s
  | some (m, t) =>
    if ¬ mine m then s else
    let u :=
      if m.asked.via.isSome ∧ ¬ s.inbandOn then t
      else if t.mode = .handover ∨ t.boot.paused ∨ t.boot.handover.isSome then t.refuse m stBusy
      else match t.msgError m with
        | some st => t.refuse m st
        | none => if t.mode = .recovery ∧ ¬ recoveryTypes.contains m.type then t.refuse m stState else f t m
    u.setPow { u.pow with mgmtEvent := !u.boot.inband.isEmpty }

/-! ### The session (R380, R381) -/

/-- The target slot and the base of an OPEN; none where the target may not be built. -/
def openTarget (s : State) (m : Msg) : Option (Nat × Option Nat) :=
  match s.slotNumbered m.kind m.slot with
  | none => none
  | some j =>
    if ¬ s.slotGood j ∨ ¬ (m.kind = kindFw ∨ (m.kind = kindCrest ∧ s.mode = .run)) then none
    else if ¬ s.twoSlot then some (j, some j)
    else if s.slotState j = slotActive ∨ s.slotState j = slotPending then none
    else
      let base := s.slotIn m.kind slotActive
      if base.isNone ∧ s.mode = .run then none else some (j, base)

/-- HASH8 of a slot entry. -/
def hash8 (s : State) (j : Nat) : Bytes := leBytes 8 (s.slotField j 20 8)

/-- OPEN. -/
def doOpen (s : State) (m : Msg) (err : Bool) : State :=
  if s.boot.session.isSome then s.refuse m stSession else
  match s.openTarget m with
  | none => s.refuse m stTarget
  | some (j, base) =>
    let length := ofLe ((m.payload.drop 8).take 4)
    if m.payload.length ≠ 12 ∨ s.slotSize j < length ∨ base.any (fun i => s.hash8 i != m.payload.take 8) then s.refuse m stTarget
    else if err then s.refuse m stNvmError
    else
      let s := s.accepted m
      let s := s.rewriteHeader [stateAt j slotBuilding, (28, leBytes 4 (s.reg (NVM 0x024)))]
      (s.setBoot { s.boot with
        session := some { id := m.session, kind := m.kind, slot := j, base := base.getD j, length, last := s.time.clk } }).answerOk m []

/-- The delta instructions of a block from output position `pos` (R381): the bytes they write, none where one is refused.
`copies` where COPY is allowed, `fuel` at least the number of bytes. -/
def deltaFrom (s : State) (x : Session) (copies : Bool) : Nat → Nat → Bytes → Option Bytes
  | _, _, [] => some []
  | 0, _, _ => none
  | n + 1, pos, b =>
    let len := ofLe ((b.drop 1).take 3)
    match b.headD 0 with
    | 1 =>
      let src := ofLe ((b.drop 4).take 4)
      if b.length < 8 ∨ ¬ copies ∨ x.length < pos + len ∨ s.slotField x.base 12 4 < src + len ∨ (¬ s.twoSlot ∧ src < pos) then none
      else (s.deltaFrom x copies n (pos + len) (b.drop 8)).map (s.nvmBytes (s.slotBase x.base + src) len ++ ·)
    | 2 =>
      if b.length < 4 + len ∨ x.length < pos + len then none
      else (s.deltaFrom x copies n (pos + len) (b.drop (4 + len))).map ((b.drop 4).take len ++ ·)
    | _ => none

/-- Output joins the session: whole sectors are written, the rest waits. -/
def output (s : State) (x : Session) (b : Bytes) (delta : Nat) : State :=
  let all := x.tail ++ b
  let n := all.length / 4096 * 4096
  let s := s.nvmWrite (s.slotBase x.slot + (x.written - x.tail.length)) (all.take n)
  s.setBoot { s.boot with
    session := some { x with written := x.written + b.length, received := x.received + delta, tail := all.drop n, last := s.time.clk } }

/-- The session is abandoned and its target left BAD. -/
def abandon (s : State) (x : Session) : State := (s.setSlots [(x.slot, slotBad)]).setBoot { s.boot with session := none }

/-- The open session of a message's identifier. -/
def sessionOf (s : State) (m : Msg) : Option Session := s.boot.session.filter fun x => x.id == m.session

/-- BLOCK. -/
def doBlock (s : State) (m : Msg) (err : Bool) : State :=
  match s.sessionOf m with
  | none => s.refuse m stSession
  | some x =>
    if x.received < m.offset then s.refuse m stOffset
    else if m.offset < x.received then (s.setBoot { s.boot with session := some { x with last := s.time.clk } }).answerOk m []
    else match s.deltaFrom x (s.mode == .run) m.payload.length x.written m.payload with
      | none => s.refuse m stDelta
      | some b => if err then (s.abandon x).refuse m stNvmError else (s.output x b m.payload.length).answerOk m []

/-- The target becomes STAGED with LENGTH, VERSION and HASH8 of the output; the version stands in bytes 8 to 11 of either
kind of image (R371, R372). -/
def stage (s : State) (x : Session) : State :=
  let s := s.nvmWrite (s.slotBase x.slot + (x.written - x.tail.length)) x.tail
  let b := s.nvmBytes (s.slotBase x.slot) x.length
  let e := 64 + 32 * x.slot
  (s.rewriteHeader [stateAt x.slot slotStaged, (e + 12, leBytes 4 x.length), (e + 16, (b.drop 8).take 4),
    (e + 20, (sha256 b).take 8)]).setBoot { s.boot with session := none }

/-- CLOSE. -/
def doClose (s : State) (m : Msg) (err : Bool) : State :=
  match s.sessionOf m with
  | none => s.refuse m stSession
  | some x =>
    if x.written ≠ x.length then s.refuse m stTarget
    else if err then (s.abandon x).refuse m stNvmError
    else (s.stage x).answerOk m []

/-- SESSION_IDLE_EXPIRE. -/
def sessionExpire (s : State) : State :=
  match s.boot.session with
  | none => s
  | some x => if ¬ s.engineRuns then s else (s.elapseFrom x.last (s.rf (NVM 0x018) 0 16 * 250000000)).abandon x

/-! ### Firmware activation and handover (R383 to R387) -/

/-- The slot that an ACTIVATE names. -/
def activateSlot (s : State) (m : Msg) : Option Nat := (s.slotNumbered m.kind m.slot).filter s.slotGood

/-- ACTIVATE of a firmware target: the image engine begins its check, in RUN as a HANDOVER. -/
def activateFirmware (s : State) (m : Msg) : State :=
  if s.boot.session.isSome then s.refuse m stSession else
  match s.activateSlot m with
  | none => s.refuse m stTarget
  | some j =>
    if s.mode = .run ∧ s.slotState j ≠ slotStaged then s.refuse m stState
    else
      let s := (s.accepted m).setBoot { s.boot with handover := some { slot := j, cause := 0, asked := some m.asked } }
      if s.mode = .run then s.setMode .handover else s

/-- The reply of an activation. -/
def activationReply (s : State) (h : Handover) (status : Nat) : State :=
  match h.asked with
  | some a => s.answer a status []
  | none => s

/-- Slots that are ACTIVE become PREVIOUS beside slot `j`. -/
def formerActive (s : State) (kind j : Nat) : List (Nat × Nat) :=
  ((s.slotsOf kind).filter fun i => i != j && s.slotState i == slotActive).map fun i => (i, slotPrevious)

/-- The handover region as the outgoing firmware writes it (R384): the header over a content that is firmware's own, of free
format, length and bytes. -/
def handoverRegion (s : State) : State :=
  match s.draw with
  | (fmt, s) => match s.draw with
    | (n, s) => match s.drawBytes (n.toNat % 65521) with
      | (s, c) => s.sramWrite 0x1F0000 (leBytes 2 fmt.toNat ++ leBytes 4 c.length ++ leBytes 4 (crc32c c) ++ List.replicate 6 0 ++ c)

/-- Services pause, the outgoing firmware writes the handover region, and the handover goes on to the passing of control. -/
def pauseServices (s : State) (h : Handover) : State :=
  let s := s.handoverRegion
  s.setBoot { s.boot with paused := true, pausedAt := s.time.clk, handover := some { h with passed := true, asked := none } }

/-- The check of an activation in RUN passes. -/
def activationPasses (s : State) (h : Handover) : State :=
  let l := if s.twoSlot then (h.slot, slotPending) :: s.formerActive kindFw h.slot else [(h.slot, slotActive)]
  let s := ((s.setSlots l).bump (NVM 0x10C)).setBit (NVM 0x030) 3
  (s.activationReply h stOk).pauseServices h

/-- It fails: back to RUN, the target BAD; in a one-slot NVM, RECOVERY from HANDOVER. -/
def activationFails (s : State) (h : Handover) : State :=
  let s := (s.raise 21 (s.slotField h.slot 2 1)).setBoot { s.boot with handover := none }
  if s.twoSlot then ((s.setSlots [(h.slot, slotBad)]).setMode .run).activationReply h stImageBad
  else ({ s with recFromHandover := true }.setMode .recovery).activationReply h stImageBad

/-- The check of an activation in RECOVERY is done. -/
def recoveryActivated (s : State) (h : Handover) (good : Bool) : State :=
  let s := s.setBoot { s.boot with handover := none }
  if good then
    let s := ((s.setSlots ((h.slot, slotActive) :: s.formerActive kindFw h.slot)).bump (NVM 0x10C)).setBit (NVM 0x030) 3
    (s.activationReply h stOk).reload
  else ((s.raise 21 (s.slotField h.slot 2 1)).setSlots [(h.slot, slotBad)]).activationReply h stImageBad

/-- ACTIVATE_CHECK_DONE: the image stands in the area not in use and its check is complete. -/
def checkDone (s : State) (err : Bool) : State :=
  match s.boot.handover with
  | none => s
  | some h =>
    if h.passed ∨ ¬ s.engineRuns then s else
    let (s, good) := s.imageCheck h.slot (!s.boot.areaB) err
    if s.mode = .recovery then s.recoveryActivated h good
    else if good then s.activationPasses h
    else s.activationFails h

/-- HANDOVER_CONTROL_PASS: the outgoing firmware's last claim (R376), then the incoming firmware's entry; in a two-slot NVM the
confirmation window starts, but not on the way back (R385). -/
def controlPass (s : State) : State :=
  match s.boot.handover with
  | none => s
  | some h =>
    if ¬ h.passed ∨ s.mode ≠ .handover ∨ s.inReset then s else
    let s := (s.sendClaim.showFwSlot h.slot).setMode .run
    s.setBoot { s.boot with
      handover := none
      areaB := !s.boot.areaB
      confirmAt := if h.cause = 0 ∧ s.twoSlot then some s.time.clk else none }

/-- SERVICES_RESUME. -/
def servicesResume (s : State) : State :=
  if s.boot.paused ∧ s.mode = .run ∧ s.boot.handover.isNone then s.setBoot { s.boot with paused := false } else s

/-- The HANDOVER back to the PREVIOUS image, with no new check: the pending slot takes `st`, the previous one is ACTIVE. -/
def goBack (s : State) (cause st : Nat) : State :=
  match s.slotIn kindFw slotPending, s.slotIn kindFw slotPrevious with
  | some j, some i =>
    let s := ((s.setSlots [(j, st), (i, slotActive)]).bump (NVM 0x110)).setMode .handover
    let s := s.setBoot { s.boot with confirmAt := none }
    s.pauseServices { slot := i, cause, asked := none }
  | _, _ => s.setBoot { s.boot with confirmAt := none }

/-- CONFIRM_WINDOW_EXPIRE. -/
def windowExpire (s : State) : State :=
  match s.boot.confirmAt with
  | none => s
  | some t =>
    if s.mode ≠ .run ∨ s.inReset then s else
    let s := s.elapseFrom t (s.rf (NVM 0x008) 0 12 * 250000000)
    let n := match s.slotIn kindFw slotPending with | some j => s.slotField j 2 1 | none => 0
    ((s.setBit (NVM 0x030) 2).raise 22 n).goBack 1 slotBad

/-- REVERT: in the confirmation window. -/
def doRevert (s : State) (m : Msg) : State :=
  if s.boot.confirmAt.isNone then s.refuse m stState else (s.answerOk m []).goBack 2 slotStaged

/-! ### Crest activation and admission (R388, R389) -/

/-- The pending generation as after a reset: what an image does not write. -/
def clearPending (s : State) : State :=
  let f := fun (k v : Nat) => match tableSpec (k / 2 ^ 27) with
    | some x => if x.kind = .crested then setBits v (x.width - 2 + b2n (!s.crest.bank)) 1 0 else v
    | none => v
  let s := if s.crest.bank then { s with bank0 := [], tbank0 := [] } else { s with bank1 := [], tbank1 := [] }
  { s with tabs := sparseMap tableReset f s.tabs }

/-- A type 1 record that names a staged register; others are no part of the pending generation. -/
def pendingRecord (s : State) (off v : Nat) : State := if regStaged off then s.portWrite .mgmt off v else s

/-- A section of a crest image written to the pending generation. -/
def pendingSection (s : State) (sec : Section) : State :=
  match sec.kind with
  | 1 => s.each (bodyRecords sec.body) fun s x => s.pendingRecord x.1 x.2
  | 2 => match tableSpec sec.table with
    | some x => if x.kind = .crested ∨ x.kind = .banked then s.loadTable sec else s
    | none => s
  | _ => s

/-- The commit that an ACTIVATE asks for: seconds and nanoseconds, zeros for the next boundary. -/
def askCommit (s : State) (sec ns : Nat) : State :=
  if sec = 0 ∧ ns = 0 then s.crestGo 1
  else
    let s := ((s.portWrite .mgmt CRS_COMMIT_TIME_SEC_HI (sec / 2 ^ 32)).portWrite .mgmt CRS_COMMIT_TIME_SEC_LO (sec % 2 ^ 32)).portWrite .mgmt
      CRS_COMMIT_TIME_NS ns
    s.crestGo 5

/-- ACTIVATE of a crest target. -/
def activateCrest (s : State) (m : Msg) : State :=
  if s.boot.session.isSome then s.refuse m stSession else
  match s.activateSlot m with
  | none => s.refuse m stTarget
  | some j =>
    let b := s.slotBytes j
    let secs := sectionsFrom b (ofLe ((b.drop 20).take 4)) 64
    if s.slotState j ≠ slotStaged then s.refuse m stState
    else if m.payload.length ≠ 10 then s.refuse m stTarget
    else if ¬ crestHeaderGood b ∨ ¬ secs.all (·.good) then (s.raise 20 (s.slotBase j)).refuse m stImageBad
    else if s.crest.phase ≠ .opened ∨ ¬ s.commitMode then (s.crestGo 1).refuse m stBusy
    else
      let s := ((s.accepted m).clearPending.each secs pendingSection).crestIds b
      let s := s.askCommit (ofLe (m.payload.take 6)) (ofLe ((m.payload.drop 6).take 4))
      s.setBoot { s.boot with atCommit := some { asked := m.asked, slot := some j, payload := [] } }

/-- The table entries that an admission writes. -/
def admissionEntry (s : State) (x : Nat × Nat × Nat × Nat) : State :=
  match tableSpec x.1 with
  | none => s
  | some t => if x.2.2.1 < t.entries then (s.tableWriteSlot t (storeErg t x.2.1) x.2.2.1 x.2.2.2).1 else s

/-- The reply of an admission up to the commit instant. -/
def admissionReply (m : Msg) (a : Admission) : Bytes :=
  m.payload.take 2 ++ [BitVec.ofNat 8 a.result, 0] ++ (m.payload.drop 4).take 4 ++ List.replicate 4 0 ++ leBytes 4 a.rsv ++ [0, 0] ++
    leBytes 4 a.bound

/-- SERVICE: admission, or a number that no service has. -/
def doService (s : State) (m : Msg) (a : Admission) : State :=
  if ofLe (m.payload.take 2) ≠ 1 ∨ m.payload.length < 2 then s.refuse m stState
  else if m.payload.length < 22 then s.refuse m stTarget
  else if a.result ≠ 0 then s.answerOk m (admissionReply m a ++ List.replicate 10 0)
  else if s.crest.phase ≠ .opened ∨ ¬ s.commitMode then (s.crestGo 1).refuse m stBusy
  else
    let s := (s.accepted m).each a.regs fun s x => s.registerWrite .mgmt x.1 x.2.toNat
    let s := (s.each a.tabs admissionEntry).crestGo 1
    s.setBoot { s.boot with atCommit := some { asked := m.asked, slot := none, payload := admissionReply m a } }

/-! ### LLDP (R374) -/

/-- An LLDP frame of firmware's TLVs. -/
def lldpSend (s : State) (p : Nat) (tlvs : Bytes) : State :=
  if ¬ s.servicesRun ∨ 64 ≤ p ∨ ¬ s.portExists s.crest.bank p ∨ s.inReset then s
  else s.sendDirect (beBytes 6 0x0180C200000E ++ beBytes 6 s.deviceMac ++ beBytes 2 0x88CC ++ tlvs) p 7 6 none false

end State

/-- The message is of a type. -/
def ofType (t : Nat) (m : Msg) : Bool := m.type == t

/-- The message is an ACTIVATE of the kind of target, or, for a firmware target, of no kind that exists. -/
def activates (crest : Bool) (m : Msg) : Bool := m.type == msgActivate && (m.kind == kindCrest) == crest

/-! ### The commands -/

/-- MSG_OPEN, R380 -/
def execMsgOpen (err : Bool) (s : State) : Result := finish (s.takeMessage (ofType msgOpen) fun s m => s.doOpen m err)

/-- MSG_BLOCK, R381 -/
def execMsgBlock (err : Bool) (s : State) : Result := finish (s.takeMessage (ofType msgBlock) fun s m => s.doBlock m err)

/-- MSG_CLOSE, R380 -/
def execMsgClose (err : Bool) (s : State) : Result := finish (s.takeMessage (ofType msgClose) fun s m => s.doClose m err)

/-- MSG_ACTIVATE_FW, R383: with a target of no kind that exists it is refused too. -/
def execMsgActivateFw (s : State) : Result :=
  finish (s.takeMessage (activates false) fun s m => if m.kind = kindFw then s.activateFirmware m else s.refuse m stTarget)

/-- MSG_ACTIVATE_CREST, R388; the recovery service takes firmware targets only. -/
def execMsgActivateCrest (s : State) : Result :=
  finish (s.takeMessage (activates true) fun s m => if s.mode = .run then s.activateCrest m else s.refuse m stState)

/-- MSG_REVERT, R385 -/
def execMsgRevert (s : State) : Result := finish (s.takeMessage (ofType msgRevert) fun s m => s.doRevert m)

/-- MSG_SERVICE, R389 -/
def execMsgService (a : Admission) (s : State) : Result := finish (s.takeMessage (ofType msgService) fun s m => s.doService m a)

/-- MSG_STATUS, R377: answered OK; a message of a type that R377 does not name is answered with STATE. -/
def execMsgStatus (s : State) : Result :=
  finish (s.takeMessage (fun m => m.type == msgStatus || m.type == 0 || Nat.blt msgStatus m.type) fun s m =>
    if m.type = msgStatus then s.answerOk m [] else s.refuse m stState)

/-- SESSION_IDLE_EXPIRE, R380 -/
def execSessionIdleExpire (s : State) : Result := finish s.sessionExpire

/-- ACTIVATE_CHECK_DONE, R383 -/
def execActivateCheckDone (err : Bool) (s : State) : Result := finish (s.checkDone err)

/-- HANDOVER_CONTROL_PASS, R383 -/
def execHandoverControlPass (s : State) : Result := finish s.controlPass

/-- SERVICES_RESUME, R383 -/
def execServicesResume (s : State) : Result := finish s.servicesResume

/-- CONFIRM_WINDOW_EXPIRE, R385 -/
def execConfirmWindowExpire (s : State) : Result := finish s.windowExpire

/-- LLDP_SEND, R374 -/
def execLldpSend (p : Nat) (tlvs : Bytes) (s : State) : Result := finish (s.lldpSend p tlvs)

end Sys2Proof.Machine
end

