-- ==== Sys2Proof/Machine/Dispatch.lean ====
section
/-! DEFINITION. The meaning of every command: one arm per constructor. -/

namespace Sys2Proof.Machine

/-- The effect of a command on everything but the queue. -/
def exec (i : Instr) (s : State) : Host.Outcome State Fault Refusal :=
  match i with
  | .mainSupplyPorRise ticks straps sbAddr => Sys2Proof.Machine.execMainSupplyPorRise ticks straps sbAddr s
  | .mainPorFall => Sys2Proof.Machine.execMainPorFall s
  | .vddSramFall => Sys2Proof.Machine.execVddSramFall s
  | .vddSramRecover straps => Sys2Proof.Machine.execVddSramRecover straps s
  | .porNAssert => Sys2Proof.Machine.execPorNAssert s
  | .porNRelease straps => Sys2Proof.Machine.execPorNRelease straps s
  | .resetNAssert => Sys2Proof.Machine.execResetNAssert s
  | .resetNRelease straps => Sys2Proof.Machine.execResetNRelease straps s
  | .testEnter rq => Sys2Proof.Machine.execTestEnter rq s
  | .testExit rq => Sys2Proof.Machine.execTestExit rq s
  | .tableInitDone => Sys2Proof.Machine.execTableInitDone s
  | .fwImageCheck err => Sys2Proof.Machine.execFwImageCheck err s
  | .crestSectionApply err => Sys2Proof.Machine.execCrestSectionApply err s
  | .tbSet rq n => Sys2Proof.Machine.execTbSet rq n s
  | .tbStep rq n => Sys2Proof.Machine.execTbStep rq n s
  | .tbTrimWrite rq n v => Sys2Proof.Machine.execTbTrimWrite rq n v s
  | .tmbSnapTake rq => Sys2Proof.Machine.execTmbSnapTake rq s
  | .snapshotComplete => Sys2Proof.Machine.execSnapshotComplete s
  | .txtsPop rq p => Sys2Proof.Machine.execTxtsPop rq p s
  | .tioCaptureEdge pin rising wait dev => Sys2Proof.Machine.execTioCaptureEdge pin rising wait dev s
  | .tioOutputEdge pin => Sys2Proof.Machine.execTioOutputEdge pin s
  | .tioPulseEnd pin => Sys2Proof.Machine.execTioPulseEnd pin s
  | .keeperRealign err => Sys2Proof.Machine.execKeeperRealign err s
  | .keeperTickCorrection => Sys2Proof.Machine.execKeeperTickCorrection s
  | .crsGo rq v => Sys2Proof.Machine.execCrsGo rq v s
  | .crsAbort rq v => Sys2Proof.Machine.execCrsAbort rq v s
  | .crestCommit => Sys2Proof.Machine.execCrestCommit s
  | .drainComplete => Sys2Proof.Machine.execDrainComplete s
  | .drainLimitExpire => Sys2Proof.Machine.execDrainLimitExpire s
  | .reconcileComplete => Sys2Proof.Machine.execReconcileComplete s
  | .scrubPassComplete us => Sys2Proof.Machine.execScrubPassComplete us s
  | .reloadLimitExpire r => Sys2Proof.Machine.execReloadLimitExpire r s
  | .cairnBeacon => Sys2Proof.Machine.execCairnBeacon s
  | .laneRestart rq q mask => Sys2Proof.Machine.execLaneRestart rq q mask s
  | .quadRefLoss q pll => Sys2Proof.Machine.execQuadRefLoss q pll s
  | .quadRefRecover q => Sys2Proof.Machine.execQuadRefRecover q s
  | .laneSignalDetect lane => Sys2Proof.Machine.execLaneSignalDetect lane s
  | .anComplete p partner => Sys2Proof.Machine.execAnComplete p partner s
  | .anFail p => Sys2Proof.Machine.execAnFail p s
  | .trainComplete p eqs => Sys2Proof.Machine.execTrainComplete p eqs s
  | .trainTimeout p => Sys2Proof.Machine.execTrainTimeout p s
  | .eqSettled p eqs => Sys2Proof.Machine.execEqSettled p eqs s
  | .lockAchieved p skews rxAlign txAlign => Sys2Proof.Machine.execLockAchieved p skews rxAlign txAlign s
  | .lockTimeout p skews => Sys2Proof.Machine.execLockTimeout p skews s
  | .laneLockLoss lane what => Sys2Proof.Machine.execLaneLockLoss lane what s
  | .laneSignalLoss lane => Sys2Proof.Machine.execLaneSignalLoss lane s
  | .napEnter p => Sys2Proof.Machine.execNapEnter p s
  | .napExit p => Sys2Proof.Machine.execNapExit p s
  | .napWakeTimeout p => Sys2Proof.Machine.execNapWakeTimeout p s
  | .deepEnter p => Sys2Proof.Machine.execDeepEnter p s
  | .deepExit p => Sys2Proof.Machine.execDeepExit p s
  | .prbsLock p => Sys2Proof.Machine.execPrbsLock p s
  | .prbsLoss p errors => Sys2Proof.Machine.execPrbsLoss p errors s
  | .prbsInject rq p => Sys2Proof.Machine.execPrbsInject rq p s
  | .frameRxStart rx => Sys2Proof.Machine.execFrameRxStart rx s
  | .frameRxEnd id rx => Sys2Proof.Machine.execFrameRxEnd id rx s
  | .pauseApply p => Sys2Proof.Machine.execPauseApply p s
  | .pauseExpire p k => Sys2Proof.Machine.execPauseExpire p k s
  | .pauseWdogFire p => Sys2Proof.Machine.execPauseWdogFire p s
  | .pauseHoldoffEnd p => Sys2Proof.Machine.execPauseHoldoffEnd p s
  | .frameTransmitStart p tx => Sys2Proof.Machine.execFrameTransmitStart p tx s
  | .frameTransmitEnd p wait => Sys2Proof.Machine.execFrameTransmitEnd p wait s
  | .eeeLpiEnter p => Sys2Proof.Machine.execEeeLpiEnter p s
  | .eeeLpiExit p => Sys2Proof.Machine.execEeeLpiExit p s
  | .eeeWakeDone p => Sys2Proof.Machine.execEeeWakeDone p s
  | .rxLpiPeriod p => Sys2Proof.Machine.execRxLpiPeriod p s
  | .preemptVerifySend p => Sys2Proof.Machine.execPreemptVerifySend p s
  | .preemptRespondRx p => Sys2Proof.Machine.execPreemptRespondRx p s
  | .preemptVerifyFail p => Sys2Proof.Machine.execPreemptVerifyFail p s
  | .preemptFragmentRx p fr => Sys2Proof.Machine.execPreemptFragmentRx p fr s
  | .fieldCollision p sent => Sys2Proof.Machine.execFieldCollision p sent s
  | .fieldBackoffExpire p tx => Sys2Proof.Machine.execFieldBackoffExpire p tx s
  | .fieldTxOpportunity p deferred tx => Sys2Proof.Machine.execFieldTxOpportunity p deferred tx s
  | .fieldJabber p => Sys2Proof.Machine.execFieldJabber p s
  | .fieldJabberRelease p => Sys2Proof.Machine.execFieldJabberRelease p s
  | .fieldStormWindowEnd p => Sys2Proof.Machine.execFieldStormWindowEnd p s
  | .fieldDwellExpire p => Sys2Proof.Machine.execFieldDwellExpire p s
  | .clearFallback rq p => Sys2Proof.Machine.execClearFallback rq p s
  | .fieldBeaconConflict p => Sys2Proof.Machine.execFieldBeaconConflict p s
  | .macStatClear rq p => Sys2Proof.Machine.execMacStatClear rq p s
  | .parseDispatch e => Sys2Proof.Machine.execParseDispatch e s
  | .parseComplete e k => Sys2Proof.Machine.execParseComplete e k s
  | .reorderRelease e ecc => Sys2Proof.Machine.execReorderRelease e ecc s
  | .wadiReturn r => Sys2Proof.Machine.execWadiReturn r s
  | .expressLookup id => Sys2Proof.Machine.execExpressLookup id s
  | .learnBusDeliver => Sys2Proof.Machine.execLearnBusDeliver s
  | .learnEventApply e => Sys2Proof.Machine.execLearnEventApply e s
  | .ageScanStep e => Sys2Proof.Machine.execAgeScanStep e s
  | .tableRead t => Sys2Proof.Machine.execTableRead t s
  | .tableWrite t => Sys2Proof.Machine.execTableWrite t s
  | .tableWriteFlags t => Sys2Proof.Machine.execTableWriteFlags t s
  | .tableInsert t => Sys2Proof.Machine.execTableInsert t s
  | .tableSearch t => Sys2Proof.Machine.execTableSearch t s
  | .tableDelete t => Sys2Proof.Machine.execTableDelete t s
  | .tableFlush t => Sys2Proof.Machine.execTableFlush t s
  | .tableRebuildBloom t => Sys2Proof.Machine.execTableRebuildBloom t s
  | .tableNop t => Sys2Proof.Machine.execTableNop t s
  | .lockBreak e => Sys2Proof.Machine.execLockBreak e s
  | .mirageCompare e m => Sys2Proof.Machine.execMirageCompare e m s
  | .miragePassEnd e descs header => Sys2Proof.Machine.execMiragePassEnd e descs header s
  | .caravanOffer id parity => Sys2Proof.Machine.execCaravanOffer id parity s
  | .ledgerTick bad => Sys2Proof.Machine.execLedgerTick bad s
  | .sweepEnd wait => Sys2Proof.Machine.execSweepEnd wait s
  | .holdCheck slot => Sys2Proof.Machine.execHoldCheck slot s
  | .pathProbeSend slot => Sys2Proof.Machine.execPathProbeSend slot s
  | .claimFrameSend => Sys2Proof.Machine.execClaimFrameSend s
  | .claimForget rank => Sys2Proof.Machine.execClaimForget rank s
  | .ownClaimLapse => Sys2Proof.Machine.execOwnClaimLapse s
  | .claimSilenceEnd => Sys2Proof.Machine.execClaimSilenceEnd s
  | .coupleDualExpire => Sys2Proof.Machine.execCoupleDualExpire s
  | .coupleCtlWrite rq v => Sys2Proof.Machine.execCoupleCtlWrite rq v s
  | .coupleClaimWrite rq v => Sys2Proof.Machine.execCoupleClaimWrite rq v s
  | .cvnRingEnable rq r v => Sys2Proof.Machine.execCvnRingEnable rq r v s
  | .oasAllocReq rq v => Sys2Proof.Machine.execOasAllocReq rq v s
  | .oasAllocResultRead rq => Sys2Proof.Machine.execOasAllocResultRead rq s
  | .oasFree rq v => Sys2Proof.Machine.execOasFree rq v s
  | .poolCarve t => Sys2Proof.Machine.execPoolCarve t s
  | .dfreeLogClear rq => Sys2Proof.Machine.execDfreeLogClear rq s
  | .gateEntryChange p => Sys2Proof.Machine.execGateEntryChange p s
  | .prewakeVote p => Sys2Proof.Machine.execPrewakeVote p s
  | .boundAgeCheck => Sys2Proof.Machine.execBoundAgeCheck s
  | .domainIdleExpire d => Sys2Proof.Machine.execDomainIdleExpire d s
  | .domainEntryComplete d => Sys2Proof.Machine.execDomainEntryComplete d s
  | .domainWakeComplete d bad => Sys2Proof.Machine.execDomainWakeComplete d bad s
  | .stallTimeout => Sys2Proof.Machine.execStallTimeout s
  | .pwrVoteWrite rq d v => Sys2Proof.Machine.execPwrVoteWrite rq d v s
  | .pwrLowWrite rq d v => Sys2Proof.Machine.execPwrLowWrite rq d v s
  | .perfReqWrite rq e v => Sys2Proof.Machine.execPerfReqWrite rq e v s
  | .perfClockSwitch e => Sys2Proof.Machine.execPerfClockSwitch e s
  | .avsWrite => Sys2Proof.Machine.execAvsWrite s
  | .avsReadback a => Sys2Proof.Machine.execAvsReadback a s
  | .avsTimeout => Sys2Proof.Machine.execAvsTimeout s
  | .avsSettleDone => Sys2Proof.Machine.execAvsSettleDone s
  | .mainSupplyLoss => Sys2Proof.Machine.execMainSupplyLoss s
  | .mainSupplyRestore ticks => Sys2Proof.Machine.execMainSupplyRestore ticks s
  | .bakOkFall => Sys2Proof.Machine.execBakOkFall s
  | .bakOkRise => Sys2Proof.Machine.execBakOkRise s
  | .faultOccurrence => Sys2Proof.Machine.execFaultOccurrence s
  | .faultRecordWrite => Sys2Proof.Machine.execFaultRecordWrite s
  | .collectorParityError reg => Sys2Proof.Machine.execCollectorParityError reg s
  | .collectorClockLoss => Sys2Proof.Machine.execCollectorClockLoss s
  | .wdogKick rq v => Sys2Proof.Machine.execWdogKick rq v s
  | .wdogExpire => Sys2Proof.Machine.execWdogExpire s
  | .fltInject rq v => Sys2Proof.Machine.execFltInject rq v s
  | .fltFwReport rq v => Sys2Proof.Machine.execFltFwReport rq v s
  | .fltClassClear rq => Sys2Proof.Machine.execFltClassClear rq s
  | .fltMaxClear rq => Sys2Proof.Machine.execFltMaxClear rq s
  | .tempSample now => Sys2Proof.Machine.execTempSample now s
  | .railOutOfWindow rail mv => Sys2Proof.Machine.execRailOutOfWindow rail mv s
  | .refclkSysLoss => Sys2Proof.Machine.execRefclkSysLoss s
  | .pllLockLoss which => Sys2Proof.Machine.execPllLockLoss which s
  | .xtal32Fault => Sys2Proof.Machine.execXtal32Fault s
  | .mgmtSramEccError addr corrected => Sys2Proof.Machine.execMgmtSramEccError addr corrected s
  | .sbI2cRead ptr n => Sys2Proof.Machine.execSbI2cRead ptr n s
  | .sbI2cWrite data => Sys2Proof.Machine.execSbI2cWrite data s
  | .sbSclTimeout => Sys2Proof.Machine.execSbSclTimeout s
  | .registerWrite rq addr v whole => Sys2Proof.Machine.execRegisterWrite rq addr v whole s
  | .ringEnable rq ring v => Sys2Proof.Machine.execRingEnable rq ring v s
  | .txDescriptorFetch tx => Sys2Proof.Machine.execTxDescriptorFetch tx s
  | .dmaReadTimeout chan => Sys2Proof.Machine.execDmaReadTimeout chan s
  | .cpuRxDeliver rx => Sys2Proof.Machine.execCpuRxDeliver rx s
  | .ringAck rq ring v => Sys2Proof.Machine.execRingAck rq ring v s
  | .coalTimerExpire ring => Sys2Proof.Machine.execCoalTimerExpire ring s
  | .msixMessage v => Sys2Proof.Machine.execMsixMessage v s
  | .vecRearm rq hi v => Sys2Proof.Machine.execVecRearm rq hi v s
  | .pcieLinkDown down status => Sys2Proof.Machine.execPcieLinkDown down status s
  | .mbxPost rq => Sys2Proof.Machine.execMbxPost rq s
  | .msgOpen err => Sys2Proof.Machine.execMsgOpen err s
  | .msgBlock err => Sys2Proof.Machine.execMsgBlock err s
  | .msgClose err => Sys2Proof.Machine.execMsgClose err s
  | .msgActivateFw => Sys2Proof.Machine.execMsgActivateFw s
  | .msgActivateCrest => Sys2Proof.Machine.execMsgActivateCrest s
  | .msgRevert => Sys2Proof.Machine.execMsgRevert s
  | .msgService a => Sys2Proof.Machine.execMsgService a s
  | .msgStatus => Sys2Proof.Machine.execMsgStatus s
  | .sessionIdleExpire => Sys2Proof.Machine.execSessionIdleExpire s
  | .activateCheckDone err => Sys2Proof.Machine.execActivateCheckDone err s
  | .handoverControlPass => Sys2Proof.Machine.execHandoverControlPass s
  | .servicesResume => Sys2Proof.Machine.execServicesResume s
  | .fwConfirm rq v => Sys2Proof.Machine.execFwConfirm rq v s
  | .confirmWindowExpire => Sys2Proof.Machine.execConfirmWindowExpire s
  | .lldpSend p tlvs => Sys2Proof.Machine.execLldpSend p tlvs s
  | .monRunWrite rq v => Sys2Proof.Machine.execMonRunWrite rq v s
  | .monClear rq v => Sys2Proof.Machine.execMonClear rq v s
  | .monSnap rq v => Sys2Proof.Machine.execMonSnap rq v s
  | .monSyncApply => Sys2Proof.Machine.execMonSyncApply s
  | .monCountWrite rq u k v => Sys2Proof.Machine.execMonCountWrite rq u k v s
  | .dumpSnapshot => Sys2Proof.Machine.execDumpSnapshot s
  | .dumpRecordWrite fail => Sys2Proof.Machine.execDumpRecordWrite fail s
  | .dumpEnable rq v => Sys2Proof.Machine.execDumpEnable rq v s
  | .dumpBufRead rq => Sys2Proof.Machine.execDumpBufRead rq s
  | .bwWindowEnd => Sys2Proof.Machine.execBwWindowEnd s
  | .trcEnable rq v => Sys2Proof.Machine.execTrcEnable rq v s
  | .trcDisable rq v => Sys2Proof.Machine.execTrcDisable rq v s
  | .traceRecordWrite fail => Sys2Proof.Machine.execTraceRecordWrite fail s
  | .registerRead rq addr whole => Sys2Proof.Machine.execRegisterRead rq addr whole s
  | .nvmHeaderRead part => Sys2Proof.Machine.execNvmHeaderRead part s
  | .pcieLinkUp speed width => Sys2Proof.Machine.execPcieLinkUp speed width s
  | .pcieConfigWrite bme msix fmask => Sys2Proof.Machine.execPcieConfigWrite bme msix fmask s
  | .lowPowerSignalDetect p => Sys2Proof.Machine.execLowPowerSignalDetect p s
  | .plcaBeacon p own => Sys2Proof.Machine.execPlcaBeacon p own s

end Sys2Proof.Machine
end

