-- ==== Sys2Proof/Safety.lean ====
section
/-! DEFINITION. What the statements about the device are put in: the register bus at rest, canonical stores, and the
vectors in service. No command of the device faults or is refused, so a safe run is a run in which these hold. -/

namespace Sys2Proof.Machine

namespace State

/-- The register bus serves a whole-word access of the requester to `off` at once (R323, R350 to R352): the device is out of
reset, the requester runs, no access waits, the access meets no bus error, and its domain is ON. -/
def accepts (s : State) (rq : Requester) (off : Nat) (write : Bool) : Prop :=
  s.inReset = false ∧ (rq = .mgmt → s.mode ≠ .test ∧ s.mode ≠ .safe) ∧ s.pow.stalled = [] ∧
    s.accessError rq off write true = none ∧ s.awake (domOfReg (viewOff off)) = true

/-- What an access by a requester to `off` carries for the monitors' filters (R394, R395). -/
def accessAttr (rq : Requester) (off : Nat) : Attr := { priv := requesterNum rq, master := requesterNum rq, addr := off }

/-- The state in which an access that is served is a demand on its domain (R318, R323): the reads of earlier commands are gone,
and the domain's idle time starts afresh. -/
def accessing (s : State) (off : Nat) : State := (s.setIfc { s.ifc with reads := [] }).demand (domOfReg (viewOff off))

/-- The state in which an access that is served finds the device: beside that, the monitor of the register bus has counted a read
(code 1) or a write (code 2), R394. -/
def arrived (s : State) (rq : Requester) (off code : Nat) : State := (s.accessing off).event 6 code 1 (accessAttr rq off)

/-- The register is one that the count of its own write can change (R8, R397): COUNT of unit 6 and the bits its wraps set. -/
def selfCounted (off : Nat) : Bool := ownCount off || off == MON_U_STATUS 6 || off == MON_IRQ_STATUS

/-- The register at `off` after its fields have taken a write of `v` (R7, R10, R11), before the write does anything else. -/
def storing (s : State) (off v : Nat) : State :=
  match findReg off with
  | some (r, _) => s.setReg off (storeWrite r.fields (s.reg off) v)
  | none => s

/-- Block and base of a register that a write stores at once: an immediate one, no always-on copy, not CRS_COMMIT, not one that
the count of its own write can change, listed in the normal view. -/
def plainReg (off : Nat) : Option (Block × Nat) :=
  match findReg off, blockOf off with
  | some (r, _), some x => if r.staged || aoServed off || off == CRS_COMMIT || selfCounted off || inMirror off then none else some x
  | _, _ => none

/-- Every store and memory of the state is in its canonical form. -/
def storesWf (s : State) : Bool :=
  sparseWf regReset s.regs && sparseWf regReset s.bank0 && sparseWf regReset s.bank1 && sparseWf tableReset s.tabs &&
    sparseWf tableReset s.tbank0 && sparseWf tableReset s.tbank1 && s.host.wf && s.sram.wf && s.nvm.wf && s.mon.buffer.wf

/-- Every vector in service has its condition (R364). -/
def serviceSound (s : State) : Prop := ∀ v ∈ s.ifc.service, s.vecCond v = true

end State

end Sys2Proof.Machine
end

