-- ==== Sys2Proof/WellFormed.lean ====
section
/-! DEFINITION. Well-formed commands: operands that name a part the device has and that a sender can supply. -/

namespace Sys2Proof

/-- Ports with a MAC: lanes 0 to 31, field ports 32 to 63, the CPU port 64, recirculation ports 65 to 68 (R15, R17). -/
def macPort (p : Nat) : Bool := Nat.blt p 69

/-- Lane ports (R15). -/
def lanePort (p : Nat) : Bool := Nat.blt p 32

/-- Field ports (R15). -/
def fieldPort (p : Nat) : Bool := Nat.ble 32 p && Nat.blt p 64

/-- Lane and field ports, which have balls (R15). -/
def ballPort (p : Nat) : Bool := Nat.blt p 64

/-- Quads of lanes (R90). -/
def quadNo (q : Nat) : Bool := Nat.blt q 8

/-- The four ergs; also the time bases, TIME_IO pins, tracers, cell pools, table channels and heard claims, of which there
are four each. -/
def fourNo (n : Nat) : Bool := Nat.blt n 4

/-- Power domains (R315). -/
def domainNo (d : Nat) : Bool := Nat.blt d 22

/-- Hold slots (R235). -/
def slotNo (i : Nat) : Bool := Nat.blt i 8192

/-- Channels: receive rings, transmit rings, table channels (R356, R360). -/
def channelNo (c : Nat) : Bool := Nat.blt c 36

/-- Regions of the crest (R83). -/
def regionNo (r : Nat) : Bool := Nat.blt r 17

/-- Addresses of the mirrored space (R349). -/
def busAddress (a : Nat) : Bool := Nat.blt a (2 ^ 64)

/-- A stamp's deviation in 2^-8 ns lies within the bound of R49 for the kind of port or pin: 40 ns on a field port, 8 ns,
the widest of its rates, on a lane port, 4 ns on a pin and elsewhere. -/
def stampDev (bound : Nat) (d : Int) : Bool := Nat.ble d.natAbs bound

/-- That bound by port. -/
def portDev (p : Nat) (d : Int) : Bool := stampDev (if fieldPort p then 10240 else if lanePort p then 2048 else 1024) d

/-- A frame that a port can carry: at least one byte (R115). -/
def someBytes (b : Bytes) : Bool := !b.isEmpty

/-- A descriptor of `n` bits. -/
def descBits (n d : Nat) : Bool := Nat.blt d (2 ^ n)

/-- The operands of a command name parts that the device has. -/
def Instr.wf : Instr → Bool
  | .tbSet _ n | .tbStep _ n | .tbTrimWrite _ n _ => fourNo n
  | .txtsPop _ p => ballPort p
  | .tioCaptureEdge pin _ _ dev => fourNo pin && stampDev 1024 dev
  | .tioOutputEdge pin | .tioPulseEnd pin => fourNo pin
  | .reloadLimitExpire r => regionNo r
  | .laneRestart _ q mask => quadNo q && Nat.blt mask 16
  | .quadRefLoss q _ | .quadRefRecover q => quadNo q
  | .laneSignalDetect p | .anComplete p _ | .anFail p | .trainComplete p _ | .trainTimeout p | .eqSettled p _
  | .lockAchieved p _ _ _ | .lockTimeout p _ | .laneLockLoss p _ | .laneSignalLoss p | .napEnter p | .napExit p
  | .napWakeTimeout p | .deepEnter p | .deepExit p | .prbsLock p | .prbsLoss p _ | .prbsInject _ p
  | .lowPowerSignalDetect p => lanePort p
  | .frameRxStart rx => ballPort rx.port && portDev rx.port rx.dev && someBytes rx.bytes
  | .pauseApply p | .pauseWdogFire p | .pauseHoldoffEnd p => lanePort p
  | .pauseExpire p k => lanePort p && Nat.blt k 9
  | .frameTransmitStart p tx => macPort p && portDev p tx.dev
  | .frameTransmitEnd p _ => macPort p
  | .eeeLpiEnter p | .eeeLpiExit p | .eeeWakeDone p | .rxLpiPeriod p | .preemptVerifySend p | .preemptRespondRx p
  | .preemptVerifyFail p => lanePort p
  | .preemptFragmentRx p fr => lanePort p && portDev p fr.dev && someBytes fr.bytes &&
    (!fr.start || fr.final || Nat.ble fr.bytes.length fr.total)
  | .fieldCollision p _ | .fieldJabber p | .fieldJabberRelease p | .fieldStormWindowEnd p | .fieldDwellExpire p
  | .clearFallback _ p | .fieldBeaconConflict p | .plcaBeacon p _ => fieldPort p
  | .fieldBackoffExpire p tx | .fieldTxOpportunity p _ tx => fieldPort p && portDev p tx.dev
  | .macStatClear _ p => macPort p
  | .parseDispatch e | .reorderRelease e _ | .learnEventApply e | .ageScanStep e | .lockBreak e => fourNo e
  | .mirageCompare e m => fourNo e && descBits 64 m.header && descBits 128 m.desc
  | .miragePassEnd e descs header => fourNo e && descs.all (descBits 128) && descBits 64 header
  | .parseComplete e k => fourNo e && Nat.blt k 8
  | .tableRead t | .tableWrite t | .tableWriteFlags t | .tableInsert t | .tableSearch t | .tableDelete t | .tableFlush t
  | .tableRebuildBloom t | .tableNop t => fourNo t.chan && descBits 512 t.desc
  | .holdCheck slot | .pathProbeSend slot => slotNo slot
  | .claimForget rank => fourNo rank
  | .cvnRingEnable _ r _ => Nat.blt r 2
  | .poolCarve t => fourNo t.pool
  | .wadiReturn r => fourNo r.erg
  | .gateEntryChange p | .prewakeVote p => macPort p
  | .domainIdleExpire d | .domainEntryComplete d | .domainWakeComplete d _ | .pwrVoteWrite _ d _ | .pwrLowWrite _ d _ =>
    domainNo d
  | .perfReqWrite _ e _ | .perfClockSwitch e => fourNo e
  | .pllLockLoss which => Nat.blt which 7
  | .mgmtSramEccError addr _ => Nat.blt addr (2 ^ 21)
  | .registerWrite _ addr _ _ | .registerRead _ addr _ => busAddress addr
  | .ringEnable _ ring _ | .ringAck _ ring _ | .coalTimerExpire ring | .dmaReadTimeout ring => channelNo ring
  | .txDescriptorFetch tx => Nat.blt tx.ring 16 && descBits 256 tx.desc
  | .msixMessage v => Nat.blt v 64
  | .monCountWrite _ u k _ => Nat.blt u 7 && Nat.blt k 8
  | .lldpSend p _ => ballPort p
  | .mainSupplyPorRise .. | .mainPorFall | .vddSramFall | .vddSramRecover .. | .porNAssert | .porNRelease .. | .resetNAssert
  | .resetNRelease .. | .testEnter .. | .testExit .. | .tableInitDone | .fwImageCheck .. | .crestSectionApply ..
  | .tmbSnapTake .. | .snapshotComplete | .keeperRealign .. | .keeperTickCorrection | .crsGo .. | .crsAbort .. | .crestCommit
  | .drainComplete | .drainLimitExpire | .reconcileComplete | .scrubPassComplete .. | .cairnBeacon | .frameRxEnd ..
  | .expressLookup .. | .learnBusDeliver | .caravanOffer .. | .ledgerTick .. | .sweepEnd .. | .claimFrameSend
  | .ownClaimLapse | .claimSilenceEnd | .coupleDualExpire | .coupleCtlWrite .. | .coupleClaimWrite .. | .oasAllocReq ..
  | .oasAllocResultRead .. | .oasFree .. | .dfreeLogClear .. | .boundAgeCheck | .stallTimeout | .avsWrite | .avsReadback ..
  | .avsTimeout | .avsSettleDone | .mainSupplyLoss | .mainSupplyRestore .. | .bakOkFall | .bakOkRise | .faultOccurrence
  | .faultRecordWrite | .collectorParityError .. | .collectorClockLoss | .wdogKick .. | .wdogExpire | .fltInject ..
  | .fltFwReport .. | .fltClassClear .. | .fltMaxClear .. | .tempSample .. | .railOutOfWindow .. | .refclkSysLoss
  | .xtal32Fault | .sbI2cRead .. | .sbI2cWrite .. | .sbSclTimeout | .cpuRxDeliver .. | .vecRearm .. | .pcieLinkDown ..
  | .mbxPost .. | .msgOpen .. | .msgBlock .. | .msgClose .. | .msgActivateFw | .msgActivateCrest | .msgRevert
  | .msgService .. | .msgStatus | .sessionIdleExpire | .activateCheckDone .. | .handoverControlPass | .servicesResume
  | .fwConfirm .. | .confirmWindowExpire | .monRunWrite .. | .monClear .. | .monSnap .. | .monSyncApply | .dumpSnapshot
  | .dumpRecordWrite .. | .dumpEnable .. | .dumpBufRead .. | .bwWindowEnd | .trcEnable .. | .trcDisable ..
  | .traceRecordWrite .. | .nvmHeaderRead .. | .pcieLinkUp .. | .pcieConfigWrite .. => true

end Sys2Proof
end

