-- ==== Sys2Proof/Certificates/Slice0/Obligations.lean ====
section
/-! DEFINITION. The statements about the device. Each that says what a command does says it as the state the command
answers with; `finished` in it is how every command ends: idle times count anew or stop (R319) and vectors leave service (R364). -/

open Sys2Proof Sys2Proof.Machine

/-- SET, STEP and a TRIM write of a time base, TAKE and a queue read: what each leaves. (R41, R42, R44, R57) -/
def Obligations.TimeBaseCommands : Prop := ∀ (s : State) (rq : Requester) (n p : Nat) (v : Word), n < 4 → p < 64 →
  (s.accepts rq (TMB_TB_CMD n) true → exec (.tbSet rq n) s =
    let u := (s.arrived rq (TMB_TB_CMD n) 2).storing (TMB_TB_CMD n) 1
    .next (((u.tbSet n).gatesMoved u).commitIfDue).finished) ∧
  (s.accepts rq (TMB_TB_CMD n) true → exec (.tbStep rq n) s =
    let u := (s.arrived rq (TMB_TB_CMD n) 2).storing (TMB_TB_CMD n) 2
    .next (((u.tbStep n).gatesMoved u).commitIfDue).finished) ∧
  (s.accepts rq (TMB_TB_TRIM n) true → exec (.tbTrimWrite rq n v) s =
    .next ((s.arrived rq (TMB_TB_TRIM n) 2).setReg (TMB_TB_TRIM n)
      (unsigned 32 (clampInt (-1099511628) 1099511628 (signed 32 v.toNat)))).finished) ∧
  (s.accepts rq TMB_SNAP true →
    let u := ((s.arrived rq TMB_SNAP 2).storing TMB_SNAP 1).clrBit TMB_SNAP 1
    exec (.tmbSnapTake rq) s =
      .next { u with time := { s.time with snap := some (s.time.cnt, s.time.raw) } }.finished) ∧
  (∀ c r, s.time.snap = some (c, r) →
    let u := s.each (List.range 4) fun s n => s.showSnap n (c.getD n 0) (r.getD n 0)
    exec .snapshotComplete s = .next (({ u with time := { u.time with snap := none } }).setBit TMB_SNAP 1).finished) ∧
  (s.accepts rq (TMB_TXTS_HI p) false → ∃ t, exec (.txtsPop rq p) s = .next t ∧ t.txtsQueue p = (s.txtsQueue p).tail ∧
    t.ifc.reads = [{ rq, addr := TMB_TXTS_HI p, ok := true, value := s.txtsHi p % 2 ^ 32 }])

/-- SET and STEP: the count, VALID, STEP_COUNT and LAST_ADJ, and what they leave alone. (R39, R41) -/
def Obligations.SetAndStep : Prop := ∀ (s : State) (n m : Nat), n < 4 → m < 4 → s.time.cnt.length = 4 → s.timeHeld = false →
  let u := s.elapse 1
  let a := s.tbSet n
  let b := s.tbStep n
  a.count n = wrapCount (u.loadValue n) ∧ b.count n = wrapCount (shiftCount (u.count n) (u.stepValue n)) ∧
  (∀ x ∈ [a, b], x.rbit (TMB_TB_STATUS n) 0 = true ∧
    x.rf (TMB_TB_STATUS n) 8 8 = (u.rf (TMB_TB_STATUS n) 8 8 + 1) % 256 ∧
    x.reg (TMB_TB_LAST_ADJ n) = ns32 (x.count n) ∧ x.rawCount m = u.rawCount m ∧ (m ≠ n → x.count m = u.count m))

/-- A selected edge at a capture pin is captured, or lost as an overrun; in SAFE it is ignored. (R59; the spec's own
words) -/
def Obligations.CaptureEdge : Prop := ∀ (s : State) (i w : Nat) (rising : Bool) (dev : Int), i < 4 →
  let u := s.elapse w
  let l := u.putBit (TMB_TIO_STATUS i) 2 rising
  let c := shiftCount (l.count (l.tioTb i)) (clampInt (-1024) 1024 dev * 2 ^ 32)
  (u.mode = .safe → exec (.tioCaptureEdge i rising w dev) s = .next u.finished) ∧
  (u.mode ≠ .safe → u.tioMode i = 1 → u.tioSelects i rising = true →
  (u.rbit (TMB_TIO_STATUS i) 0 = false → exec (.tioCaptureEdge i rising w dev) s =
    .next (((((((l.setReg (TMB_TIO i + 0x18) (c / secUnit / 2 ^ 32)).setReg (TMB_TIO i + 0x1C) (c / secUnit % 2 ^ 32)).setReg
      (TMB_TIO i + 0x20) (totalNs c % 1000000000)).setReg (TMB_TIO i + 0x24) (frac16 c)).setBit (TMB_TIO_STATUS i) 0).setBit
      TMB_IRQ_STATUS (1 + i)).finished)) ∧
  (u.rbit (TMB_TIO_STATUS i) 0 = true → exec (.tioCaptureEdge i rising w dev) s =
    .next ((l.setBit (TMB_TIO_STATUS i) 1).setBit TMB_IRQ_STATUS (5 + i)).finished))

/-- The next output edge is the first START + k × PERIOD strictly later than the time given. (R60) -/
def Obligations.NextPulseEdge : Prop := ∀ start period a : Nat, 0 < period →
  (∃ k, State.edgeAfter start period a = start + k * period) ∧ a < State.edgeAfter start period a ∧
  ∀ j, a < start + j * period → State.edgeAfter start period a ≤ start + j * period

/-- Pulses of an output pin, and the keeper. (R60, R61, R62) -/
def Obligations.PulseAndKeeper : Prop :=
  (∀ (s : State) (i : Nat), i < 4 →
  (s.tioMode i = 2 → s.mode ≠ .safe →
    let e := s.tioNext i
    let u := s.elapseTo (s.tioTb i) e
    let w := if u.reg (TMB_TIO i + 0x10) ≤ u.reg (TMB_TIO i + 0x14) then u.reg (TMB_TIO i + 0x10) - 8 else u.reg (TMB_TIO i + 0x14)
    exec (.tioOutputEdge i) s = .next ((u.setTio i { after := some e, pulseEnd := some (e + w * nsUnit) }).putBit
      (TMB_TIO_STATUS i) 2 (!u.rbit (TMB_TIO i) 6)).finished) ∧
  (∀ e, (s.tio i).pulseEnd = some e →
    let u := s.elapseTo (s.tioTb i) e
    exec (.tioPulseEnd i) s = .next ((u.setTio i { u.tio i with pulseEnd := none }).putBit (TMB_TIO_STATUS i) 2
      (u.rbit (TMB_TIO i) 6)).finished)) ∧
  (∀ (s : State) (err : Int),
  (s.mainLost = false → s.timeHeld = false → s.atRollover = true →
    let u := s.setKeeper (s.count 0 / secUnit) 0
    let w := { u with time := { u.time with phase := 0 } }
    exec (.keeperRealign err) s = .next (((w.putBit TMB_KEEPER_STATUS 2 (w.rbit (TMB_TB_STATUS 0) 0)).setBit
      TMB_KEEPER_STATUS 0).setReg TMB_KEEPER_ERR (unsigned 32 err)).finished) ∧
  (let total := s.keeperSec * 32768 + s.rf TMB_KEEPER_TICKS 0 15
   ((2 ^ 24 : Int) ≤ s.time.acc → exec .keeperTickCorrection s =
      .next { s.setKeeper ((total + 1) / 32768) ((total + 1) % 32768) with
        time := { s.time with acc := s.time.acc - 2 ^ 24 } }.finished) ∧
   (s.time.acc < 0 → exec .keeperTickCorrection s =
      .next { s.setKeeper ((total - 1) / 32768) ((total - 1) % 32768) with
        time := { s.time with acc := s.time.acc + 2 ^ 24 } }.finished)))

/-- GO arms a commit, is refused outside OPEN or its modes, and ABORT takes an armed commit back until its instant.
(R73, R74, R77, R89) -/
def Obligations.CrestArming : Prop := ∀ (s : State) (rq : Requester) (v : Word), s.accepts rq CRS_COMMIT true →
  let u := s.arrived rq CRS_COMMIT 2
  let g := u.setReg CRS_COMMIT (v.toNat % 32 / 4 * 4)
  let tb := bits v.toNat 3 2
  let soon := totalNs (s.count tb) + 1024
  let want := boundary g.commitTime
  let late := bit v.toNat 2 && decide (want < soon)
  let atTstar := decide (s.crest.tstar ≤ totalNs (s.count s.crest.tb))
  (s.crest.phase = .opened → s.commitMode = true → bit v.toNat 1 = false → exec (.crsGo rq v) s =
    .next (((if late then (g.setBit CRS_STATUS 4).bump CRS_LATE_COMMITS else g).setCrest { s.crest with
      phase := .armed, tb, tstar := if bit v.toNat 2 && !late then want else boundary soon }).finished)) ∧
  (s.crest.phase ≠ .opened ∨ s.commitMode = false → bit v.toNat 1 = false →
    exec (.crsGo rq v) s = .next ((u.bump CRS_COMMIT_REFUSED).setBit CRS_STATUS 5).finished) ∧
  (bit v.toNat 1 = true → exec (.crsGo rq v) s = exec (.crsAbort rq v) s) ∧
  (s.crest.phase = .armed → atTstar = false → exec (.crsAbort rq v) s =
    .next (((g.setCrest { s.crest with phase := .opened }).setBit CRS_STATUS 7).commitLost).finished) ∧
  (s.crest.phase = .armed → s.mode ≠ .safe → atTstar = true → exec (.crsAbort rq v) s = .next g.commitAt.finished) ∧
  (s.crest.phase ≠ .armed → exec (.crsAbort rq v) s = .next g.finished)

/-- CREST_COMMIT makes an armed commit when its time base reads T*. (R76, R77, R81) -/
def Obligations.CrestCommit : Prop := ∀ s : State, s.crest.phase = .armed → s.mode ≠ .safe →
  let u := s.elapseTo s.crest.tb (s.crest.tstar * nsUnit)
  let old := u.crest.bank
  let l := u.lanesCommit old (!old)
  let a := l.setCrest { l.crest with
    phase := .draining
    bank := !old
    oldId := u.crestId
    limit := l.rf CRS_DRAIN_LIMIT 0 17
    limitPassed := false
    at0 := l.time.clk
    passing := false }
  let sec := s.crest.tstar / 1000000000
  let b := ((a.setReg CRS_LAST_COMMIT_SEC_HI (sec / 2 ^ 32 % 2 ^ 16)).setReg CRS_LAST_COMMIT_SEC_LO (sec % 2 ^ 32)).setReg
    CRS_LAST_COMMIT_NS (s.crest.tstar % 1000000000)
  let c := ((b.wrapFld CRS_COMMIT_COUNT 0 32).clrBit CRS_DIGEST_STATUS 0).setBit CRS_IRQ_STATUS 0
  exec .crestCommit s = .next (((c.commitFollows old).firmwareEntry).commitAnswered s.crest.tstar).finished

/-- The drain ends when no frame of the old bank is left, or its limit overtakes those that are. (R79, R80, R81) -/
def Obligations.CrestDrain : Prop := ∀ s : State, s.crest.phase = .draining →
  (s.drainCount (!s.crest.bank) = 0 → exec .drainComplete s =
    .next ((s.setReg CRS_DRAIN_TIME (min (2 ^ 17 - 1) ((s.time.clk - s.crest.at0) / 250))).setCrest
      { s.crest with phase := .reconciling }).finished) ∧
  (s.crest.limitPassed = false →
    let u := s.elapseFrom s.crest.at0 (s.crest.limit * 250)
    let fs := u.frames.filter fun f =>
      f.bank == !u.crest.bank && u.counted f && (f.stage != .stored || !(u.unsentCopies f).isEmpty)
    let w := (u.checkHeads (fs.flatMap u.unsentCopies) fun s => s.each fs fun s f => s.expireFrame f).bumpBy CRS_CREST_EXPIRED (fs.map (·.root)).eraseDups.length
    exec .drainLimitExpire s = .next ((((w.setCrest { w.crest with limitPassed := true }).setBit CRS_STATUS 8).setBit
      CRS_IRQ_STATUS 2).raise 5 w.crest.oldId).finished)

/-- RECONCILE_COMPLETE leaves both banks equal to the active one, and the state OPEN. (R72, R85) -/
def Obligations.Reconcile : Prop := ∀ s : State, s.crest.phase = .reconciling →
  ∃ t, exec .reconcileComplete s = .next t ∧
    (∀ b off, t.cfg b off = s.cfg s.crest.bank off) ∧
    (∀ b x e i, t.tabBE b x e i = s.tabBE s.crest.bank x e i) ∧
    t.crest = { s.crest with phase := .opened, passing := true } ∧ t.rbit CRS_IRQ_STATUS 1 = true ∧
    (∀ off, off ≠ CRS_IRQ_STATUS → t.reg off = s.reg off) ∧
    t.host = s.host ∧ t.sram = s.sram ∧ t.nvm = s.nvm ∧ t.frames = s.frames ∧ t.time = s.time

/-- A scrub pass, a reload limit and a cairn beacon. (R83, R85, R86, R87, R88) -/
def Obligations.ScrubAndReload : Prop := ∀ (s : State) (us r : Nat),
  (s.crest.passing = true →
    let u := s.each (List.range 17) State.scrubRegion
    let half := fun (reg : Nat → Nat) => crc32c ((List.range 17).flatMap fun r => leBytes 4 (u.reg (reg r)))
    let w := (u.setReg CRS_DIGEST_LO (half CRS_REGION_REG)).setReg CRS_DIGEST_HI (half CRS_REGION_TAB)
    exec (.scrubPassComplete us) s = .next ((((w.setBit CRS_DIGEST_STATUS 0).wrapFld CRS_DIGEST_STATUS 16 16).setReg
      CRS_SCRUB_LAST (min 65535 us)).checkDigest).finished) ∧
  (r < 17 → s.rbit CRS_RELOAD r = true → exec (.reloadLimitExpire r) s =
    .next (((s.elapseFrom (s.crest.reloadAt.getD r 0) (s.rf CRS_RELOAD_LIMIT 0 10 * 250000)).clrBit CRS_RELOAD r).raise 6
      r).finished) ∧
  (s.rbit CRS_CAIRN_CTL 0 = true → s.servicesRun = true →
    let u := match s.crest.beaconAt with | some a => s.elapseFrom a s.beaconCycles | none => s
    let w := u.setCrest { u.crest with beaconAt := some u.time.clk }
    let g := fun k => w.reg (CRS_CAIRN_GROUP k)
    let six := w.rbit CRS_CAIRN_CTL 1
    let group := if six then ((g 0 * 2 ^ 32 + g 1) * 2 ^ 32 + g 2) * 2 ^ 32 + g 3 else g 0
    let f := w.udpFrame six group (w.reg CRS_CAIRN_PORT) w.cairnPayload
    exec .cairnBeacon s = .next (f.1.injectFrame f.2 6).1.finished)

/-- A staged register is written in the pending bank in OPEN only. (R69, R70, R71) -/
def Obligations.StagedWrites : Prop := ∀ (s : State) (rq : Requester) (off x : Nat) (v : Word) (r : RegRow) (i : Nat),
  s.accepts rq off true → inMirror off = false → findReg off = some (r, i) → r.staged = true → s.ignoresWrite rq off = false →
  let u := s.arrived rq off 2
  (s.crest.phase = .opened → ∃ t, exec (.registerWrite rq off v true) s = .next t ∧
    t.cfg (!s.crest.bank) off = storeWrite r.fields (s.cfg (!s.crest.bank) off) v.toNat ∧
    t.cfg s.crest.bank x = s.cfg s.crest.bank x ∧ (x ≠ off → t.cfg (!s.crest.bank) x = s.cfg (!s.crest.bank) x)) ∧
  (s.crest.phase ≠ .opened → exec (.registerWrite rq off v true) s =
    .next ((u.bump CRS_FROZEN_WRITES).setBit CRS_STATUS 6).finished)

/-- Lane start, training, and the power states of lanes. (R91, R96, R98, R100, R101, R103, R104, R106, R109, R318,
R320) -/
def Obligations.LaneCommands : Prop :=
  (∀ (s : State) (p l : Nat) (a : Partner) (eqs : List Equaliser) (sk : List Nat) (rx tx : Nat),
  s.laneMoves p = true → s.laneOf l = p →
  let ls := s.lanesOf s.crest.bank p
  let wide := s.quad100 s.crest.bank p
  (s.laneOn p = true → s.laneState p = 0 → s.quadReady p = true →
    let u := s.setLanes [l] 3 1 1
    exec (.laneSignalDetect l) s = .next (if s.anEn p then s.laneTo ls p 1
      else if ls.all fun l => u.rbit (LNE_L_STATE l) 3 then (u.setLanes ls 9 2 (u.effectiveFec p none)).laneTo ls p 2
      else u).finished) ∧
  (s.laneState p = 1 → s.common p a = true →
    let u := s.setLanes [p] 3 1 1
    exec (.anComplete p a) s = .next (((u.setLanes ls 9 2 (s.effectiveFec p (some a))).setFld (MAC_FC_STATUS p) 2 2 a.pause).laneTo
      ls p 2).finished) ∧
  (s.laneState p = 1 → s.common p a = false → exec (.anComplete p a) s = exec (.anFail p) s) ∧
  (s.laneState p = 2 → s.trains p = true → exec (.trainComplete p eqs) s =
    .next (((s.each ls fun s l => (s.trainedTxEq l (s.eqOf eqs l)).applyRxEq l (s.eqOf eqs l)).setLanes ls 3 1 1).laneTo ls p
      3).finished) ∧
  (s.laneState p = 2 → s.trains p = false → exec (.eqSettled p eqs) s =
    .next (((s.each ls fun s l => (s.storedTxEq [l]).applyRxEq l (s.eqOf eqs l)).setLanes ls 3 1 1).laneTo ls p 3).finished) ∧
  (3 ≤ s.laneState p → s.laneState p ≤ 5 → exec (.eqSettled p eqs) s =
    .next (s.each ls fun s l => s.applyRxEq l (s.eqOf eqs l)).finished) ∧
  (s.laneState p = 3 →
    let u := if wide then s.setSkews p sk else s
    let fec := u.rf (LNE_L_STATE p) 9 2
    let v := u.setLanes (u.lanesOf u.crest.bank p) 3 6 (7 + b2n wide * 8 + b2n (fec != 0) * 16)
    let f := stageDelay (v.portType v.crest.bank p)
    let g := fecDelay (v.portType v.crest.bank p) fec
    let deskew := if wide then v.rf (LNE_QUAD_STATUS (p / 4)) 8 8 * 256 else 0
    let w := v.setFld (LNE_L_TS_RX_DLY p) 0 20 (min (2 ^ 20 - 1) ((f.1 + g.1) * 256 / 10 + (deskew + rx)))
    (¬ (wide = true ∧ 180 < sk.foldl max 0) → exec (.lockAchieved p sk rx tx) s =
      .next ((w.setFld (LNE_L_TS_TX_DLY p) 0 20 (min (2 ^ 20 - 1) ((f.2.2 + g.2) * 256 / 10 + tx))).laneTo
        (u.lanesOf u.crest.bank p) p 4).finished) ∧
    (wide = true ∧ 180 < sk.foldl max 0 → exec (.lockAchieved p sk rx tx) s =
      .next (u.setMac p { u.mac p with skewBad := true }).finished))) ∧
  (∀ (s : State) (p e : Nat),
  (s.laneMoves p = true →
    let ls := s.lanesOf s.crest.bank p
    (s.powerRuns = true → s.want (domQuad (p / 4)) ≠ 2 → s.idleEnd (domQuad (p / 4)) = some e →
      let u := s.elapse (e - s.time.clk)
      let us := u.lanesOf u.crest.bank p
      (s.laneState p = 4 → s.rf (LNE_L_LOW p) 0 2 = 1 → s.rbit (MAC_EEE_STATUS p) 0 = true →
        exec (.napEnter p) s = .next (u.laneTo us p 5).finished) ∧
      (s.laneState p ≠ 6 → s.rf (LNE_L_LOW p) 0 2 = 2 →
        let v := (u.unlock us).laneTo us p 6
        exec (.deepEnter p) s = .next ((v.setMac p { v.mac p with deepUp := u.laneState p == 4 || u.laneState p == 5 }).pllSettle
          (p / 4)).finished)) ∧
    (s.laneState p = 5 → exec (.napExit p) s =
      .next ((s.elapse 125).laneTo ls p 4).finished) ∧
    (s.laneState p = 5 → exec (.napWakeTimeout p) s = .next (s.laneTo ls p 3).finished) ∧
    (s.laneState p = 6 →
      exec (.deepExit p) s = .next (((s.elapse 5000).laneTo ls p (if (s.mac p).deepUp then 3 else 0)).pllSettle
        (p / 4)).finished)) ∧
  (p < 32 → s.domState (domQuad (p / 4)) = 1 → s.pow.signal.contains (p / 4) = false → exec (.lowPowerSignalDetect p) s =
    .next ((s.setPow { s.pow with signal := s.pow.signal ++ [p / 4] }).revote (domQuad (p / 4))).finished))

/-- What takes a lane back, and a quad whose reference or PLL goes and comes. (R94, R96, R98, R104, R109, R110) -/
def Obligations.LaneFailures : Prop := ∀ (s : State) (rq : Requester) (p l q mask : Nat) (skews : List Nat) (pll : Bool) (what : LockKind),
  (s.laneMoves p = true → s.laneOf l = p →
    let ls := s.lanesOf s.crest.bank p
    (s.laneState p = 1 → exec (.anFail p) s =
      .next (((s.setBit (LNE_L_STATE p) 11).satFld (LNE_L_FAIL_CNT p) 0 16 1).toDetect ls p).finished) ∧
    (s.laneState p = 2 → s.trains p = true → exec (.trainTimeout p) s =
      .next ((((s.elapseLane p 125000000).setBit (LNE_L_STATE p) 12).satFld (LNE_L_FAIL_CNT p) 16 16 1).toDetect ls p).finished) ∧
    (s.laneState p = 3 →
      let u := s.elapseLane p (s.rf (LNE_QUAD (p / 4) + 0x00C) 0 10 * 250000)
      let v := if u.quad100 u.crest.bank p = true ∧ skews ≠ [] then u.setSkews p skews else u
      let w := if (v.mac p).skewBad = true ∨ u.quad100 u.crest.bank p = true ∧ 180 < skews.foldl max 0
        then (v.setBit (LNE_QUAD_STATUS (p / 4)) 2).setBit (LNE_IRQ_STATUS (p / 4)) 13 else v
      exec (.lockTimeout p skews) s = .next (w.toDetect (w.lanesOf w.crest.bank p) p).finished) ∧
    (s.laneState p = 4 → exec (.laneLockLoss l what) s = .next ((s.loseLock l what).laneTo ls p 3).finished) ∧
    (s.laneState p = 4 ∨ s.laneState p = 5 → exec (.laneSignalLoss l) s =
      .next ((s.setLanes [l] 3 1 0).toDetect ls p).finished)) ∧
  (q < 8 →
    (pll = false ∨ s.allDeep q = false →
      let u := ((s.clrBit (LNE_QUAD_STATUS q) (b2n pll)).setBit (LNE_IRQ_STATUS q) 12).raise 31 q
      let w := if pll then { u with lns := { u.lns with pllLost := (u.lns.pllLost ++ [q]).eraseDups } } else u
      exec (.quadRefLoss q pll) s = .next (w.each (w.quadPorts w.crest.bank q) fun s p =>
        if s.laneState p = 6 ∧ ¬ pll then s.setMac p { s.mac p with deepUp := false }
        else s.toDetect (s.lanesOf s.crest.bank p) p).finished) ∧
    (pll = true → s.allDeep q = true → exec (.quadRefLoss q pll) s = .next s.finished) ∧
    (let u := s.setBit (LNE_QUAD_STATUS q) 0
     let w : State := { u with lns := { u.lns with pllLost := u.lns.pllLost.filter (· != q) } }
     exec (.quadRefRecover q) s = .next (w.putBit (LNE_QUAD_STATUS q) 1
       (w.rbit (LNE_QUAD_STATUS q) 0 && !w.lns.pllLost.contains q && !w.allDeep q)).finished) ∧
    (s.accepts rq (LNE_QUAD_CTL q) true → mask < 16 → exec (.laneRestart rq q mask) s =
      .next (((s.arrived rq (LNE_QUAD_CTL q) 2).storing (LNE_QUAD_CTL q) mask).laneRestart q mask).finished))

/-- What a lane's transmitter sends, and the PRBS checker. (R90, R94, R96, R98, R99, R107, R108) -/
def Obligations.PrbsCommands : Prop := ∀ (s : State) (rq : Requester) (p n off : Nat), p < 32 →
  (let q := s.laneOf p
   (s.lanesRun q = false ∨ s.laneOn p = false ∨ s.awake (domQuad (p / 4)) = false ∨ s.quadReady p = false →
      s.txSignal p = .electricalIdle) ∧
   (s.lanesRun q = true → s.laneOn p = true → s.awake (domQuad (p / 4)) = true → s.quadReady p = true →
      (s.mode = .test → ∀ c g, s.rf (LNE_L_TEST p) 6 2 = c → s.rf (LNE_L_TEST p) 0 3 = g →
        (c = 1 → s.txSignal p = .electricalIdle) ∧ (c = 2 → s.txSignal p = .retimed) ∧
        (c ≠ 1 → c ≠ 2 → g ≠ 0 → s.txSignal p = .prbs g) ∧ (c ≠ 1 → c ≠ 2 → g = 0 → s.txSignal p = s.stateSignal p)) ∧
      (s.mode ≠ .test → s.txSignal p = s.stateSignal p)) ∧
   (s.laneState p = 0 → s.stateSignal p = if s.anEn q then .electricalIdle else .pcsIdle) ∧
   (s.laneState p = 1 → p = q → s.stateSignal p = if s.is1000 p then .configuration else .dmePages) ∧
   (s.laneState p = 2 → s.trains q = false → s.stateSignal p = .pcsIdle) ∧
   (s.laneState p = 2 → s.trains q = true → s.stateSignal p = .training (s.laneCfg q 6 1 == 1)) ∧
   (s.laneState p = 3 → s.stateSignal p = .pcsIdle) ∧ (s.laneState p = 4 → s.stateSignal p = .frames) ∧
   (s.laneState p = 5 → s.stateSignal p = .quiet) ∧ (s.laneState p = 6 → s.stateSignal p = .electricalIdle)) ∧
  (s.prbsOn p = true → exec (.prbsLock p) s = .next (s.setBit (LNE_L_PRBS_STATUS p) 0).finished) ∧
  (s.prbsOn p = true → s.rbit (LNE_L_PRBS_STATUS p) 0 = true → n ≤ 512 →
    exec (.prbsLoss p n) s = .next (s.bumpBy (LNE_L_PRBS_ERR p) n).finished) ∧
  (s.prbsOn p = true → s.rbit (LNE_L_PRBS_STATUS p) 0 = true → 512 < n → n ≤ 1024 → ∃ t, exec (.prbsLoss p n) s = .next t ∧
    t.rf (LNE_L_PRBS_ERR p) 0 32 = min (2 ^ 32 - 1) (s.rf (LNE_L_PRBS_ERR p) 0 32 + n) ∧
    t.rbit (LNE_L_PRBS_STATUS p) 0 = false ∧
    t.rf (LNE_L_PRBS_STATUS p) 8 8 = (s.rf (LNE_L_PRBS_STATUS p) 8 8 + 1) % 256 ∧
    t.rbit (LNE_IRQ_STATUS (p / 4)) (8 + p % 4) = true ∧
    (off ∉ [LNE_L_PRBS_ERR p, LNE_L_PRBS_STATUS p, LNE_IRQ_STATUS (p / 4)] → t.reg off = s.reg off)) ∧
  (s.accepts rq (LNE_L_TEST p) true →
    let v := s.reg (LNE_L_TEST p) % 512 + 512
    exec (.prbsInject rq p) s = .next (((s.arrived rq (LNE_L_TEST p) 2).storing (LNE_L_TEST p) v).written rq (.lne (p / 4))
      (0x124 + p % 4 * 0x100) ((s.arrived rq (LNE_L_TEST p) 2).reg (LNE_L_TEST p)) v
      (s.arrived rq (LNE_L_TEST p) 2).coupleMode).finished)

/-- The start and the end of a received frame. (R75, R105, R115, R118, R131, R142) -/
def Obligations.FrameArrives : Prop := ∀ (s : State) (rx : RxStart) (id p : Nat) (re : RxEnd) (fr : Fragment) (f : Frame),
  (let u := s.elapse rx.wait
   let p := rx.port
   u.mayReceive p = true →
    let st := u.stamps (u.stampShift (TMB_PORT_RX_DLY p) p rx.dev)
    let b := u.stampBank st.1
    let full := Nat.ble (u.fifoSize p) (u.fifoFill p)
    let g : Frame := {
      id := u.nextId, port := p, bytes := rx.bytes, bank := b, cnt := st.1, raw := st.2,
      order := u.orderStamp b p (st.2.getD 0 0) rx.bytes.length, root := u.nextId, overflow := full,
      stage := if full then .dropped else .waiting }
    let w := { u with frames := u.frames ++ [g], nextId := u.nextId + 1 }
    let x := if p < 32 then w.clrBit (MAC_EEE_STATUS p) 1 else w
    exec (.frameRxStart rx) s = .next (((x.wake (domErg (ergOf p))).wake domOasis).wake (domOfPort p)).finished) ∧
  (let u := s.elapse re.wait
   u.frame id = some f → f.lastIn = false → f.port < 64 → u.reassembling f = false →
    exec (.frameRxEnd id re) s = .next ((u.countFec f.port re.fecCorr re.fecUncorr re.fecSym).rxFinish f
      (re.codeErr || re.fecUncorr != 0) re.overrun false).finished) ∧
  (let u := (s.elapse fr.wait).countFec p fr.fecCorr fr.fecUncorr fr.fecSym
   let code := fr.codeErr || fr.fecUncorr != 0
   p < 32 → (s.elapse fr.wait).mayReceive p = true →
    (∀ g, fr.start = true → fr.final = false → (u.mac p).reasm = none →
      let w := u.newFrame p fr.dev (State.reasmBytes fr.bytes fr.total)
      w.frame (w.nextId - 1) = some g → w.cbit g.bank (MAC_PREEMPT_CFG p) 0 = true →
      exec (.preemptFragmentRx p fr) s =
        .next (w.setReasm p (some { bytes := fr.bytes, next := 0, frame := w.nextId - 1, code })).finished) ∧
    (∀ r, fr.start = false → (u.mac p).reasm = some r → fr.count % 4 = r.next →
      let w := u.stat p 27 1
      (∀ g, fr.final = false →
        let x := w.setReasm p (some { r with
          bytes := r.bytes ++ fr.bytes, next := (r.next + 1) % 4, code := r.code || code })
        x.frame r.frame = some g → exec (.preemptFragmentRx p fr) s =
          .next (x.setFrame { g with bytes := State.reasmBytes (r.bytes ++ fr.bytes) g.bytes.length }).finished) ∧
      (fr.final = true → exec (.preemptFragmentRx p fr) s =
        .next (w.reassembled p r.frame (r.bytes ++ fr.bytes) fr.mcrcOk (r.code || code)).finished)))

/-- A received frame is accepted just where no row of the discard table applies. (R115, R116) -/
def Obligations.AcceptedFrame : Prop := ∀ (s : State) (f : Frame) (code ovf pre : Bool),
  s.rxReason f code ovf pre = .ok ↔
    s.cbit f.bank (MAC_CFG f.port) 0 = true ∧ ovf = false ∧ code = false ∧ 64 ≤ f.bytes.length ∧
      f.bytes.length ≤ s.maxFrame f.bank f.port ∧ fcsGood f.bytes = true ∧ be16 f.bytes 12 ≠ 0x8808 ∧ pre = false

/-- Pause, priority flow control and low-power idle. (R121, R122, R124, R126, R127) -/
def Obligations.PauseAndLowPower : Prop :=
  (∀ (s : State) (p k t vec : Nat) (times : List Nat), p < 32 →
  (let u := s.setMac p { s.mac p with pause := none }
   ((s.mac p).pause = some (some t, vec, times) → exec (.pauseApply p) s = .next (u.pauseFor p 8 t).finished) ∧
   ((s.mac p).pause = some (none, vec, times) → exec (.pauseApply p) s =
     .next (u.each ((List.range 8).filter fun k => bit vec k) fun s k => s.pauseFor p k (times.getD k 0)).finished)) ∧
  (k < 9 → s.rbit (MAC_FC_STATUS p) (State.pauseBit k) = true → exec (.pauseExpire p k) s =
    .next ((s.elapse ((s.mac p).ends.getD k 0 - s.time.clk)).clrBit (MAC_FC_STATUS p) (State.pauseBit k)).finished) ∧
  (let m := s.mac p
   let limit := s.rf (MAC_PAUSE_WDOG p) 0 10 * 250000
   (((List.range 9).filter fun k => s.rbit (MAC_FC_STATUS p) (State.pauseBit k) &&
      Nat.blt (m.since.getD k 0 + limit) (m.ends.getD k 0)).map fun k => m.since.getD k 0).min? = some t →
    let u := s.elapse (t + limit + 1 - s.time.clk)
    let w := ((u.setFld (MAC_FC_STATUS p) 0 1 0).setFld (MAC_FC_STATUS p) 8 8 0).setBit (MAC_FC_STATUS p) 1
    let x := w.setMac p { w.mac p with pause := none, holdoffAt := w.time.clk }
    exec (.pauseWdogFire p) s = .next (((x.stat p stPauseWdog 1).setBit (MAC_IRQ_STATUS p) 1).raise 32 p).finished) ∧
  (s.rbit (MAC_FC_STATUS p) 1 = true → exec (.pauseHoldoffEnd p) s =
    .next ((s.elapse ((s.mac p).holdoffAt + s.rf (MAC_PAUSE_WDOG p) 16 16 * 250000 - s.time.clk)).clrBit
      (MAC_FC_STATUS p) 1).finished)) ∧
  (∀ (s : State) (p : Nat),
  (let m := s.mac p
   s.eeeOn p = true → s.laneState p = 4 → s.rbit (MAC_EEE_STATUS p) 0 = false → m.waking = false → m.tx = none → m.held = none →
    s.quadVoted p = false → s.nextQueue p = none →
    let u := s.elapse (m.busy + s.cf s.crest.bank (MAC_EEE_CFG p) 8 8 * 250 - s.time.clk)
    exec (.eeeLpiEnter p) s = .next (((u.setBit (MAC_EEE_STATUS p) 0).stat p stTxLpi 1).rawCtr p 15).finished) ∧
  ((s.nextQueue p).isSome = true ∨ s.quadVoted p = true → exec (.eeeLpiExit p) s = .next (s.lpiLeave p).finished) ∧
  (p < 32 → (s.mac p).waking = true →
    let u := s.elapse ((s.mac p).busy + ceilDiv (s.cf s.crest.bank (MAC_EEE_CFG p) 16 16) 4 - s.time.clk)
    exec (.eeeWakeDone p) s = .next (u.setMac p { u.mac p with waking := false }).finished) ∧
  (s.eeeOn p = true → exec (.rxLpiPeriod p) s =
    .next (((s.setBit (MAC_EEE_STATUS p) 1).stat p stRxLpi 1).rawCtr p 15).finished))

/-- Transmissions start and end, and preemption is verified. (R120, R290, R300, R129) -/
def Obligations.TransmitAndVerify : Prop :=
  (∀ (s : State) (p q w : Nat) (tx : TxStart) (t : Tx) (c : Copy) (f : Frame),
  (let u := s.elapse tx.wait
   (s.mac p).backoff = none → u.mayTransmit p = true → ((u.noteWithheld p).mac p).tx = none →
    (u.noteWithheld p).nextQueue p = some q →
    exec (.frameTransmitStart p tx) s = .next ((u.noteWithheld p).sendHead q tx.dev tx.ecc).finished) ∧
  (let u := s.elapse w
   (u.mac p).tx = some t → u.txCopy t = some c → u.frame c.frame = some f →
    (c.cut = true → f.lastIn = true ∨ t.stomp = true) →
    exec (.frameTransmitEnd p w) s = .next ((u.elapseSent p t t.bytes.length).txDone p t c f).finished)) ∧
  (∀ (s : State) (p : Nat), p < 32 → s.rf (MAC_PREEMPT_STATUS p) 0 3 = 2 →
  let u := if (s.mac p).verifies = 0 then s
    else s.elapse ((s.mac p).verifyAt + s.cf s.crest.bank (MAC_PREEMPT_CFG p) 16 8 * 250000 - s.time.clk)
  (s.laneState p = 4 → (s.mac p).verifies < 3 → exec (.preemptVerifySend p) s =
    .next (u.setMac p { u.mac p with verifies := (u.mac p).verifies + 1, verifyAt := u.time.clk }).finished) ∧
  exec (.preemptRespondRx p) s = .next (s.setVerify p 3).finished ∧
  (3 ≤ (s.mac p).verifies → exec (.preemptVerifyFail p) s = .next (u.setVerify p 4).finished))

/-- The medium of a field port, storms, dwells and beacons. (R132, R133, R300, R134, R135, R136, R139) -/
def Obligations.FieldCommands : Prop :=
  (∀ (s : State) (p n : Nat) (d : Bool) (tx : TxStart) (t : Tx) (c : Copy),
  State.isField p = true →
  ((s.mac p).tx = some t → s.txCopy t = some c →
    let u := (s.stormEvent p).rawCtr p 12
    (64 < n → exec (.fieldCollision p n) s = .next (((u.stat p stTxLateColl 1).rawCtr p 13).dropAttempt p t c n).finished) ∧
    (n ≤ 64 → 15 ≤ c.coll → exec (.fieldCollision p n) s =
      .next (((u.stat p stTxExcessColl 1).rawCtr p 13).dropAttempt p t c n).finished) ∧
    (n ≤ 64 → c.coll < 15 →
      let w := ((u.stat p stTxOctets n).bwTx p n).draw
      let slots := w.1.toNat % 2 ^ min (c.coll + 1) 10
      exec (.fieldCollision p n) s = .next ((w.2.setCopy { c with coll := c.coll + 1, started := false }).setMac p { w.2.mac p with
        tx := none, backoff := some c.id, backoffAt := w.2.time.clk + slots * 12800 }).finished)) ∧
  (let u := s.elapse tx.wait
   let v := if (u.mac p).backoff.isSome then u.elapse ((u.mac p).backoffAt - u.time.clk) else u
   let w := v.setMac p { v.mac p with backoff := none }
   ((v.mac p).backoff.bind fun id => v.oas.copies.find? fun c => c.id == id) = some c → v.mayTransmit p = true →
    (v.mac p).tx = none → w.queueReady p c.queue = true → w.headCopy c.queue = some c →
    exec (.fieldBackoffExpire p tx) s = .next (w.sendHead c.queue tx.dev tx.ecc).finished ∧
    ((s.mac p).backoff.isSome = true →
      exec (.fieldTxOpportunity p d tx) s = .next (w.sendHead c.queue tx.dev tx.ecc).finished)) ∧
  ((s.mac p).backoff = none →
    let u := s.startOn p tx
    let first := ((u.mac p).tx.bind u.txCopy).any fun c => c.coll == 0
    exec (.fieldTxOpportunity p d tx) s =
      .next (if d && (s.mac p).tx.isNone && first then u.stat p stTxDeferred 1 else u).finished) ∧
  (s.rbit (MAC_FLD_STATUS p) 3 = false → exec (.fieldJabber p) s =
    .next (((((s.stat p stFldJabber 1).setBit (MAC_IRQ_STATUS p) 5).abortTx p).setBit (MAC_FLD_STATUS p) 3).flushPort p).finished) ∧
  exec (.fieldJabberRelease p) s = .next (s.clrBit (MAC_FLD_STATUS p) 3).finished) ∧
  (∀ (s : State) (rq : Requester) (p t m : Nat) (own : Bool), State.isField p = true →
  let heard := (s.setBit (MAC_FLD_STATUS p) 2).setMac p { s.mac p with beaconAt := s.time.clk }
  ((s.mac p).window = some t →
    let u := s.elapse (t + s.cf s.crest.bank (MAC_FLD_STORM p) 16 16 * 250 - s.time.clk)
    exec (.fieldStormWindowEnd p) s =
      .next ((u.setMac p { u.mac p with window := none }).setFld (MAC_FLD_STATUS p) 8 8 0).finished) ∧
  (s.fieldMode p = 2 →
    let d := s.cf s.crest.bank (MAC_FLD_DWELL p) 0 16
    (d ≠ 0 → exec (.fieldDwellExpire p) s =
      .next ((s.elapse ((s.mac p).dwellAt + d * 250000000 - s.time.clk)).fallbackLeave p 0).finished) ∧
    (let u := (s.stat p stFldConflict 1).fallbackLeave p 0
     exec (.fieldBeaconConflict p) s = .next (u.setMac p { u.mac p with barred := some u.time.clk }).finished) ∧
    exec (.plcaBeacon p true) s = .next heard.finished) ∧
  (s.fieldMode p = 1 → (own = true → s.cf s.crest.bank (MAC_FLD_PLCA p) 0 3 = 0) →
    exec (.plcaBeacon p own) s = .next heard.finished) ∧
  (s.accepts rq (MAC_FLD_CTL p) true → exec (.clearFallback rq p) s =
    .next (((s.arrived rq (MAC_FLD_CTL p) 2).storing (MAC_FLD_CTL p) 1).clearFallback p).finished) ∧
  (m < 69 → s.accepts rq (MAC_STAT_CTL m) true → exec (.macStatClear rq m) s =
    .next (((s.arrived rq (MAC_STAT_CTL m) 2).storing (MAC_STAT_CTL m) 1).statClear m).finished))

/-- Dispatch to the engine in turn, the end of a parse, the release from the reorder stage. (R141, R143, R144, R145,
R147, R160) -/
def Obligations.ParserCommands : Prop := ∀ (s : State) (e k : Nat) (f : Frame) (ecc : List TableErr), e < 4 → s.forwarding = true →
  (((s.prs e).paused = true → s.reorderFill e < 64) → s.awake (domErg e) = true →
    ((s.ergFrames e).any fun f => f.stage == .engine (s.prs e).turn) = false →
    State.earliest ((s.ergFrames e).filter s.dispatchable) = some f → exec (.parseDispatch e) s =
      .next ((s.setFrame { f with stage := .engine (s.prs e).turn, dispatched := some s.rawNs }).setPrs e
        { s.prs e with turn := ((s.prs e).turn + 1) % 8 }).finished) ∧
  (k < 8 → ((s.ergFrames e).find? fun f => f.stage == .engine k) = some f →
    let late := (s.prs e).released.any (Nat.blt f.order)
    let next := (s.nextRelease e).any fun g => g.id == f.id
    let u := s.reorderCheck e
    let r := u.parseFrame f e
    let g := { f with parse := r, stage := .reorder }
    let v := ((u.setFrame g).countParse g e r).capture g e r
    (late = true → exec (.parseComplete e k) s =
      .next ((((v.bump (ERG_PRS_LATE e)).setBit (ERG_PRS_IRQ_STATUS e) 0).raise 34 e f.port).release g e).finished) ∧
    (late = false → s.reorderFill e < 64 → exec (.parseComplete e k) s = .next (v.reorderCheck e).finished) ∧
    (late = false → 64 ≤ s.reorderFill e → exec (.parseComplete e k) s =
      .next (if next then v.releaseAt g e [] else s).finished)) ∧
  (∀ g, let u := s.elapseToRaw (f.order * nsUnit)
    s.nextRelease e = some f → f.stage = .reorder → u.nextRelease e = some g → g.id = f.id →
    exec (.reorderRelease e ecc) s = .next ((u.each ecc fun s x => s.tableError x).release f e).finished)

/-- Order of release: order stamp, then first passes before second passes, then ingress port. (R143) -/
def Obligations.EarliestFrame : Prop := ∀ (l : List Frame) (f : Frame), State.earliest l = some f → f ∈ l ∧
  ∀ g ∈ l, f.order ≤ g.order ∧ (g.order = f.order → (f.second = true → g.second = true) ∧ (g.second = f.second → f.port ≤ g.port))

/-- WADI_RETURN: a recirculated frame leaves through port 65 + e and comes back as a second pass. (R82, R156, R283) -/
def Obligations.SecondPass : Prop := ∀ (s b : State) (e word place : Nat) (ecc : Ecc) (o : Offer) (c : Copy) (f : Frame),
  s.forwarding = true → e < 4 → s.awake domOasis = true → s.awake domSched = true →
  s.portChoice (65 + e) (s.backlog (65 + e)) = some o → s.headCopy o.queue = some c → s.frame c.frame = some f →
  (ecc = .good ∧ b = s ∨ ecc = .corrected word ∧ b = s.eccCorrected word →
    let p := 65 + e
    let u := (b.chargeSend p c).event 4 6 1 (b.copyAttr c)
    let out := u.outBody c f f.raw
    let n := out.length + 4
    let w := ((((u.event 4 7 n (b.copyAttr c)).stat p stTxOctets n).countSent p n (beAt out 0 6)).bwTx p n).egressMirrors c f out
    (c.own.isSome = true ∨ f.dec.strip = none →
      exec (.wadiReturn ⟨e, ecc⟩) s = .next ((w.releaseCopy c).checkHead c.queue).finished) ∧
    (c.own = none → f.dec.strip.isSome = true →
      let g : Frame := {
        id := w.nextId, port := f.port, bytes := State.stripped f, bank := f.bank, cnt := f.cnt, raw := f.raw,
        order := f.order + w.cf f.bank (ERG_PRS_WADI e) 0 16, second := true, lastIn := true, root := f.root,
        mirrored := ((w.frame f.id).map (·.mirrored)).getD f.mirrored, recv := some f.bytes, trace := f.trace }
      let x := { w with frames := w.frames ++ [g], nextId := w.nextId + 1 }
      let y := (x.countRx { g with port := p }).countOk { g with port := p }
      exec (.wadiReturn ⟨e, ecc⟩) s = .next (((y.releaseCopy c).checkHead c.queue).wake (domErg e)).finished)) ∧
  exec (.wadiReturn ⟨e, .structural word⟩) s = .next ((s.eccStructure f c.queue word).checkHead c.queue).finished ∧
  exec (.wadiReturn ⟨e, .data place⟩) s = .next (s.eccData f place none).finished

/-- EXPRESS_LOOKUP: a frame without a hit goes on to the parser, a hit is decided at its meter instant. (R36, R154,
R155, R197, R198, R297) -/
def Obligations.ExpressLookup : Prop := ∀ (s : State) (id x : Nat) (f : Frame) (k : SeifKey), s.forwarding = true →
  s.frame id = some f → f.stage = .waiting → f.looked = false → s.seifReads f = true → s.notParsed f = false →
  s.awake (domErg (ergOf f.port)) = true →
  let e := ergOf f.port
  let g := { f with looked := true }
  (s.seifKey g e = none → exec (.expressLookup id) s = .next (s.setFrame g).finished) ∧
  (s.seifKey g e = some k → s.rbit CRS_RELOAD (10 + e) = true ∨ s.expressHit g e k = none →
    exec (.expressLookup id) s = .next (s.setFrame g).finished) ∧
  (s.seifKey g e = some k → s.rbit CRS_RELOAD (10 + e) = false → s.expressHit g e k = some x → s.meterHeld g e k = false →
    let d := (s.elapseToRaw (s.meterInstant g k * nsUnit)).expressDecide g e x k
    let u := d.1
    let h := { g with dec := d.2 }
    let w := { h with parse := State.seifParse h k, dispatched := some u.rawNs, stage := .decided, dec := { h.dec with seif := true } }
    (d.2.discarded = true ∨ u.seifPath h k = true → exec (.expressLookup id) s =
      .next (((((((u.setFrame w).bump (ERG_PRS_SEIF_FRAMES e)).traceDecided w e).decidedEvents e 3 w).markTraced w).when
        w.dec.handle.isSome fun s => s.revote domCaravan)).finished) ∧
    (d.2.discarded = false → u.seifPath h k = false → exec (.expressLookup id) s = .next (u.setFrame h).finished))

/-- The frame of the second pass. (R82, R156, R202) -/
def Obligations.WadiFrame : Prop := ∀ (f : Frame) (a : Nat), 4 ≤ f.bytes.length →
  (f.dec.strip.bind f.parse.anchor).getD 0 = a → a + 4 ≤ f.bytes.length →
  (State.stripped f).take ((State.stripped f).length - 4) = (f.bytes.take (f.bytes.length - 4)).drop a ∧
  fcsGood (State.stripped f) = true ∧ (State.stripped f).length + a = f.bytes.length

/-- The learn bus takes the head event of the erg in turn to every inbound queue. (R171, R172, R173) -/
def Obligations.LearnBus : Prop := ∀ (s : State), s.awake domOasis = true →
  let turn := ((List.range 4).map fun i => (s.busTurn + i) % 4).find? s.mayLearn
  (turn = none → exec .learnBusDeliver s = .next s.finished) ∧
  (∀ (e : Nat) (ev : LearnEvent) (r : List LearnEvent), turn = some e → (s.fw e).source = ev :: r →
    let u := s.setFw e { s.fw e with
      source := r
      deficit := if s.rf (ERG_FWD_LEARN_RATE e) 0 16 = 0 then 0 else s.learnDeficit e + 250000
      deficitAt := s.time.clk }
    let w := { u with busTurn := (e + 1) % 4 }
    let t := ((w.bump (ERG_FWD_LEARN_SENT e)).each (List.range 4) fun s i => s.receiveEvent ev i).finished
    exec .learnBusDeliver s = .next t ∧
    (s.fwd.length = 4 → t.busTurn = (e + 1) % 4 ∧ (t.fw e).source = r ∧
      (∀ i < 4, i ≠ e → (t.fw i).source = (s.fw i).source) ∧
      (∀ i < 4, (t.fw i).inbound =
        if 256 ≤ (s.fw i).inbound.length then (s.fw i).inbound else (s.fw i).inbound ++ [ev])))

/-- An event is applied or waits on a lock; the scan ages the slot it stands at. (R173, R175, R176, R187) -/
def Obligations.LearnAndAge : Prop := ∀ (s : State) (e : Nat) (ev : LearnEvent) (r : List LearnEvent), s.ergOn e = true →
  ((s.fw e).inbound = ev :: r →
    ((s.eventWrites e ev).any (s.locked e) = false → exec (.learnEventApply e) s =
      .next ((s.setFw e { s.fw e with inbound := r, headHeld := false }).applyEvent e ev).finished) ∧
    ((s.eventWrites e ev).any (s.locked e) = true → (s.fw e).headHeld = false → exec (.learnEventApply e) s =
      .next ((s.bump (ERG_FWD_LOCK_HELD_EVENTS e)).setFw e { s.fw e with headHeld := true }).finished)) ∧
  (s.rbit (ERG_FWD_AGE e) 20 = true →
    let i := (s.fw e).scan
    let pace := s.rf (ERG_FWD_AGE e) 0 16 * 25000000
    let u := s.elapse (ceilDiv ((s.fw e).scanAt + pace) 131136 - s.time.clk)
    (u.locked e i = true →
      let w := u.bump (ERG_FWD_SCAN_SKIPPED e)
      let next := State.granuleEnd i
      exec (.ageScanStep e) s = .next (w.setFw e { w.fw e with
        scan := next % 131136, scanAt := (s.fw e).scanAt + (next - i) * pace }).finished) ∧
    (u.locked e i = false →
      let w := if fdbKind (u.fdb e i) ≠ 1 then u
        else if bits (u.fdb e i) 80 4 = 0 then (u.setFdb e i 0).bump (ERG_FWD_AGED_OUT e)
        else u.setFdb e i (setBits (u.fdb e i) 80 4 (bits (u.fdb e i) 80 4 - 1))
      exec (.ageScanStep e) s = .next (w.setFw e { w.fw e with
        scan := (i + 1) % 131136, scanAt := (s.fw e).scanAt + pace }).finished))

/-- Every table operation runs where its channel and domains are ready. (R185, R186, R323, R360, R361, R362) -/
def Obligations.TableRequests : Prop := ∀ (s : State) (t : TableReq),
  let c := 32 + t.chan
  let r := decodeRequest t.desc
  let n := State.recordsGood r t.fail
  let u := s.each (State.requestDomains r) fun s d => s.demand d
  let x := u.requestRun r (chanRequester t.chan) n t.records
  t.chan < 4 → s.mode ≠ .safe → (s.pow.waiting.any fun w => w.req.chan == t.chan) = false → s.chanOn c = true → s.chanPosted c = true →
  ((s.chanSram c = true ∧ r.sram = true) ∨ s.bme = true) → t.lost = false →
  State.sramBeyond (s.chanSram c) (s.chanDesc c 64) 64 = false →
  ∀ y ∈ [(0, Instr.tableRead t), (1, .tableWrite t), (2, .tableWriteFlags t), (3, .tableInsert t), (4, .tableSearch t),
      (5, .tableDelete t), (6, .tableFlush t), (7, .tableRebuildBloom t), (8, .tableNop t)],
    r.op = y.1 →
      ((State.requestDomains r).all u.awake = true → exec y.2 s =
        .next (x.1.requestDone c r (Nat.blt n r.count && Nat.blt x.2.1 4) x.2.1 x.2.2.1 x.2.2.2).finished) ∧
      ((State.requestDomains r).all u.awake = false → exec y.2 s = .next
        (u.setPow { u.pow with waiting := u.pow.waiting ++ [{ op := y.1, req := t, doms := State.requestDomains r }] }).finished)

/-- A crested entry changes in OPEN only, and never what the active bank holds. (R69, R70, R87, R186) -/
def Obligations.CrestedTableWrite : Prop := ∀ (s : State) (x : TableSpec) (e i v j : Nat),
  let old := s.tab x.num e i
  let live := fun w => validIn x.width s.crest.bank w
  let a := s.crestedWrite x e i v
  let may := s.crest.phase = .opened ∧ (s.rbit CRS_RELOAD (x.regionOf e) = true ∨
    (live old = live v ∧ (live old = true → tableContent x.num x.width old = tableContent x.num x.width v)))
  (¬ may → a.2 = 3 ∧ a.1.tabs = s.tabs ∧ a.1.tbank0 = s.tbank0 ∧ a.1.tbank1 = s.tbank1) ∧
  (may → a.2 = 0 ∧ a.1.tab x.num e i = v ∧ a.1.tbank0 = s.tbank0 ∧ a.1.tbank1 = s.tbank1 ∧
    (tableKey x.num e j ≠ tableKey x.num e i → a.1.tab x.num e j = s.tab x.num e j))

/-- READ returns the entries and changes nothing. (R71, R186) -/
def Obligations.TableReads : Prop := ∀ (s : State) (r : Request) (x : TableSpec) (e n : Nat) (ents : List Nat), r.op = 0 →
  s.runOp r x e n ents = (s, (List.range n).map (fun i =>
    { index := r.index + i, status := 0, entry := some (s.tableRead x e (r.index + i)) }), n)

/-- A lock outlives its limit; the mirage check compares and ends a pass. (R188, R190, R191, R192, R193) -/
def Obligations.LockAndMirage : Prop := ∀ (s : State) (e header : Nat) (l : TableLock) (m : Shadow) (descs : List Nat), e < 4 →
  ((s.fw e).lock = some l →
    let u := s.elapseFrom l.since (s.rf (ERG_FWD_LOCK_LIMIT e) 0 7 * 250000)
    let w := ((u.bump (ERG_FWD_LOCK_BROKEN e)).setBit (ERG_FWD_IRQ_STATUS e) 2).raise 36 e (requesterNum l.holder)
    exec (.lockBreak e) s = .next (w.setFw e { w.fw e with
      lock := none
      lostHost := (w.fw e).lostHost || l.holder == .host
      lostMgmt := (w.fw e).lostMgmt || l.holder == .mgmt }).finished) ∧
  (let u := s.mirageBegin e m.header
   let k := (u.fw e).mir
   let v := u.elapse (k.since + ceilDiv (k.read * 2500) (max 1 (u.rf (ERG_MIR_CTL e) 8 8)) - u.time.clk)
   let w := v.setMirage e { k with read := k.read + 1 }
   let d := shadowDesc m.desc
   let index := bits m.record 0 32
   let content := bits m.record 32 (8 * d.size)
   let found := w.mirageFinds e d.table index content
   k.running = true → u.mirageOn e = true →
    (w.mirageBad e m = true → exec (.mirageCompare e m) s = .next (w.mirageDiff e d.table index 3).finished) ∧
    (w.mirageBad e m = false → found = [] → exec (.mirageCompare e m) s = .next (w.mirageDiff e d.table index 1).finished) ∧
    (∀ y r, w.mirageBad e m = false → found = y :: r → exec (.mirageCompare e m) s =
      .next (if found.any fun z => tableContent d.table (8 * d.size) z.2 == content then w else w.mirageDiff e d.table y.1 0).finished)) ∧
  ((s.fw e).mir.running = true → s.mirageOn e = true →
    let u := s.each descs fun s d => s.mirageCount e (shadowDesc d)
    let w := ((u.wrapFld (ERG_MIR_STATUS e) 16 16).setReg (ERG_MIR_PASS_MS e)
      (min 65535 ((u.time.clk - (s.fw e).mir.since) / 250000))).setBit (ERG_FWD_IRQ_STATUS e) 4
    exec (.miragePassEnd e descs header) s = .next ((w.setMirage e {}).mirageBegin e header).finished)

/-- The recovery algorithm accepts a sequence number once. (R226) -/
def Obligations.RecoveryOnce : Prop := ∀ (h seq : Nat) (jump : Bool) (e : Entry), 0 < h → seq < 2 ^ 16 → e.last < 2 ^ 16 →
  e.hist < 2 ^ h → (recover h seq jump e).1.accepted = true →
  (recover h seq jump (recover h seq jump e).2).1 = .duplicate ∧ (recover h seq jump e).2.hist < 2 ^ h ∧
  (recover h seq jump e).2.valid = true ∧ (recover h seq jump e).2.last < 2 ^ 16

/-- An offer, a tick, the end of a sweep, a hold check and a path probe. (R218, R230, R231, R232, R237, R241, R249,
R250) -/
def Obligations.CaravanCommands : Prop := ∀ (s : State) (id i w x t : Nat) (parity : Option Bool) (bad : List Nat) (f : Frame),
  (s.frame id = some f → f.stage = .decided → s.mode ≠ .safe → s.caravanHeld f = false → s.awake domOasis = true →
    exec (.caravanOffer id parity) s = .next ((s.traceAt f.root 3 s.rawNs).offer f parity).finished) ∧
  (s.mode ≠ .safe →
    let n := s.nextTick
    let u := s.elapseToRaw (n * nsUnit)
    let v := u.each bad fun s i => if i < 5242880 then s.ledgerParity (bit (s.streamProfile s.crest.bank i) 2) i else s
    let y := (v.sweepAll n).event 5 7 5242880
    let z := y.withCvn { y.cvn with
      tick := n, ahead := [], sweep := some y.time.clk, half := n / (y.tickLen / 2), halfAt := y.time.clk }
    exec (.ledgerTick bad) s = .next ((z.setBit CVN_STATUS 0).revote domCaravan).finished) ∧
  (s.cvn.sweep = some t →
    let u := s.elapse (min w 1250000)
    exec (.sweepEnd w) s = .next (((u.clrBit CVN_STATUS 0).setFld CVN_STATUS 16 16
      (min 65535 (ceilDiv (u.time.clk - t) 250))).withCvn { u.cvn with sweep := none }).finished) ∧
  (i < 8192 → s.mode ≠ .safe → s.pinValid i = true →
    let b := s.castCvn true
    (s.awake domCaravan = true →
      let u := (b.elapseToRaw ((s.deadline i + s.cf s.crest.bank CVN_HOLD_CFG 0 16) * nsUnit)).holdCheckNow i
      exec (.holdCheck i) s = .next (u.castCvn false).finished) ∧
    (s.awake domCaravan = false → exec (.holdCheck i) s = .next (b.wake domCaravan).finished) ∧
    (s.caravanReload = false → s.crested s.crest.bank tblHold 4 i 128 = some x →
      (s.frames.find? fun f => f.pinned == some i) = some f → bit x 75 = true →
      s.portExists s.crest.bank (bits x 68 7) = true →
      (s.awake domCaravan = true →
        let u := (b.probeInstant i).forwardTarget { f with bank := s.crest.bank } 4 (bits x 68 7)
        exec (.pathProbeSend i) s = .next (((u.1.sendPinned f
          [{ u.2 with path := some (!bit (u.1.holdState i) 19) }]).bump CVN_PROBES_TX).castCvn false).finished) ∧
      (s.awake domCaravan = false → exec (.pathProbeSend i) s = .next (b.wake domCaravan).finished)))

/-- Claims: sending, forgetting, lapsing, silence and the dual time. (R244, R245, R246, R247) -/
def Obligations.ClaimCommands : Prop := ∀ (s : State) (i t : Nat) (h : Heard),
  (s.servicesRun = true → exec .claimFrameSend s = .next s.sendClaim.finished) ∧
  (s.cvn.heard.getD i none = some h →
    let u := s.elapseToRaw (h.stamp + silence)
    exec (.claimForget i) s = .next (u.withCvn { u.cvn with heard := u.cvn.heard.set i none }).coupleEval.finished) ∧
  (s.cvn.ownAt = some t →
    let u := s.elapseToRaw (t + silence)
    exec .ownClaimLapse s = .next (u.withCvn { u.cvn with ownAt := none }).coupleEval.finished) ∧
  (s.cvn.silentAt = some t →
    let u := s.elapseToRaw (t + silence)
    exec .claimSilenceEnd s = .next (u.withCvn { u.cvn with silentAt := none }).coupleEval.finished) ∧
  (s.cvn.dualAt = some t →
    let u := s.elapseToRaw (t + s.rf CVN_COUPLE_CTL 18 13 * 1000 * nsUnit)
    exec .coupleDualExpire s = .next (u.withCvn { u.cvn with dualAt := none }).coupleEval.finished)

/-- The forwarding state of a coupled pair by its mode. (R244, R246, R247) -/
def Obligations.ForwardingState : Prop := ∀ s : State,
  let t := s.coupleEval
  (s.coupleMode = 0 → t.cvn.fwd = true) ∧
  (s.coupleMode = 1 → t.cvn.fwd = (s.wins && s.cvn.silentAt.isNone)) ∧
  (s.coupleMode = 2 → t.cvn.fwd = (s.wins || t.cvn.dualAt.isSome)) ∧
  (s.wins = true ↔ s.cvn.ownAt.isSome = true ∧ s.ownClaim ≠ 0 ∧
    ∀ h, some h ∈ s.cvn.heard → h.claim < s.ownClaim ∨ (h.claim = s.ownClaim ∧ h.mac < s.deviceMac))

/-- Writes of the coupling registers and of a stale-stream ring, and the packet memory's registers. (R234, R248, R254,
R261, R262, R265) -/
def Obligations.CaravanRegisters : Prop := ∀ (s : State) (rq : Requester) (r : Nat) (v : Word),
  (s.accepts rq CVN_COUPLE_CTL true → exec (.coupleCtlWrite rq v) s =
    .next (((s.arrived rq CVN_COUPLE_CTL 2).storing CVN_COUPLE_CTL v.toNat).coupleModeWas
      (s.arrived rq CVN_COUPLE_CTL 2).coupleMode).finished) ∧
  (s.accepts rq CVN_COUPLE_CLAIM true → exec (.coupleClaimWrite rq v) s =
    .next ((s.arrived rq CVN_COUPLE_CLAIM 2).storing CVN_COUPLE_CLAIM v.toNat).coupleEval.finished) ∧
  (r < 2 → s.accepts rq (CVN_RING_CTL r) true → exec (.cvnRingEnable rq r v) s =
    .next (((s.arrived rq (CVN_RING_CTL r) 2).storing (CVN_RING_CTL r) (v ||| 1).toNat).ringEnable r).finished) ∧
  (s.accepts rq OAS_ALLOC_REQ true → exec (.oasAllocReq rq v) s =
    .next (((s.arrived rq OAS_ALLOC_REQ 2).storing OAS_ALLOC_REQ v.toNat).allocRequest rq (v.toNat % 2 ^ 14)).finished) ∧
  (s.accepts rq OAS_ALLOC_RESULT false → ∃ t, exec (.oasAllocResultRead rq) s = .next t ∧
    t.allocResult rq = s.allocResult rq % 2 ^ 31 ∧ t.oas.chains = s.oas.chains ∧ t.oas.free = s.oas.free) ∧
  (s.accepts rq OAS_FREE true → exec (.oasFree rq v) s =
    .next (((s.arrived rq OAS_FREE 2).storing OAS_FREE v.toNat).freeBy (v.toNat % 2 ^ 18) (clientOf rq)).finished) ∧
  (s.accepts rq OAS_DFREE_LOG_CTL true → exec (.dfreeLogClear rq) s =
    .next ((s.arrived rq OAS_DFREE_LOG_CTL 2).storing OAS_DFREE_LOG_CTL 1).clearFreeLog.finished)

/-- A pool takes or returns one buffer towards its target. (R263, R283) -/
def Obligations.PoolCarve : Prop := ∀ (s b : State) (n m : Nat) (err : Option BitmapErr) (x : BitmapErr), n < 4 → m ≠ n →
  err = none ∧ b = s ∨ err = some x ∧ b = s.bitmapError x →
  (b.carved n < b.poolTarget n → poolCells n ≤ b.sharedFree →
    let k := takeCells (poolCells n) b.oas.free
    let t := b.setOas { b.oas with free := k.2, pools := b.oas.pools.set n (b.poolFree n ++ [k.1]) }
    exec (.poolCarve ⟨n, err⟩) s = .next t.finished ∧
    t.poolFree m = b.poolFree m ∧ (b.oas.pools.length = 4 → t.poolFree n = b.poolFree n ++ [k.1] ∧ t.carved n = b.carved n + 1)) ∧
  (∀ l r, b.poolTarget n < b.carved n → b.poolFree n = l :: r →
    let t := (b.setOas { b.oas with pools := b.oas.pools.set n r }).giveCells l
    exec (.poolCarve ⟨n, err⟩) s = .next t.finished ∧
    t.poolFree m = b.poolFree m ∧ t.oas.chains = b.oas.chains ∧ t.oas.copies = b.oas.copies ∧
    (b.oas.pools.length = 4 → t.poolFree n = r ∧ t.carved n + 1 = b.carved n)) ∧
  (b.carved n = b.poolTarget n ∨ b.carved n < b.poolTarget n ∧ b.sharedFree < poolCells n →
    exec (.poolCarve ⟨n, err⟩) s = .next b.finished)

/-- A gate interval ends; a pre-wake vote is cast; the bounds are checked. (R294, R301, R304) -/
def Obligations.GateCommands : Prop := ∀ (s : State) (p d : Nat),
  (p < 64 → s.mode ≠ .safe →
    (s.untilEntry p = some d →
      let u := s.elapseTo (s.gateTb p) ((totalNs (s.count (s.gateTb p)) + d) * nsUnit)
      exec (.gateEntryChange p) s = .next ((((u.gateClosed p).dropVotes p (s.gateStatus p).1 (u.gateStatus p).1).prewakeLate p
        (s.gateStatus p).1 (u.gateStatus p).1).noteWithheld p).finished) ∧
    (((s.votesDue p).map (·.2)).min? = some d →
      let u := s.elapseTo (s.gateTb p) (s.count (s.gateTb p) + d * nsUnit)
      let new := ((s.votesDue p).filter fun x => x.2 == d).map fun x => p * 8 + x.1
      let v := { u with sched := { u.sched with voting := u.sched.voting ++ new } }
      let w := v.each (v.prewakeDomains p) fun s dom => s.wake dom
      exec (.prewakeVote p) s =
        .next (if w.cbit w.crest.bank (SCH_PORT_PREWAKE p) 30 then w.lpiLeave p else w).finished)) ∧
  (let t := (s.rawNs / 10000 + 1) * 10000
   let u := s.elapseToRaw (t * nsUnit)
   u.mode ≠ .safe → u.cbit u.crest.bank SCH_CFG 0 = true →
    exec .boundAgeCheck s = .next (u.each ((u.oas.copies.filter fun c => c.linked && !c.started).map (·.queue)).eraseDups
      fun s q => s.ageHead t q).finished)

/-- A domain enters its low state and wakes. (R314, R316, R319, R320, R321, R322, R323, R324, R337) -/
def Obligations.DomainCommands : Prop := ∀ (s : State) (d n : Nat) (bad : List KeepErr) (x : Stalled) (r : List Stalled),
  (d < 22 → s.idleEnd d = some n →
    let u := s.elapse (n - s.time.clk)
    let goal := if u.want d = 1 then storedLow d (min (u.lowOf d) 1) else u.lowOf d
    u.powerRuns = true → u.lanesAllow d goal = true → goal ≠ 0 →
    let w := (u.setPhase d 0 1).idleStop d
    exec (.domainIdleExpire d) s = .next (w.setPow { w.pow with goal := w.pow.goal.set d goal }).finished) ∧
  (d < 22 → s.domPhase d = 1 → s.mode ≠ .safe →
    let goal := s.pow.goal.getD d 1
    let u := s.elapseFrom (s.domSince d) (ceilDiv (entryNs d goal) 4)
    exec (.domainEntryComplete d) s = .next (if goal = 2 then u.domainOff d else u.setFld (PWR_D_STATUS d) 0 4 1).finished) ∧
  (d < 22 → s.domPhase d = 2 →
    let u := s.domainReady d bad
    let v := if d = domMgmt then u.wdogRestart else u
    let w := if v.pow.resetLate.contains d then
      (v.setPow { v.pow with resetLate := v.pow.resetLate.erase d }).blockReset d else v
    exec (.domainWakeComplete d bad) s = .next ((w.setIfc { w.ifc with reads := [] }).resumeBus.resumeRequests).finished) ∧
  (s.pow.stalled = x :: r →
    let u := s.elapseFrom x.since 25000
    let v := (u.setPow { u.pow with stalled := r }).setIfc { u.ifc with reads := [] }
    let w := ((v.bump PWR_STALL_TIMEOUTS).setBit PWR_IRQ_STATUS 1).raise 53 (domOfReg (viewOff x.addr)) x.addr
    exec .stallTimeout s = .next ((w.accessFails x 2).takeWaiting r.length).finished)

/-- What a wake leaves in the domain's own registers. (R314, R321) -/
def Obligations.DomainReady : Prop := ∀ (s : State) (d e : Nat), d < 22 → e < 22 → s.domState d = 1 → (d < 6 ∨ 10 ≤ d) →
  s.domSince d + ceilDiv (readyNs d 1) 4 ≤ s.time.clk →
  let t := s.domainReady d []
  t.domState d = 0 ∧ t.domPhase d = 0 ∧ t.rf (PWR_D_WAKES d) 0 32 = min (2 ^ 32 - 1) (s.rf (PWR_D_WAKES d) 0 32 + 1) ∧
  t.reg (PWR_D_CFG e) = s.reg (PWR_D_CFG e) ∧ t.reg (PWR_D_VOTE_HOST e) = s.reg (PWR_D_VOTE_HOST e) ∧
  t.reg (PWR_D_VOTE_FW e) = s.reg (PWR_D_VOTE_FW e) ∧ t.time = s.time

/-- Votes, low states and performance requests as written. (R317, R319, R328) -/
def Obligations.PowerRegisters : Prop := ∀ (s : State) (rq : Requester) (d e : Nat) (v : Word), d < 22 → e < 4 →
  (let off := match rq with | .host => PWR_D_VOTE_HOST d | .mgmt => PWR_D_VOTE_FW d
   s.accepts rq off true → exec (.pwrVoteWrite rq d v) s = .next (((s.arrived rq off 2).storing off v.toNat).voted d).finished) ∧
  (s.accepts rq (PWR_D_CFG d) true → exec (.pwrLowWrite rq d v) s =
    .next (((s.arrived rq (PWR_D_CFG d) 2).storing (PWR_D_CFG d) v.toNat).voted d).finished) ∧
  (s.accepts rq (PWR_ERG_PERF_REQ e) true → exec (.perfReqWrite rq e v) s =
    .next ((s.arrived rq (PWR_ERG_PERF_REQ e) 2).storing (PWR_ERG_PERF_REQ e) v.toNat).perfAsk.finished)

/-- The performance sequence: clocks fall, the voltage is written, read back and settles, clocks rise. (R326, R327,
R328, R329, R330) -/
def Obligations.PerfSequence : Prop := ∀ (s : State) (e mv : Nat) (fault : Bool),
  (let u := (s.setPoint e (s.pow.points.getD e 0)).clrBit (PWR_ERG_PERF_STATUS e) 2
   (s.pow.avs = 1 → s.pow.falling.contains e = true →
    let w := u.setPow { s.pow with falling := s.pow.falling.erase e }
    exec (.perfClockSwitch e) s =
      .next (if (s.pow.falling.erase e).isEmpty then w.perfVolt.perfAgain else w).finished) ∧
   (s.pow.avs = 5 → s.pow.rising.contains e = true →
    let w := u.setPow { s.pow with rising := s.pow.rising.erase e }
    exec (.perfClockSwitch e) s =
      .next (if (s.pow.rising.erase e).isEmpty then w.perfEnd.perfAgain else w).finished)) ∧
  (s.rbit PWR_AVS_CFG 0 = true →
    (s.pow.avs = 2 → exec .avsWrite s =
      .next ((s.setFld PWR_AVS_STATUS 0 10 s.seqTarget).setPow { s.pow with avs := 3, avsAt := s.time.clk }).finished) ∧
    (s.pow.avs = 3 → s.time.clk + 800 ≤ s.pow.avsAt + s.rf PWR_AVS_CFG 8 8 * 250 →
      let u := (s.elapse 800).setFld PWR_AVS_STATUS 16 10 mv
      let t := u.rf PWR_AVS_STATUS 0 10
      exec (.avsReadback (.volts mv)) s = .next (if mv ≤ t + 5 ∧ t ≤ mv + 5
        then u.setPow { u.pow with avs := 4, avsAt := u.time.clk, avsBad := false } else u).finished) ∧
    ((if fault then 2 ≤ s.pow.avs ∧ s.pow.avs ≤ 4 else s.pow.avs = 3) →
      let u := if fault then s else s.elapseFrom s.pow.avsAt (s.rf PWR_AVS_CFG 8 8 * 250)
      let r := u.rf PWR_AVS_STATUS 16 10
      let v := ((u.setBit PWR_AVS_STATUS 29).setBit PWR_IRQ_STATUS 2).raise 54 (u.rf PWR_AVS_STATUS 0 10) r
      let w := v.setPow { v.pow with avsBad := true }
      let x := w.each (List.range 4) fun s e =>
        if s.awake (domErg e) then (s.setPoint e (s.limited (s.effPoint e))).clrBit (PWR_ERG_PERF_STATUS e) 2 else s
      exec (if fault then .avsReadback .fault else .avsTimeout) s =
        .next (((x.setPow { x.pow with avs := 0, falling := [], rising := [] }).clrBit PWR_AVS_STATUS 28).perfAgain).finished)) ∧
  (s.pow.avs = 4 → exec .avsSettleDone s =
    .next (((s.elapseFrom s.pow.avsAt (s.rf PWR_AVS_CFG 16 8 * 250)).perfRise).perfAgain).finished)

/-- The collector takes the oldest occurrences, those of one cycle together. (R32, R334, R336, R343, R344) -/
def Obligations.FaultOccurrence : Prop := ∀ (s : State) (o : Occ) (rest : List Occ), s.occ = o :: rest → s.timeHeld = false →
  let u := { s with occ := s.occ.dropWhile fun x => x.clk == o.clk }
  let l := sortOcc ((s.occ.takeWhile fun x => x.clk == o.clk).filter fun x => Nat.blt x.src 64)
  let masks := l.map fun x => (x, u.takenOf x)
  let safe := masks.any fun x => bit x.2 5
  let taken := masks.map fun x => (x.1, if safe then setBits x.2 3 1 0 else x.2)
  let t := (u.each taken fun s x => s.logOcc x.1 x.2).react taken
  exec .faultOccurrence s = .next t.finished ∧
  (∀ x ∈ l, bits (u.srcCfg x) 0 2 = 3 → s.mode ≠ .safe → t.grave = true ∧ t.mode = .safe) ∧
  (let c := u.srcCfg o
   let k := u.takenOf o
   l = [o] → bits k 1 3 = 0 → bit k 5 = false →
    t.rf (FLT (0x200 + 4 * o.src)) 0 32 = min (2 ^ 32 - 1) (s.rf (FLT (0x200 + 4 * o.src)) 0 32 + 1) ∧
    t.rbit (State.srcReg 0x008 o.src) (o.src % 32) = true ∧
    t.rbit (State.srcReg 0x010 o.src) (o.src % 32) = (bit k 4 || s.rbit (State.srcReg 0x010 o.src) (o.src % 32)) ∧
    t.grave = (s.grave || bits c 0 2 == 3) ∧
    (∀ off, (off < 0x40000 ∨ 0x50000 ≤ off) → t.reg off = s.reg off) ∧
    t = { u with regs := t.regs, flt := t.flt, grave := t.grave })

/-- Records, self-faults, the watchdog, sensors, clocks and the sideband. (R334, R340, R341, R342, R343, R344, R345,
R429, R432) -/
def Obligations.FaultCommands : Prop := ∀ (s : State) (n r i mv now a ptr len : Nat) (b data : Bytes) (q : List (Nat × Bytes))
    (corrected : Bool),
  (s.flt.queue = (n, b) :: q →
    let u := s.each (List.range 32) fun s i => s.setReg (0x48000 + 128 * (n % 256) + 4 * i) (ofLe ((b.drop (4 * i)).take 4))
    exec .faultRecordWrite s = .next (((u.setFlt { s.flt with queue := q }).wrapFld (FLT 0x034) 0 32).setReg (FLT 0x030)
      ((n + 1) % 256)).finished) ∧
  (s.timeHeld = false →
    (let w := s.draw.1.toNat
     let u := { s.draw.2 with grave := true }.setBit (FLT 0x004) 3
     let fl := w % 4 + b2n (s.mode != .safe) * 4 + 8
     let taken := if s.mode = .safe then 0 else (w / 4 &&& 0x17) ||| 0x20
     exec (.collectorParityError r) s =
       .next (((u.countClass (w % 4)).queueRecord 0xFF fl taken { src := 0xFF, d0 := r }).enterSafe 0xFF).finished ∧
     exec .collectorClockLoss s =
       .next (((u.countClass (w % 4)).queueRecord 0xFE fl taken { src := 0xFE }).enterSafe 0xFE).finished) ∧
    (let u := (s.elapse (25000 - s.time.clk % 25000)).setFld (FLT 0x064) 0 8 now
     let v := if signed 8 (u.rf (FLT 0x064) 8 8) < signed 8 now then u.setFld (FLT 0x064) 8 8 now else u
     let c := v.cfg v.crest.bank (FLT 0x060)
     let warn := Int.ofNat (bits c 0 8)
     let hot := intLe (bits c 8 8) (signed 8 now)
     let w := v.setFlt { v.flt with
       warm := intLe warn (signed 8 now) || (v.flt.warm && intLe (warn - 5) (signed 8 now))
       hot := hot }
     let x := if intLe warn (signed 8 now) && !v.flt.warm then w.raise 1 (unsigned 32 (signed 8 now)) else w
     exec (.tempSample now) s = .next (if hot && !v.flt.hot then x.raise 2 (unsigned 32 (signed 8 now)) else x).finished) ∧
    (let w := railWindow (if s.rbit PWR_AVS_CFG 0 then s.rf PWR_AVS_STATUS 0 10 else 800) i
     i < 6 → mv < 4096 → (mv < w.1 ∨ w.2 < mv) → exec (.railOutOfWindow i mv) s =
       .next (((s.setFld (FLT (0x070 + 4 * i)) 0 12 mv).setBit (FLT (0x070 + 4 * i)) (if w.2 < mv then 17 else 16)).raise 3 i
         mv).finished) ∧
    exec .refclkSysLoss s = .next (s.raise 7).finished ∧ exec .xtal32Fault s = .next (s.raise 9).finished ∧
    (i < 7 → exec (.pllLockLoss i) s = .next (s.raise 8 i).finished) ∧
    (a < 2 ^ 21 → exec (.mgmtSramEccError a corrected) s = .next (s.raise (if corrected then 11 else 12) a).finished)) ∧
  (s.rbit (FLT 0x050) 0 = true → s.wdogSuspended = false → s.flt.expired = false → s.inReset = false →
    let u := s.elapseFrom s.flt.kickAt (s.rf (FLT 0x050) 16 14 * 250000)
    exec .wdogExpire s = .next ((u.draw.2.setFlt { u.flt with expired := true }).raise 10 u.draw.1.toNat).finished) ∧
  (s.held.mainPor = false →
    exec (.sbI2cRead ptr len) s = .next (s.setIfc { s.ifc with
      sbData := (List.range len).map fun i => s.sbByte ((ptr + i) % 65536)
      sbPtr := (ptr + len) % 65536 }).finished ∧
    (2 ≤ data.length → exec (.sbI2cWrite data) s = .next (s.setIfc { s.ifc with sbPtr := be16 data 0 }).finished)) ∧
  exec .sbSclTimeout s = .next (s.elapse 8750000).finished

/-- Kicks, injections, firmware's own reports and the clears of the fault collector. (R341, R345) -/
def Obligations.FaultRegisters : Prop := ∀ (s : State) (rq : Requester) (v : Word),
  (s.accepts .mgmt (FLT 0x054) true →
    let u := (s.arrived .mgmt (FLT 0x054) 2).storing (FLT 0x054) v.toNat
    exec (.wdogKick .mgmt v) s = .next (if v.toNat % 65536 = 0xA5C3 then u.wdogRestart else u).finished) ∧
  (s.accepts .host (FLT 0x054) true → exec (.wdogKick .host v) s = .next (s.arrived .host (FLT 0x054) 2).finished) ∧
  (s.accepts rq (FLT 0x020) true →
    let u := (s.arrived rq (FLT 0x020) 2).storing (FLT 0x020) v.toNat
    exec (.fltInject rq v) s = .next (if u.rbit (FLT 0x000) 0 then
      { u with occ := u.occ ++ [{ src := v.toNat % 64, injected := true, clk := u.time.clk, bank := u.crest.bank }] }
      else u).finished) ∧
  (s.accepts .mgmt (FLT 0x024) true → exec (.fltFwReport .mgmt v) s =
    .next (((s.arrived .mgmt (FLT 0x024) 2).storing (FLT 0x024) v.toNat).raise 0 (v.toNat % 65536)).finished) ∧
  (s.accepts .host (FLT 0x024) true → exec (.fltFwReport .host v) s = .next (s.arrived .host (FLT 0x024) 2).finished) ∧
  (s.accepts rq (FLT 0x000) true →
    (exec (.fltClassClear rq) s = .next (((s.arrived rq (FLT 0x000) 2).storing (FLT 0x000) (s.reg (FLT 0x000) % 2 + 2)).setReg
      (FLT 0x03C) 0).finished) ∧
    (let u := (s.arrived rq (FLT 0x000) 2).storing (FLT 0x000) (s.reg (FLT 0x000) % 2 + 4)
     exec (.fltMaxClear rq) s = .next (u.setFld (FLT 0x064) 8 8 (u.rf (FLT 0x064) 0 8)).finished))

/-- Resets by the pins and by the supplies. (R22, R31, R340, R343, R416, R421, R422) -/
def Obligations.ResetCommands : Prop := ∀ (s : State) (straps ticks sb : Nat),
  let ended := fun (u : State) (h : Held) =>
    let v := u.setHeld h
    let w := if u.timeHeld ∧ ¬ v.timeHeld then ((v.resetAll false).timeStart).lossReport else v
    let x := if w.inReset then w else w.setIfc { w.ifc with straps := straps % 8 }
    if x.timeHeld then x else if x.grave then x.enterSafe 0 else if x.inReset then x else x.loadStart
  let reported := fun (u : State) => if u.inReset ∨ u.mode = .safe then u else u.setBit GLB_IRQ_STATUS 0
  (s.held.mainPor = false →
    exec .mainPorFall s = .next ((s.tornRecord.setHeld { s.tornRecord.held with mainPor := true }).resetAll false).finished) ∧
  (s.held.mainPor = true →
    let u := s.elapse (ceilDiv (ticks * keeperTick) 256)
    let v := if u.held.aoLost then u.aoReset.setIfc { u.ifc with sbAddr := sb % 4 } else u
    exec (.mainSupplyPorRise ticks straps sb) s =
      .next (ended { v with grave := false } { v.held with mainPor := false }).finished) ∧
  (s.held.sram = false → exec .vddSramFall s = .next ((s.setHeld { s.held with sram := true }).resetAll false).finished) ∧
  (s.held.sram = true → exec (.vddSramRecover straps) s = .next (ended s { s.held with sram := false }).finished) ∧
  (s.held.porN = false → exec .porNAssert s = .next (if s.grave ∧ s.held.mainPor = false then s.resetRefused
    else (s.setHeld { s.held with porN := true }).resetAll false).finished) ∧
  (s.held.porN = true → exec (.porNRelease straps) s = .next (reported (ended s { s.held with porN := false })).finished) ∧
  (s.held.resetN = false → exec .resetNAssert s = .next (if s.grave ∧ s.held.mainPor = false then s.resetRefused
    else (s.setHeld { s.held with resetN := true }).resetAll (!s.timeHeld)).finished) ∧
  (s.held.resetN = true → s.mode ≠ .safe →
    exec (.resetNRelease straps) s = .next (reported (ended s { s.held with resetN := false })).finished) ∧
  (s.held.resetN = true → s.mode = .safe → exec (.resetNRelease straps) s =
    .next (if s.grave then s.setHeld { s.held with resetN := false }
      else reported (ended (s.resetAll (!s.timeHeld)) { s.held with resetN := false })).finished)

/-- What a reset leaves. (R31, R62, R416, R417, R421, R422) -/
def Obligations.ResetLeaves : Prop := ∀ s : State, (s.grave = false ∨ s.held.mainPor = true) →
  (s.held.porN = false → ∃ t, exec .porNAssert s = .next t ∧
    (∀ off, t.reg off = if aoReg off then s.reg off else regReset off) ∧
    (∀ b off, t.cfg b off = regReset off) ∧ (∀ b x e i, t.tabBE b x e i = State.reset.tabBE b x e i) ∧
    t.mode = .load ∧ t.frames = [] ∧ t.crest = State.reset.crest ∧ (∀ n, t.count n = 0) ∧ t.keeperSec = s.keeperSec ∧
    t.grave = s.grave ∧ t.host = s.host ∧ t.nvm = s.nvm ∧ t.sram = State.reset.sram ∧ t.pending = s.pending) ∧
  (s.held.resetN = false → s.timeHeld = false → ∃ t, exec .resetNAssert s = .next t ∧
    (∀ off, t.reg off = if aoReg off || timeReg off then s.reg off else regReset off) ∧
    (∀ b off, t.cfg b off = if timeReg off then s.cfg b off else regReset off) ∧
    t.mode = .load ∧ t.frames = [] ∧ (∀ n, t.count n = s.count n) ∧ t.grave = s.grave ∧ t.host = s.host ∧ t.nvm = s.nvm ∧
    t.sram = State.reset.sram ∧ t.pending = s.pending)

/-- The main supply and the backup. (R331, R332) -/
def Obligations.SupplyCommands : Prop := ∀ (s : State) (ticks : Nat),
  (s.mainLost = false →
    let u := { s with mainLost := true, held := { s.held with loss := true, aoLost := false } }
    let v := ((u.satFld PWR_MAINLOSS_COUNT 0 16 1).setReg PWR_MAINLOSS_SEC_HI (s.rf TMB_KEEPER_SEC_HI 0 16)).setReg
      PWR_MAINLOSS_SEC_LO (s.rf TMB_KEEPER_SEC_LO 0 32)
    let w := ((v.setReg PWR_MAINLOSS_TICKS (s.rf TMB_KEEPER_TICKS 0 15)).setBit TMB_KEEPER_STATUS 1).setBit PWR_SUPPLY 1
    exec .mainSupplyLoss s = .next (if s.rbit PWR_SUPPLY 2 then w else w.aoReset).finished) ∧
  (s.mainLost = true →
    let u := s.elapse (ceilDiv (ticks * keeperTick) 256)
    let v := ((u.setReg PWR_RESTORE_SEC_HI (u.rf TMB_KEEPER_SEC_HI 0 16)).setReg PWR_RESTORE_SEC_LO
      (u.rf TMB_KEEPER_SEC_LO 0 32)).setReg PWR_RESTORE_TICKS (u.rf TMB_KEEPER_TICKS 0 15)
    let w := if u.held.aoLost then v.setBit PWR_SUPPLY 3 else v
    exec (.mainSupplyRestore ticks) s =
      .next ({ w with mainLost := false, held := { u.held with aoLost := false } } : State).finished) ∧
  bit (s.showWord .host .pwr 0x008 (s.reg PWR_SUPPLY)) 0 = !s.mainLost ∧
  (s.rbit PWR_SUPPLY 2 = true →
    let u := s.clrBit PWR_SUPPLY 2
    (s.mainLost = true → exec .bakOkFall s = .next u.aoReset.finished) ∧
    (s.mainLost = false → s.inReset = false → exec .bakOkFall s =
      .next (((u.setBit PWR_SUPPLY 3).setBit PWR_IRQ_STATUS 3).raise 52).finished) ∧
    (s.mainLost = false → s.inReset = true → exec .bakOkFall s = .next (u.setBit PWR_SUPPLY 3).finished)) ∧
  exec .bakOkRise s = .next (s.setBit PWR_SUPPLY 2).finished

/-- The steps of LOAD, and TEST. (R31, R365, R367, R369, R371, R372, R373, R378) -/
def Obligations.LoadCommands : Prop := ∀ (s : State) (part : NvmPart) (j : Nat) (copyB : Bool),
  (s.mode = .load → exec .tableInitDone s = .next (s.setBoot { s.boot with ready := true }).finished) ∧
  (s.mode = .load → s.boot.stage = 0 → s.inReset = false → part.sfdp = true → 2 ^ 23 ≤ part.density → part.err = false →
    let two := s.strapTwo && Nat.ble (2 ^ 24) part.density
    let u := s.each part.content fun s x => s.nvmWrite x.1 x.2
    let v := (((u.putBit (NVM 0) 0 two).putBit (NVM 0) 1 (s.strapTwo && !two)).setFld (NVM 0) 8 8 part.density.log2).setFld
      (NVM 0) 16 8 (min 104 part.clock)
    v.chooseHeader (b2n two) = some copyB →
    let w := (v.setBoot { v.boot with header := true }).putBit (NVM 0) 2 copyB
    exec (.nvmHeaderRead part) s =
      .next ((w.setReg (NVM 0x024) (max (w.reg (NVM 0x024)) (w.headerField 28 4))).chooseFirmware).finished) ∧
  (s.mode = .load → s.boot.stage = 1 → s.inReset = false → s.fwSlot = some j →
    (let b := s.slotBytes j
     let u := s.sramWrite 0 b
     exec (.fwImageCheck false) s = .next (if firmwareGood b (s.headerField 24 4) then
       (u.setBoot { u.boot with areaB := false }).chooseCrest else u.firmwareFails j).finished) ∧
    (s.boot.retried = false → exec (.fwImageCheck true) s =
      .next ((s.loadFails (s.slotBase j)).setBoot { s.boot with retried := true }).finished)) ∧
  (s.mode = .load → s.boot.stage = 2 → s.boot.ready = true → s.inReset = false → s.slotIn kindCrest slotActive = some j →
    let b := s.slotBytes j
    let count := ofLe ((b.drop 20).take 4)
    let sec := sectionAt b s.boot.next
    crestHeaderGood b = true → s.boot.applied < count → sec.good = true →
    let u := s.loadSection sec
    let v := u.setBoot { u.boot with applied := u.boot.applied + 1, next := u.boot.next + 16 + sec.body.length }
    exec (.crestSectionApply false) s = .next (if count ≤ v.boot.applied then
      ((v.crestIds b).crestGo 1).setBoot { v.boot with stage := 3 } else v).finished) ∧
  (s.accepts .host GLB_TEST_CTL true →
    (s.mode = .run → exec (.testEnter .host) s = .next ((((s.arrived .host GLB_TEST_CTL 2).storing GLB_TEST_CTL 0x7E570001).each
      (List.range 22) fun s d => s.wake d).setMode .test).finished) ∧
    (s.mode = .test → exec (.testExit .host) s =
      .next (((s.arrived .host GLB_TEST_CTL 2).storing GLB_TEST_CTL 0x7E570002).reload).finished)) ∧
  (s.accepts .mgmt GLB_TEST_CTL true → exec (.testEnter .mgmt) s = .next (s.arrived .mgmt GLB_TEST_CTL 2).finished ∧
    exec (.testExit .mgmt) s = .next (s.arrived .mgmt GLB_TEST_CTL 2).finished)

/-- A register is written and read over the bus. (R8, R9, R10, R30, R343, R350, R351) -/
def Obligations.RegisterAccess : Prop := ∀ (s : State) (rq : Requester) (off : Nat) (v : Word) (whole : Bool) (k : Nat),
  (∀ b base, s.accepts rq off true → State.plainReg off = some (b, base) → s.ignoresWrite rq off = false →
    let u := s.arrived rq off 2
    exec (.registerWrite rq off v true) s =
      .next ((u.storing off v.toNat).written rq b (off - base) (u.reg off) v.toNat u.coupleMode).finished) ∧
  (off = MON_U_STATUS 6 ∨ off = MON_IRQ_STATUS → s.accepts rq off true →
    let set := (((s.accessing off).setReg off 0).event 6 2 1 (State.accessAttr rq off)).reg off
    exec (.registerWrite rq off v true) s =
      .next ((s.arrived rq off 2).storing off ((v.toNat ||| set) ^^^ set)).finished) ∧
  (s.accepts rq off false →
    let u := (s.arrived rq off 1).registerRead rq (viewOff off) (inMirror off)
    exec (.registerRead rq off true) s = .next (u.1.setIfc { u.1.ifc with
      reads := u.1.ifc.reads ++ [{ rq, addr := off, ok := true, value := u.2 % 2 ^ 32 }] }).finished) ∧
  (s.inReset = false → (rq = .mgmt → s.mode ≠ .test ∧ s.mode ≠ .safe) → s.pow.stalled = [] →
    let u := s.setIfc { s.ifc with reads := [] }
    let w := fun (wr : Bool) => if s.mode = .safe then u else (((u.setReg (HST 0x010) off).setReg (HST 0x014)
      (requesterNum rq + k * 2 + b2n wr * 16)).bump (HST 0x018)).setBit (HST 0x020) 0
    (s.accessError rq off true whole = some k → exec (.registerWrite rq off v whole) s =
      .next ((w true).raise 16 off (requesterNum rq) k).finished) ∧
    (s.accessError rq off false whole = some k → exec (.registerRead rq off whole) s =
      .next (((w false).raise 16 off (requesterNum rq) k).setIfc { s.ifc with
        reads := [{ rq, addr := off, ok := false, value := 0 }] }).finished))

/-- Rings: enabling, acknowledging, transmit descriptors, deliveries to the CPU, read time-outs and coalescing. (R347,
R356, R357, R359, R360, R363) -/
def Obligations.RingCommands : Prop := ∀ (s : State) (rq : Requester) (r : Nat) (v : Word) (tx : TxFetch) (rx : RxDeliver)
    (c : Copy) (f : Frame),
  (r < 36 → s.channelOwner r = rq → s.accepts rq (chanBase r) true →
    let u := s.arrived rq (chanBase r) 2
    exec (.ringEnable rq r v) s =
      .next ((u.storing (chanBase r) (v ||| 1).toNat).channelEnable r (u.reg (chanBase r))).finished) ∧
  (r < 36 → s.channelOwner r = rq → s.accepts rq (chanBase r + 0x18) true →
    let u := (s.arrived rq (chanBase r + 0x18) 2).storing (chanBase r + 0x18) v.toNat
    exec (.ringAck rq r v) s =
      .next (u.setIfc { u.ifc with done := u.ifc.done.set r ((u.unacked r).drop (v.toNat % 4096)) }).finished) ∧
  (let u := s.elapse tx.wait
   let ch := 16 + tx.ring
   let d := txDesc tx.desc
   let w := u.setIfc { u.ifc with turn := (tx.ring + 1) % 16 }
   u.forwarding = true → u.nextTxRing = some tx.ring →
    (tx.lost = true → exec (.txDescriptorFetch tx) s = .next (w.chanError ch).finished) ∧
    (tx.lost = false → State.sramBeyond (w.chanSram ch) (w.chanDesc ch 32) 32 = false →
      let w := w.ignoredRequest d
      (∀ st t, w.txRefused d = some (st, t) → exec (.txDescriptorFetch tx) s = .next (t.txEnds ch d st).finished) ∧
      (∀ t b p, w.txRefused d = none → w.allocBuffer (d.len + 4) State.ringClient = (t, some (b, p)) → tx.fail = false →
        tx.bytes.length = d.len → State.sramBeyond (w.chanSram ch) d.addr d.len = false →
        exec (.txDescriptorFetch tx) s = .next ((t.txInject d tx.bytes State.ringClient).txEnds ch d 0).finished))) ∧
  (let u := s.elapse rx.wait
   let ring := u.cpuRing c
   let body := u.outBody c f f.raw
   let addr := rx.addr % 2 ^ 64 / 8 * 8
   u.forwarding = true → u.awake domOasis = true → u.awake domSched = true →
    ((u.portChoice 64 ((u.backlog 64).filter u.cpuReady)).bind fun o => u.headCopy o.queue) = some c →
    u.frame c.frame = some f → rx.ecc = .good → rx.fail = false →
    State.sramBeyond (u.chanSram ring) (u.chanDesc ring 32) 32 = false →
    State.sramBeyond (u.chanSram ring) addr (min body.length (u.rf (chanBase ring) 8 8 * 64)) = false →
    let a := u.copyAttr c
    let n := body.length + 4
    let e := ((u.event 4 6 1 a).event 4 7 n a).event 4 10 (b2n c.rsv) a
    let g := ((((e.chargeSend 64 c).stat 64 stTxOctets n).countSent 64 n (beAt body 0 6)).bwTx 64 n).egressMirrors c f body
    let h := g.when (g.follows f c) fun s => (s.traceAt f.root 5 s.rawNs).traceAt f.root 6 s.rawNs
    exec (.cpuRxDeliver rx) s =
      .next ((((h.cpuWrite ring c f addr body).traceEnd f c 7).releaseCopy c).checkHead c.queue).finished) ∧
  (r < 36 → s.chanOn r = true → s.chanSram r = false → s.chanPosted r = true →
    let u := s.elapse (s.rf (HST 0x004) 0 16 * 250)
    exec (.dmaReadTimeout r) s = .next ((((u.setBit (chanBase r + 0x1C) 0).raise 18 r (u.rf (chanBase r + 0x0C) 0 12)).setBit
      (HST 0x020) 1)).finished) ∧
  (∀ a l, r < 36 → s.unacked r = a :: l → s.rf (chanBase r + 0x14) 8 16 ≠ 0 → exec (.coalTimerExpire r) s =
    .next (s.elapse (a + s.rf (chanBase r + 0x14) 8 16 * 250 - s.time.clk)).finished)

/-- MSI-X messages, the PCIe link, configuration and the mailbox. (R346, R364, R379) -/
def Obligations.HostCommands : Prop := ∀ (s : State) (rq : Requester) (n st : Nat) (v : Word) (down bme msix fm hi : Bool),
  (s.mode ≠ .safe → s.vecReady n = true →
    let l := sparseGet (fun _ => 0) n s.ifc.last
    let u := if l = 0 then s else s.elapse (l - 1 + s.rf (HST (0x100 + 4 * n)) 0 16 * 250 - s.time.clk)
    let e := HST (0x8000 + 16 * n)
    let w := (u.hostWrite (u.reg e / 4 * 4 + u.reg (e + 4) * 2 ^ 32) (leBytes 4 (u.reg (e + 8)))).event 6 6 1
    exec (.msixMessage n) s = .next (w.setIfc { w.ifc with
      service := w.ifc.service ++ [n]
      last := sparsePut (fun _ => 0) n (w.time.clk + 1) w.ifc.last
      pulse := w.ifc.pulse && n != 28 }).finished) ∧
  (let off := HST (if hi then 0x04C else 0x048)
   let base := if hi then 32 else 0
   s.accepts rq off true → exec (.vecRearm rq hi v) s = .next (((s.arrived rq off 2).storing off v.toNat).rearm base v.toNat).finished) ∧
  (s.inReset = false →
    (exec (.pcieLinkDown down st) s =
      .next (((if down then s.clrBit (HST 0x000) 8 else s).setBit (HST 0x020) 2).raise 17 st).finished) ∧
    (1 ≤ n → n ≤ 3 → (st = 1 ∨ st = 2) → exec (.pcieLinkUp n st) s =
      .next (((s.setFld (HST 0x000) 0 2 n).setFld (HST 0x000) 4 2 st).setBit (HST 0x000) 8).finished) ∧
    (let u := ((s.putBit (HST 0x000) 9 bme).putBit (HST 0x000) 10 msix).setIfc { s.ifc with fmask := fm }
     exec (.pcieConfigWrite bme msix fm) s = .next (if bme then u.flushPosted else u).finished)) ∧
  (s.accepts rq (NVM 0x020) true →
    let u := (s.arrived rq (NVM 0x020) 2).storing (NVM 0x020) 1
    exec (.mbxPost rq) s = .next (if s.mode = .load ∨ u.rbit (NVM 0x020) 1 = true then u.bump (NVM 0x108)
      else ((u.setBit (NVM 0x020) 1).setPow { u.pow with mgmtEvent := true }).revote domMgmt).finished)

/-- A message is checked before it is understood. (R377, R378, R379, R382, R383, R387, R390) -/
def Obligations.MessageChecks : Prop := ∀ (s t : State) (m : Msg) (err : Bool) (a : Admission), s.engineRuns = true →
  s.nextMessage = some (m, t) →
  let status := if t.mode = .handover ∨ t.boot.paused = true ∨ t.boot.handover.isSome = true then some 9
    else match t.msgError m with
      | some st => some st
      | none => if t.mode = .recovery ∧ m.type ∉ [1, 2, 3, 4, 7] then some 11 else none
  let on := m.asked.via = none ∨ s.inbandOn = true
  let u := match status with
    | some st => if m.asked.via.isSome ∧ s.inbandOn = false then t else t.refuse m st
    | none => t
  let r : Result := .next (u.setPow { u.pow with mgmtEvent := !u.boot.inband.isEmpty }).finished
  ((¬ on ∨ status.isSome = true) →
    (m.type = 1 → exec (.msgOpen err) s = r) ∧ (m.type = 2 → exec (.msgBlock err) s = r) ∧
    (m.type = 3 → exec (.msgClose err) s = r) ∧
    (m.type = 4 → exec (if m.kind = kindCrest then .msgActivateCrest else .msgActivateFw) s = r) ∧
    (m.type = 5 → exec .msgRevert s = r) ∧ (m.type = 6 → exec (.msgService a) s = r) ∧ (m.type = 7 → exec .msgStatus s = r) ∧
    (on → m.asked.via = none → u.nvm = s.nvm ∧ u.boot.session = s.boot.session ∧ u.reg (NVM 0x024) = s.reg (NVM 0x024))) ∧
  (m.type ≠ 1 → exec (.msgOpen err) s = .next s.finished) ∧ (m.type ≠ 2 → exec (.msgBlock err) s = .next s.finished) ∧
  (m.type ≠ 3 → exec (.msgClose err) s = .next s.finished) ∧ (m.type ≠ 5 → exec .msgRevert s = .next s.finished)

/-- What an accepted message does in RUN. (R377, R378, R380, R381, R383, R385, R388, R389) -/
def Obligations.MessageEffects : Prop := ∀ (s t : State) (m : Msg) (x : Session) (a : Admission) (j : Nat) (b : Bytes),
  s.engineRuns = true → s.nextMessage = some (m, t) → (m.asked.via = none ∨ s.inbandOn = true) → t.msgError m = none →
  t.mode = .run → t.boot.paused = false → t.boot.handover = none →
  let done := fun (u : State) => (.next (u.setPow { u.pow with mgmtEvent := !u.boot.inband.isEmpty }).finished : Result)
  let u := t.accepted m
  (∀ base, m.type = 1 → t.boot.session = none → t.openTarget m = some (j, base) → m.payload.length = 12 →
    ofLe ((m.payload.drop 8).take 4) ≤ t.slotSize j → (∀ i, base = some i → t.hash8 i = m.payload.take 8) →
    let w := u.rewriteHeader [State.stateAt j slotBuilding, (28, leBytes 4 (u.reg (NVM 0x024)))]
    let y : Session :=
      { id := m.session, kind := m.kind, slot := j, base := base.getD j, length := ofLe ((m.payload.drop 8).take 4), last := w.time.clk }
    exec (.msgOpen false) s = done ((w.setBoot { w.boot with session := some y }).answerOk m [])) ∧
  (m.type = 2 → t.sessionOf m = some x →
    (m.offset = x.received → t.deltaFrom x true m.payload.length x.written m.payload = some b →
      exec (.msgBlock false) s = done ((t.output x b m.payload.length).answerOk m [])) ∧
    (m.offset < x.received → exec (.msgBlock false) s =
      done ((t.setBoot { t.boot with session := some { x with last := t.time.clk } }).answerOk m []))) ∧
  (m.type = 3 → t.sessionOf m = some x → x.written = x.length → exec (.msgClose false) s = done ((t.stage x).answerOk m [])) ∧
  (m.type = 4 → t.boot.session = none → t.activateSlot m = some j → t.slotState j = slotStaged →
    (m.kind = kindFw → exec .msgActivateFw s =
      done ((u.setBoot { u.boot with handover := some { slot := j, cause := 0, asked := some m.asked } }).setMode .handover)) ∧
    (let img := t.slotBytes j
     let secs := sectionsFrom img (ofLe ((img.drop 20).take 4)) 64
     m.kind = kindCrest → m.payload.length = 10 → crestHeaderGood img = true → secs.all (·.good) = true →
      t.crest.phase = .opened → t.commitMode = true →
      let w := (((u.clearPending.each secs State.pendingSection).crestIds img).askCommit (ofLe (m.payload.take 6))
        (ofLe ((m.payload.drop 6).take 4)))
      exec .msgActivateCrest s =
        done (w.setBoot { w.boot with atCommit := some { asked := m.asked, slot := some j, payload := [] } }))) ∧
  (m.type = 5 → t.boot.confirmAt.isSome = true → exec .msgRevert s = done ((t.answerOk m []).goBack 2 slotStaged)) ∧
  (m.type = 6 → ofLe (m.payload.take 2) = 1 → 22 ≤ m.payload.length →
    (a.result ≠ 0 → exec (.msgService a) s = done (t.answerOk m (State.admissionReply m a ++ List.replicate 10 0))) ∧
    (a.result = 0 → t.crest.phase = .opened → t.commitMode = true →
      let v := u.each a.regs fun s x => s.registerWrite .mgmt x.1 x.2.toNat
      let w := (v.each a.tabs State.admissionEntry).crestGo 1
      exec (.msgService a) s =
        done (w.setBoot { w.boot with atCommit := some { asked := m.asked, slot := none, payload := State.admissionReply m a } }))) ∧
  (m.type = 7 → exec .msgStatus s = done (t.answerOk m []))

/-- Sessions that idle, handovers, the confirmation window and LLDP. (R374, R376, R380, R383, R384, R385, R386) -/
def Obligations.UpdateEvents : Prop := ∀ (s : State) (x : Session) (h : Handover) (p t0 i j : Nat) (tlvs : Bytes) (v : Word),
  (s.boot.session = some x → s.engineRuns = true →
    let u := s.elapseFrom x.last (s.rf (NVM 0x018) 0 16 * 250000000)
    exec .sessionIdleExpire s = .next ((u.setSlots [(x.slot, slotBad)]).setBoot
      { u.boot with session := none }).finished) ∧
  (s.boot.handover = some h → h.passed = false → s.engineRuns = true → s.mode ≠ .recovery →
    let c := s.imageCheck h.slot (!s.boot.areaB) false
    let l := if c.1.twoSlot then (h.slot, slotPending) :: c.1.formerActive kindFw h.slot else [(h.slot, slotActive)]
    let good := ((((c.1.setSlots l).bump (NVM 0x10C)).setBit (NVM 0x030) 3).activationReply h 0).pauseServices h
    let u := (c.1.raise 21 (c.1.slotField h.slot 2 1)).setBoot { c.1.boot with handover := none }
    let bad := if u.twoSlot then ((u.setSlots [(h.slot, slotBad)]).setMode .run).activationReply h 10
      else (({ u with recFromHandover := true } : State).setMode .recovery).activationReply h 10
    exec (.activateCheckDone false) s = .next (if c.2 then good else bad).finished) ∧
  (s.boot.handover = some h → h.passed = true → s.mode = .handover → s.inReset = false →
    let u := (s.sendClaim.showFwSlot h.slot).setMode .run
    exec .handoverControlPass s = .next (u.setBoot { u.boot with
      handover := none
      areaB := !u.boot.areaB
      confirmAt := if h.cause = 0 ∧ u.twoSlot = true then some u.time.clk else none }).finished) ∧
  (s.boot.paused = true → s.mode = .run → s.boot.handover = none →
    exec .servicesResume s = .next (s.setBoot { s.boot with paused := false }).finished) ∧
  (s.accepts .mgmt (NVM 0x010) true → bit v.toNat 0 = true → bits v.toNat 16 16 = 0xC0F1 →
    let u := (s.arrived .mgmt (NVM 0x010) 2).storing (NVM 0x010) v.toNat
    u.boot.confirmAt = some t0 → u.slotIn kindFw slotPending = some j →
    exec (.fwConfirm .mgmt v) s = .next (((u.setSlots [(j, slotActive)]).setBoot
      { u.boot with confirmAt := none }).clrBit (NVM 0) 5).finished) ∧
  (s.accepts .host (NVM 0x010) true → exec (.fwConfirm .host v) s = .next (s.arrived .host (NVM 0x010) 2).finished) ∧
  (s.boot.confirmAt = some t0 → s.mode = .run → s.inReset = false →
    let u := s.elapseFrom t0 (s.rf (NVM 0x008) 0 12 * 250000000)
    u.slotIn kindFw slotPending = some j → u.slotIn kindFw slotPrevious = some i →
    let w := (u.setBit (NVM 0x030) 2).raise 22 (u.slotField j 2 1)
    let z := ((w.setSlots [(j, slotBad), (i, slotActive)]).bump (NVM 0x110)).setMode .handover
    exec .confirmWindowExpire s =
      .next ((z.setBoot { z.boot with confirmAt := none }).pauseServices { slot := i, cause := 1, asked := none }).finished) ∧
  (s.servicesRun = true → p < 64 → s.portExists s.crest.bank p = true → s.inReset = false → exec (.lldpSend p tlvs) s =
    .next (s.sendDirect (beBytes 6 0x0180C200000E ++ beBytes 6 s.deviceMac ++ beBytes 2 0x88CC ++ tlvs) p 7 6 none false).finished)

/-- Monitor control, counters, snapshots and bandwidth windows. (R396, R397, R398, R401) -/
def Obligations.MonitorCommands : Prop := ∀ (s : State) (rq : Requester) (u k : Nat) (v : Word) (run clear snap : Bool)
    (t : Nat) (rest : List (Nat × Bool × Bool × Bool)),
  (s.accepts rq MON_CTL true →
    let w := fun (x : Word) => ((s.arrived rq MON_CTL 2).storing MON_CTL x.toNat)
    exec (.monRunWrite rq v) s = .next ((w v).monControl v.toNat).finished ∧
    exec (.monClear rq v) s = .next ((w (v ||| 2)).monControl (v ||| 2).toNat).finished ∧
    exec (.monSnap rq v) s = .next ((w (v ||| 4)).monControl (v ||| 4).toNat).finished) ∧
  (u < 7 → k < 8 → s.accepts rq (MON_U_COUNT u k) true →
    let off := MON_U_COUNT u k
    exec (.monCountWrite rq u k v) s = .next (if u = 6
      then ((s.accessing off).storing off v.toNat).event 6 2 1 (State.accessAttr rq off)
      else (s.arrived rq off 2).storing off v.toNat).finished ∧
    ((s.accessing off).storing off v.toNat).reg off = v.toNat ∧ ((s.arrived rq off 2).storing off v.toNat).reg off = v.toNat) ∧
  (s.mon.sync = (t, run, clear, snap) :: rest →
    let a := s.elapseToRaw (t * nsUnit)
    let b := a.setMon { a.mon with sync := rest }
    let c := if snap ∧ b.mode ≠ .safe then b.snapshot false true else b
    let d := if clear then c.monClear else c
    exec .monSyncApply s = .next (d.setMon { d.mon with run }).finished) ∧
  (s.rbit MON_DUMP_CFG 0 = true → s.mode ≠ .safe → s.rf MON_DUMP_PERIOD 0 24 ≠ 0 →
    let at_ := s.periodDue s.mon.dumpAt (s.rf MON_DUMP_PERIOD 0 24 * 1000)
    let a := s.elapseToRaw (at_ * nsUnit)
    let b := (a.setMon { a.mon with dumpAt := at_ }).wrapFld MON_DUMP_SEQ 0 32
    exec .dumpSnapshot s = .next (if b.mon.record.isSome then ((b.bump MON_DUMP_MISSED).setBit MON_IRQ_STATUS 8).raise 24 7
      else b.setMon { b.mon with record := some (b.dumpBytes (b.reg MON_DUMP_SEQ) true false) }).finished) ∧
  (s.rf MON_BW_CFG 0 20 ≠ 0 → s.inReset = false →
    let at_ := s.periodDue s.mon.bwAt (s.rf MON_BW_CFG 0 20 * 1000)
    let a := s.elapseToRaw (at_ * nsUnit)
    let b := a.each (List.range 69) fun s p =>
      (s.setReg (MON_BW_RX p) (s.mon.rx.getD p 0 / 4 % 2 ^ 32)).setReg (MON_BW_TX p) (s.mon.tx.getD p 0 / 4 % 2 ^ 32)
    exec .bwWindowEnd s = .next ((b.setMon { b.mon with
      rx := List.replicate 69 0
      tx := List.replicate 69 0
      bwAt := at_ }).wrapFld MON_BW_SEQ 0 32).finished)

/-- Dump records, the internal buffer and the tracers. (R399, R400, R402, R404, R405, R406, R407) -/
def Obligations.DumpsAndTracers : Prop := ∀ (s : State) (rq : Requester) (v : Word) (b : Bytes) (t : Traced),
  (s.accepts rq MON_DUMP_CFG true →
    let u := s.arrived rq MON_DUMP_CFG 2
    exec (.dumpEnable rq v) s = .next ((u.storing MON_DUMP_CFG (v ||| 1).toNat).dumpConfig (u.reg MON_DUMP_CFG)).finished) ∧
  (s.mon.record = some b → s.mode ≠ .safe →
    (s.rbit MON_DUMP_CFG 1 = true →
      let prod := s.rf MON_DUMP_PROD 0 17 % 170
      let u := s.setMon { s.mon with record := none, buffer := s.mon.buffer.writeAll (prod * 384) b }
      let w := u.setFld MON_DUMP_PROD 0 17 ((prod + 1) % 170)
      exec (.dumpRecordWrite false) s = .next (w.setIfc { s.ifc with pulse := true }).finished) ∧
    (let size := 2 ^ s.rf MON_DUMP_CFG 3 5
     let prod := s.rf MON_DUMP_PROD 0 17 % size
     let sram := s.rbit MON_DUMP_CFG 2
     let a := s.baseAddr (MON 0x028) (MON 0x02C) sram + prod * 384
     s.rbit MON_DUMP_CFG 1 = false → s.rbit MON_DUMP_CFG 16 = false →
      ((prod + 1) % size = s.rf MON_DUMP_CONS 0 17 % size → exec (.dumpRecordWrite false) s =
        .next (((s.bump MON_DUMP_LOST).setBit MON_IRQ_STATUS 7).setMon { s.mon with record := none }).finished) ∧
      ((prod + 1) % size ≠ s.rf MON_DUMP_CONS 0 17 % size → State.sramBeyond sram a 384 = false →
        let u := ((s.dmaWrite sram a b).dmaMoved 36 384).setFld MON_DUMP_PROD 0 17 ((prod + 1) % size)
        exec (.dumpRecordWrite false) s = .next (u.setMon { u.mon with record := none }).finished))) ∧
  (s.accepts rq (MON 0x044) false →
    let u := s.arrived rq (MON 0x044) 1
    exec (.dumpBufRead rq) s = .next (((u.wrapFld MON_DUMP_BUF_ADDR 2 14).setIfc { u.ifc with
      reads := [{ rq, addr := MON 0x044, ok := true, value := u.bufferWord % 2 ^ 32 }] })).finished) ∧
  (s.accepts rq MON_TRC_CFG true →
    let w := fun (x : Word) => ((s.arrived rq MON_TRC_CFG 2).storing MON_TRC_CFG x.toNat).tracerConfig
    exec (.trcEnable rq v) s = .next (w v).finished ∧
    exec (.trcDisable rq v) s = .next (w (v &&& 0xFFFFFFF0)).finished) ∧
  (s.mon.traced.find? (fun x => x.outcome.isSome) = some t → s.mode ≠ .safe → s.rbit MON_TRC_RING 16 = false →
    let size := 2 ^ s.rf MON_TRC_RING 1 5
    let prod := s.rf MON_TRC_PROD 0 17 % size
    let sram := s.rbit MON_TRC_RING 0
    let a := s.baseAddr (MON 0x08C) (MON 0x090) sram + prod * 64
    ((prod + 1) % size = s.rf MON_TRC_CONS 0 17 % size →
      let u := (s.bump MON_TRC_LOST).setBit MON_IRQ_STATUS 9
      exec (.traceRecordWrite false) s = .next ((if s.mon.overran then u
        else (u.setMon { u.mon with overran := true }).raise 25 t.erg).traceLeaves t).finished) ∧
    ((prod + 1) % size ≠ s.rf MON_TRC_CONS 0 17 % size → State.sramBeyond sram a 64 = false → exec (.traceRecordWrite false) s =
      .next (((((s.dmaWrite sram a (State.traceBytes s.mon.seq t)).dmaMoved 37 64).setFld MON_TRC_PROD 0 17
        ((prod + 1) % size)).bump MON_TRC_RECORDS).traceLeaves t).finished))

/-- The head of a port's timestamp queue is read in two words, and the second removes it. (R57; the spec's own words) -/
def Obligations.TimestampQueue : Prop := ∀ (s : State) (rq : Requester) (p : Nat), p < 64 →
  (∀ e q, s.txtsQueue p = e :: q → e.id < 65536 → e.tb < 4 → e.ns32 < 2 ^ 32 → e.frac < 256 →
    (s.accepts rq (TMB_TXTS_LO p) false → ∃ t, exec (.registerRead rq (TMB_TXTS_LO p) true) s = .next t ∧
      t.ifc.reads = [{ rq, addr := TMB_TXTS_LO p, ok := true, value := e.ns32 }] ∧ t.txtsQueue p = e :: q) ∧
    (let hi := e.frac + e.tb * 2 ^ 8 + b2n e.dropped * 2 ^ 10 + 2 ^ 11 + e.id * 2 ^ 16
     s.accepts rq (TMB_TXTS_HI p) false → ∃ t, exec (.txtsPop rq p) s = .next t ∧
      t.ifc.reads = [{ rq, addr := TMB_TXTS_HI p, ok := true, value := hi }] ∧ t.txtsQueue p = q) ∧
    (∀ x, ∃ l, (s.txtsWrite p x).txtsQueue p = e :: l)) ∧
  (s.txtsQueue p = [] → s.accepts rq (TMB_TXTS_HI p) false → ∃ t, exec (.txtsPop rq p) s = .next t ∧
    t.ifc.reads = [{ rq, addr := TMB_TXTS_HI p, ok := true, value := 0 }] ∧ t.txtsQueue p = [])

/-- A step runs the command at the front of the queue with the rest behind it. (R38) What an empty queue does is the
model's choice (log entry 5). -/
def Obligations.StepRunsFront : Prop := ∀ (s : State) (c : Instr) (rest : List Instr),
  (s.pending = c :: rest → step s = exec c (s.withPending rest)) ∧
  (s.withPending rest).pending = rest ∧ { s.withPending rest with pending := s.pending } = s ∧
  (s.pending = [] → step s = .next (s.elapse 1).finished)

/-- Every step answers, and leaves in service only vectors whose condition holds. (R363, R364) -/
def Obligations.ServicesSound : Prop := ∀ s : State, (∃ t, step s = .next t) ∧
  (∀ t, step s = .next t → t.serviceSound) ∧
  (∀ t, s.pending = [] → step s = .next t → ∀ v ∈ t.ifc.service, v ∈ s.ifc.service)

/-- The state after reset. (R12, R31, R39, R63, R67, R364) Registers for which the spec gives no reset value stand at
the values of the model's choice (log entry 6). -/
def Obligations.ResetState : Prop :=
  State.reset.pending = [] ∧ State.reset.serviceSound ∧ State.reset.storesWf = true ∧ State.reset.mode = .load ∧
  State.reset.crest.phase = .opened ∧ State.reset.crest.bank = false ∧ State.reset.frames = [] ∧ State.reset.grave = false ∧
  (∀ off, State.reset.reg off = regReset off) ∧ (∀ b off, State.reset.cfg b off = regReset off) ∧
  (∀ n, State.reset.count n = 0) ∧ (∀ n, State.reset.rawCount n = 0)
end

