-- ==== Sys2Proof/Laws/Bits.lean ====
section
/-! SUPPORT. The laws of bit fields: what a field of a word reads as after a field of it has been written. -/

namespace Sys2Proof.Machine

theorem bits_lt (v lo w : Nat) : bits v lo w < 2 ^ w := Nat.mod_lt _ (Nat.two_pow_pos w)

/-- Bit `i` of a word with a field replaced. -/
theorem testBit_setBits (v lo w x i : Nat) :
    (setBits v lo w x).testBit i = if lo ≤ i ∧ i < lo + w then x.testBit (i - lo) else v.testBit i := by
  have e : setBits v lo w x = (v >>> (lo + w)) <<< (lo + w) + ((x % 2 ^ w) <<< lo + v % 2 ^ lo) := by
    simp only [setBits, Nat.shiftLeft_eq]; omega
  have h1 : (x % 2 ^ w) <<< lo + v % 2 ^ lo < 2 ^ (lo + w) := by
    have a := Nat.mod_lt x (Nat.two_pow_pos w)
    have b := Nat.mod_lt v (Nat.two_pow_pos lo)
    rw [Nat.shiftLeft_eq, Nat.pow_add]
    nlinarith [Nat.two_pow_pos lo]
  rw [e, Nat.shiftLeft_add_eq_or_of_lt h1, Nat.shiftLeft_add_eq_or_of_lt (Nat.mod_lt v (Nat.two_pow_pos lo))]
  simp only [Nat.testBit_or, Nat.testBit_shiftLeft, Nat.testBit_shiftRight, Nat.testBit_mod_two_pow]
  by_cases a : lo ≤ i <;> by_cases b : i < lo + w <;> by_cases c : lo + w ≤ i
  all_goals (try omega)
  all_goals simp [a, b, c]
  · simp [show i - lo < w by omega, show ¬ i < lo by omega]
  · simp [show ¬ i - lo < w by omega, show ¬ i < lo by omega]
  · simp [show i < lo by omega]

/-- The field written reads as what was written, within its width. -/
@[simp] theorem bits_setBits_same (v lo w x : Nat) : bits (setBits v lo w x) lo w = x % 2 ^ w := by
  apply Nat.eq_of_testBit_eq
  intro i
  simp only [bits, Nat.testBit_mod_two_pow, Nat.testBit_shiftRight, testBit_setBits]
  by_cases h : i < w <;> simp [h]

/-- A field that lies apart from the one written reads as before. -/
theorem bits_setBits_other {v lo w x lo' w' : Nat} (h : lo' + w' ≤ lo ∨ lo + w ≤ lo') :
    bits (setBits v lo w x) lo' w' = bits v lo' w' := by
  apply Nat.eq_of_testBit_eq
  intro i
  simp only [bits, Nat.testBit_mod_two_pow, Nat.testBit_shiftRight, testBit_setBits]
  by_cases a : i < w'
  · simp [a, show ¬ (lo ≤ lo' + i ∧ lo' + i < lo + w) by omega]
  · simp [a]

@[simp] theorem bit_setBits (v lo w x i : Nat) :
    bit (setBits v lo w x) i = if lo ≤ i ∧ i < lo + w then bit x (i - lo) else bit v i := testBit_setBits v lo w x i

@[simp] theorem bit_one_zero : bit 1 0 = true := rfl
@[simp] theorem bit_zero (i : Nat) : bit 0 i = false := Nat.zero_testBit i

end Sys2Proof.Machine
end

