-- ==== Sys2Proof/Laws/Store.lean ====
section
/-! SUPPORT. The laws of sparse stores and memories: a read after a write, and the canonical form that every write
keeps. -/

namespace Sys2Proof.Machine

variable {α : Type} {d : Nat → α} {l : List (Nat × α)}

theorem sparseGet_erase_same (k : Nat) : sparseGet d k (sparseErase k l) = d k := by
  induction l with
  | nil => rfl
  | cons x r ih =>
    obtain ⟨a, v⟩ := x
    by_cases h : k = a <;> simp [sparseErase, sparseGet, h]
    · subst h; exact ih
    · simpa [h] using ih

theorem sparseGet_erase_other {j k : Nat} (h : j ≠ k) : sparseGet d j (sparseErase k l) = sparseGet d j l := by
  induction l with
  | nil => rfl
  | cons x r ih =>
    obtain ⟨a, v⟩ := x
    by_cases e : k = a
    · subst e; simp [sparseErase, sparseGet, h, ih]
    · simp [sparseErase, sparseGet, e, ih]

theorem sparseGet_insert_other {j k : Nat} {v : α} (h : j ≠ k) : sparseGet d j (sparseInsert k v l) = sparseGet d j l := by
  induction l with
  | nil => simp [sparseInsert, sparseGet, h]
  | cons x r ih =>
    obtain ⟨a, w⟩ := x
    by_cases e : k < a <;> simp [sparseInsert, sparseGet, e, h, ih]

theorem sparseGet_insert_erase (k : Nat) (v : α) : sparseGet d k (sparseInsert k v (sparseErase k l)) = v := by
  induction l with
  | nil => simp [sparseInsert, sparseErase, sparseGet]
  | cons x r ih =>
    obtain ⟨a, w⟩ := x
    by_cases e : k = a
    · simpa [sparseErase, e] using e ▸ ih
    · by_cases c : k < a <;> simp [sparseErase, sparseInsert, sparseGet, e, c, ih]

theorem sparseErase_mem {k : Nat} {x : Nat × α} (h : x ∈ sparseErase k l) : x.1 ≠ k := by
  induction l with
  | nil => simp [sparseErase] at h
  | cons y r ih =>
    obtain ⟨a, v⟩ := y
    by_cases e : k = a
    · simp only [sparseErase, e, if_true] at h; exact e ▸ ih (e ▸ h)
    · simp only [sparseErase, e, if_false, List.mem_cons] at h
      rcases h with rfl | h
      · exact fun q => e q.symm
      · exact ih h

variable [DecidableEq α]

/-- A read of the key written gives the value written. -/
@[simp] theorem sparseGet_put_same (k : Nat) (v : α) : sparseGet d k (sparsePut d k v l) = v := by
  unfold sparsePut
  split
  · rename_i h; rw [sparseGet_erase_same, h]
  · exact sparseGet_insert_erase k v

/-- A write leaves every other key as it was. -/
theorem sparseGet_put_other {j k : Nat} {v : α} (h : j ≠ k) : sparseGet d j (sparsePut d k v l) = sparseGet d j l := by
  unfold sparsePut
  split
  · exact sparseGet_erase_other h
  · rw [sparseGet_insert_other h, sparseGet_erase_other h]

/-- Both at once. -/
theorem sparseGet_put (j k : Nat) (v : α) : sparseGet d j (sparsePut d k v l) = if j = k then v else sparseGet d j l := by
  split
  · rename_i h; subst h; exact sparseGet_put_same j v
  · exact sparseGet_put_other ‹_›

theorem sparseWfFrom_mono {lo hi : Nat} (h : lo ≤ hi) (w : sparseWfFrom d hi l = true) : sparseWfFrom d lo l = true := by
  cases l with
  | nil => rfl
  | cons x r =>
    obtain ⟨a, v⟩ := x
    simp only [sparseWfFrom, Bool.and_eq_true, decide_eq_true_eq] at w ⊢
    exact ⟨⟨by omega, w.1.2⟩, w.2⟩

theorem sparseWfFrom_erase {lo : Nat} (k : Nat) (w : sparseWfFrom d lo l = true) : sparseWfFrom d lo (sparseErase k l) = true := by
  induction l generalizing lo with
  | nil => rfl
  | cons x r ih =>
    obtain ⟨a, v⟩ := x
    simp only [sparseWfFrom, Bool.and_eq_true, decide_eq_true_eq] at w
    by_cases e : k = a
    · simp only [sparseErase, e, if_true]
      exact e ▸ sparseWfFrom_mono (by omega) (ih w.2)
    · simp only [sparseErase, e, if_false, sparseWfFrom, Bool.and_eq_true, decide_eq_true_eq]
      exact ⟨w.1, ih w.2⟩

/-- An entry of no key present, put in its place. -/
theorem sparseWfFrom_insert {lo k : Nat} {v : α} (hk : lo ≤ k) (hv : v ≠ d k) (w : sparseWfFrom d lo l = true)
    (n : ∀ x ∈ l, x.1 ≠ k) : sparseWfFrom d lo (sparseInsert k v l) = true := by
  induction l generalizing lo with
  | nil => simp [sparseInsert, sparseWfFrom, hk, hv]
  | cons x r ih =>
    obtain ⟨a, u⟩ := x
    simp only [sparseWfFrom, Bool.and_eq_true, decide_eq_true_eq] at w
    have na : a ≠ k := n (a, u) (by simp)
    by_cases c : k < a
    · simp only [sparseInsert, c, if_true, sparseWfFrom, Bool.and_eq_true, decide_eq_true_eq]
      exact ⟨⟨hk, hv⟩, ⟨by omega, w.1.2⟩, w.2⟩
    · simp only [sparseInsert, c, if_false, sparseWfFrom, Bool.and_eq_true, decide_eq_true_eq]
      exact ⟨w.1, ih (by omega) w.2 fun x hx => n x (by simp [hx])⟩

/-- A write keeps the canonical form. -/
theorem sparseWf_put (k : Nat) (v : α) (w : sparseWf d l = true) : sparseWf d (sparsePut d k v l) = true := by
  unfold sparsePut
  split
  · exact sparseWfFrom_erase k w
  · exact sparseWfFrom_insert (Nat.zero_le k) ‹_› (sparseWfFrom_erase k w) fun x hx => sparseErase_mem hx

/-- A store that lists nothing is canonical. -/
@[simp] theorem sparseWf_nil : sparseWf d ([] : List (Nat × α)) = true := rfl

/-! ### Memories -/

variable {m : Memory}

@[simp] theorem Memory.read_write_same (a : Nat) (b : Byte) : (m.write a b).read a = b := sparseGet_put_same a b

theorem Memory.read_write_other {a c : Nat} {b : Byte} (h : c ≠ a) : (m.write a b).read c = m.read c := sparseGet_put_other h

theorem Memory.wf_write (a : Nat) (b : Byte) (w : m.wf = true) : (m.write a b).wf = true := sparseWf_put a b w

theorem Memory.wf_writeAll (a : Nat) (bs : List Byte) (w : m.wf = true) : (m.writeAll a bs).wf = true := by
  induction bs generalizing a m with
  | nil => exact w
  | cons b r ih => exact ih (a + 1) (Memory.wf_write a b w)

/-- A run of bytes leaves every byte outside it as it was. -/
theorem Memory.read_writeAll_other {a c : Nat} {bs : List Byte} (h : c < a ∨ a + bs.length ≤ c) :
    (m.writeAll a bs).read c = m.read c := by
  induction bs generalizing a m with
  | nil => rfl
  | cons b r ih =>
    simp only [List.length_cons] at h
    rw [Memory.writeAll, ih (by omega), Memory.read_write_other (by omega)]

/-- A run of bytes reads back. -/
theorem Memory.read_writeAll {a i : Nat} {bs : List Byte} (h : i < bs.length) : (m.writeAll a bs).read (a + i) = bs[i] := by
  induction bs generalizing a i m with
  | nil => simp at h
  | cons b r ih =>
    cases i with
    | zero => rw [Memory.writeAll, Nat.add_zero, Memory.read_writeAll_other (by omega)]; simp
    | succ n =>
      simp only [List.length_cons] at h
      have := ih (m := m.write a b) (a := a + 1) (i := n) (by omega)
      simpa [Memory.writeAll, Nat.add_assoc, Nat.add_comm 1 n] using this

end Sys2Proof.Machine
end

