-- ==== Sys2Proof/Laws/State.lean ====
section
/-! SUPPORT. What each elementary update of the state does to each of its fields, and what a register reads as after it. Every
other operation on registers is brought to `setReg` first. -/

namespace Sys2Proof.Machine.State

variable (s : State)

/-! ### Every write of a register is a `setReg` -/

theorem setFld_eq (off lo w v : Nat) : s.setFld off lo w v = s.setReg off (setBits (s.reg off) lo w v) := rfl
theorem setBit_eq (off i : Nat) : s.setBit off i = s.setReg off (setBits (s.reg off) i 1 1) := rfl
theorem clrBit_eq (off i : Nat) : s.clrBit off i = s.setReg off (setBits (s.reg off) i 1 0) := rfl
theorem putBit_eq (off i : Nat) (b : Bool) : s.putBit off i b = s.setReg off (setBits (s.reg off) i 1 (b2n b)) := rfl
theorem satFld_eq (off lo w n : Nat) : s.satFld off lo w n = s.setFld off lo w (satAdd w (s.rf off lo w) n) := rfl
theorem bump_eq (off : Nat) : s.bump off = s.setFld off 0 32 (satAdd 32 (s.rf off 0 32) 1) := rfl
theorem bumpBy_eq (off n : Nat) : s.bumpBy off n = s.setFld off 0 32 (satAdd 32 (s.rf off 0 32) n) := rfl
theorem wrapFld_eq (off lo w : Nat) : s.wrapFld off lo w = s.setFld off lo w (s.rf off lo w + 1) := rfl

/-! ### Reading a register after it -/

@[simp] theorem reg_setReg_same (off v : Nat) : (s.setReg off v).reg off = v := sparseGet_put_same off v
theorem reg_setReg_other {off x v : Nat} (h : x ≠ off) : (s.setReg off v).reg x = s.reg x := sparseGet_put_other h
theorem reg_setReg (off x v : Nat) : (s.setReg off v).reg x = if x = off then v else s.reg x := sparseGet_put x off v
@[simp] theorem cfg_setReg (off v x : Nat) (b : Bool) : (s.setReg off v).cfg b x = s.cfg b x := rfl

/-- A staged write reads back in its bank and leaves the other bank and every other register as they were. -/
theorem cfg_setCfg (a b : Bool) (off x v : Nat) :
    (s.setCfg a off v).cfg b x = if a = b ∧ x = off then v else s.cfg b x := by
  cases a <;> cases b <;> simp [setCfg, cfg, sparseGet_put]

@[simp] theorem reg_setCfg (a : Bool) (off x v : Nat) : (s.setCfg a off v).reg x = s.reg x := by
  cases a <;> rfl

/-! ### Canonical form -/

theorem regs_wf_setReg {off v : Nat} (h : sparseWf regReset s.regs = true) : sparseWf regReset (s.setReg off v).regs = true :=
  sparseWf_put off v h

theorem tabs_wf_setTab {t e i v : Nat} (h : sparseWf tableReset s.tabs = true) :
    sparseWf tableReset (s.setTab t e i v).tabs = true := sparseWf_put _ v h

/-- Every store and memory of the reset state is canonical. -/
theorem reset_storesWf : State.reset.storesWf = true := rfl

/-! ### Field by field -/

@[simp] theorem setReg_pending (off v : Nat) : (s.setReg off v).pending = s.pending := rfl
@[simp] theorem setReg_regs (off v : Nat) : (s.setReg off v).regs = sparsePut regReset off v s.regs := rfl
@[simp] theorem setReg_bank0 (off v : Nat) : (s.setReg off v).bank0 = s.bank0 := rfl
@[simp] theorem setReg_bank1 (off v : Nat) : (s.setReg off v).bank1 = s.bank1 := rfl
@[simp] theorem setReg_occ (off v : Nat) : (s.setReg off v).occ = s.occ := rfl
@[simp] theorem setReg_mode (off v : Nat) : (s.setReg off v).mode = s.mode := rfl
@[simp] theorem setReg_recFromHandover (off v : Nat) : (s.setReg off v).recFromHandover = s.recFromHandover := rfl
@[simp] theorem setReg_grave (off v : Nat) : (s.setReg off v).grave = s.grave := rfl
@[simp] theorem setReg_time (off v : Nat) : (s.setReg off v).time = s.time := rfl
@[simp] theorem setReg_crest (off v : Nat) : (s.setReg off v).crest = s.crest := rfl
@[simp] theorem setReg_mainLost (off v : Nat) : (s.setReg off v).mainLost = s.mainLost := rfl
@[simp] theorem setReg_draws (off v : Nat) : (s.setReg off v).draws = s.draws := rfl
@[simp] theorem setReg_tabs (off v : Nat) : (s.setReg off v).tabs = s.tabs := rfl
@[simp] theorem setReg_tbank0 (off v : Nat) : (s.setReg off v).tbank0 = s.tbank0 := rfl
@[simp] theorem setReg_tbank1 (off v : Nat) : (s.setReg off v).tbank1 = s.tbank1 := rfl
@[simp] theorem setReg_frames (off v : Nat) : (s.setReg off v).frames = s.frames := rfl
@[simp] theorem setReg_nextId (off v : Nat) : (s.setReg off v).nextId = s.nextId := rfl
@[simp] theorem setReg_ergs (off v : Nat) : (s.setReg off v).ergs = s.ergs := rfl
@[simp] theorem setReg_fwd (off v : Nat) : (s.setReg off v).fwd = s.fwd := rfl
@[simp] theorem setReg_busTurn (off v : Nat) : (s.setReg off v).busTurn = s.busTurn := rfl
@[simp] theorem setReg_oas (off v : Nat) : (s.setReg off v).oas = s.oas := rfl
@[simp] theorem setReg_sched (off v : Nat) : (s.setReg off v).sched = s.sched := rfl
@[simp] theorem setReg_macs (off v : Nat) : (s.setReg off v).macs = s.macs := rfl
@[simp] theorem setReg_lns (off v : Nat) : (s.setReg off v).lns = s.lns := rfl
@[simp] theorem setReg_cvn (off v : Nat) : (s.setReg off v).cvn = s.cvn := rfl
@[simp] theorem setReg_host (off v : Nat) : (s.setReg off v).host = s.host := rfl
@[simp] theorem setReg_sram (off v : Nat) : (s.setReg off v).sram = s.sram := rfl
@[simp] theorem setReg_pow (off v : Nat) : (s.setReg off v).pow = s.pow := rfl
@[simp] theorem setReg_boot (off v : Nat) : (s.setReg off v).boot = s.boot := rfl
@[simp] theorem setReg_posted (off v : Nat) : (s.setReg off v).posted = s.posted := rfl
@[simp] theorem setReg_mon (off v : Nat) : (s.setReg off v).mon = s.mon := rfl
@[simp] theorem setReg_ifc (off v : Nat) : (s.setReg off v).ifc = s.ifc := rfl
@[simp] theorem setReg_flt (off v : Nat) : (s.setReg off v).flt = s.flt := rfl
@[simp] theorem setReg_held (off v : Nat) : (s.setReg off v).held = s.held := rfl
@[simp] theorem setReg_nvm (off v : Nat) : (s.setReg off v).nvm = s.nvm := rfl

@[simp] theorem raise_pending (n d0 d1 d2 d3 : Nat) : (s.raise n d0 d1 d2 d3).pending = s.pending := rfl
@[simp] theorem raise_regs (n d0 d1 d2 d3 : Nat) : (s.raise n d0 d1 d2 d3).regs = s.regs := rfl
@[simp] theorem raise_bank0 (n d0 d1 d2 d3 : Nat) : (s.raise n d0 d1 d2 d3).bank0 = s.bank0 := rfl
@[simp] theorem raise_bank1 (n d0 d1 d2 d3 : Nat) : (s.raise n d0 d1 d2 d3).bank1 = s.bank1 := rfl
@[simp] theorem raise_occ (n d0 d1 d2 d3 : Nat) : (s.raise n d0 d1 d2 d3).occ = s.occ ++ [⟨n, d0, d1, d2, d3, false, s.time.clk, s.crest.bank⟩] := rfl
@[simp] theorem raise_mode (n d0 d1 d2 d3 : Nat) : (s.raise n d0 d1 d2 d3).mode = s.mode := rfl
@[simp] theorem raise_recFromHandover (n d0 d1 d2 d3 : Nat) : (s.raise n d0 d1 d2 d3).recFromHandover = s.recFromHandover := rfl
@[simp] theorem raise_grave (n d0 d1 d2 d3 : Nat) : (s.raise n d0 d1 d2 d3).grave = s.grave := rfl
@[simp] theorem raise_time (n d0 d1 d2 d3 : Nat) : (s.raise n d0 d1 d2 d3).time = s.time := rfl
@[simp] theorem raise_crest (n d0 d1 d2 d3 : Nat) : (s.raise n d0 d1 d2 d3).crest = s.crest := rfl
@[simp] theorem raise_mainLost (n d0 d1 d2 d3 : Nat) : (s.raise n d0 d1 d2 d3).mainLost = s.mainLost := rfl
@[simp] theorem raise_draws (n d0 d1 d2 d3 : Nat) : (s.raise n d0 d1 d2 d3).draws = s.draws := rfl
@[simp] theorem raise_tabs (n d0 d1 d2 d3 : Nat) : (s.raise n d0 d1 d2 d3).tabs = s.tabs := rfl
@[simp] theorem raise_tbank0 (n d0 d1 d2 d3 : Nat) : (s.raise n d0 d1 d2 d3).tbank0 = s.tbank0 := rfl
@[simp] theorem raise_tbank1 (n d0 d1 d2 d3 : Nat) : (s.raise n d0 d1 d2 d3).tbank1 = s.tbank1 := rfl
@[simp] theorem raise_frames (n d0 d1 d2 d3 : Nat) : (s.raise n d0 d1 d2 d3).frames = s.frames := rfl
@[simp] theorem raise_nextId (n d0 d1 d2 d3 : Nat) : (s.raise n d0 d1 d2 d3).nextId = s.nextId := rfl
@[simp] theorem raise_ergs (n d0 d1 d2 d3 : Nat) : (s.raise n d0 d1 d2 d3).ergs = s.ergs := rfl
@[simp] theorem raise_fwd (n d0 d1 d2 d3 : Nat) : (s.raise n d0 d1 d2 d3).fwd = s.fwd := rfl
@[simp] theorem raise_busTurn (n d0 d1 d2 d3 : Nat) : (s.raise n d0 d1 d2 d3).busTurn = s.busTurn := rfl
@[simp] theorem raise_oas (n d0 d1 d2 d3 : Nat) : (s.raise n d0 d1 d2 d3).oas = s.oas := rfl
@[simp] theorem raise_sched (n d0 d1 d2 d3 : Nat) : (s.raise n d0 d1 d2 d3).sched = s.sched := rfl
@[simp] theorem raise_macs (n d0 d1 d2 d3 : Nat) : (s.raise n d0 d1 d2 d3).macs = s.macs := rfl
@[simp] theorem raise_lns (n d0 d1 d2 d3 : Nat) : (s.raise n d0 d1 d2 d3).lns = s.lns := rfl
@[simp] theorem raise_cvn (n d0 d1 d2 d3 : Nat) : (s.raise n d0 d1 d2 d3).cvn = s.cvn := rfl
@[simp] theorem raise_host (n d0 d1 d2 d3 : Nat) : (s.raise n d0 d1 d2 d3).host = s.host := rfl
@[simp] theorem raise_sram (n d0 d1 d2 d3 : Nat) : (s.raise n d0 d1 d2 d3).sram = s.sram := rfl
@[simp] theorem raise_pow (n d0 d1 d2 d3 : Nat) : (s.raise n d0 d1 d2 d3).pow = s.pow := rfl
@[simp] theorem raise_boot (n d0 d1 d2 d3 : Nat) : (s.raise n d0 d1 d2 d3).boot = s.boot := rfl
@[simp] theorem raise_posted (n d0 d1 d2 d3 : Nat) : (s.raise n d0 d1 d2 d3).posted = s.posted := rfl
@[simp] theorem raise_mon (n d0 d1 d2 d3 : Nat) : (s.raise n d0 d1 d2 d3).mon = s.mon := rfl
@[simp] theorem raise_ifc (n d0 d1 d2 d3 : Nat) : (s.raise n d0 d1 d2 d3).ifc = s.ifc := rfl
@[simp] theorem raise_flt (n d0 d1 d2 d3 : Nat) : (s.raise n d0 d1 d2 d3).flt = s.flt := rfl
@[simp] theorem raise_held (n d0 d1 d2 d3 : Nat) : (s.raise n d0 d1 d2 d3).held = s.held := rfl
@[simp] theorem raise_nvm (n d0 d1 d2 d3 : Nat) : (s.raise n d0 d1 d2 d3).nvm = s.nvm := rfl

@[simp] theorem raise_reg (n d0 d1 d2 d3 : Nat) (off' : Nat) : (s.raise n d0 d1 d2 d3).reg off' = s.reg off' := rfl

@[simp] theorem setCrest_pending (c : Crest) : (s.setCrest c).pending = s.pending := rfl
@[simp] theorem setCrest_regs (c : Crest) : (s.setCrest c).regs = s.regs := rfl
@[simp] theorem setCrest_bank0 (c : Crest) : (s.setCrest c).bank0 = s.bank0 := rfl
@[simp] theorem setCrest_bank1 (c : Crest) : (s.setCrest c).bank1 = s.bank1 := rfl
@[simp] theorem setCrest_occ (c : Crest) : (s.setCrest c).occ = s.occ := rfl
@[simp] theorem setCrest_mode (c : Crest) : (s.setCrest c).mode = s.mode := rfl
@[simp] theorem setCrest_recFromHandover (c : Crest) : (s.setCrest c).recFromHandover = s.recFromHandover := rfl
@[simp] theorem setCrest_grave (c : Crest) : (s.setCrest c).grave = s.grave := rfl
@[simp] theorem setCrest_time (c : Crest) : (s.setCrest c).time = s.time := rfl
@[simp] theorem setCrest_crest (c : Crest) : (s.setCrest c).crest = c := rfl
@[simp] theorem setCrest_mainLost (c : Crest) : (s.setCrest c).mainLost = s.mainLost := rfl
@[simp] theorem setCrest_draws (c : Crest) : (s.setCrest c).draws = s.draws := rfl
@[simp] theorem setCrest_tabs (c : Crest) : (s.setCrest c).tabs = s.tabs := rfl
@[simp] theorem setCrest_tbank0 (c : Crest) : (s.setCrest c).tbank0 = s.tbank0 := rfl
@[simp] theorem setCrest_tbank1 (c : Crest) : (s.setCrest c).tbank1 = s.tbank1 := rfl
@[simp] theorem setCrest_frames (c : Crest) : (s.setCrest c).frames = s.frames := rfl
@[simp] theorem setCrest_nextId (c : Crest) : (s.setCrest c).nextId = s.nextId := rfl
@[simp] theorem setCrest_ergs (c : Crest) : (s.setCrest c).ergs = s.ergs := rfl
@[simp] theorem setCrest_fwd (c : Crest) : (s.setCrest c).fwd = s.fwd := rfl
@[simp] theorem setCrest_busTurn (c : Crest) : (s.setCrest c).busTurn = s.busTurn := rfl
@[simp] theorem setCrest_oas (c : Crest) : (s.setCrest c).oas = s.oas := rfl
@[simp] theorem setCrest_sched (c : Crest) : (s.setCrest c).sched = s.sched := rfl
@[simp] theorem setCrest_macs (c : Crest) : (s.setCrest c).macs = s.macs := rfl
@[simp] theorem setCrest_lns (c : Crest) : (s.setCrest c).lns = s.lns := rfl
@[simp] theorem setCrest_cvn (c : Crest) : (s.setCrest c).cvn = s.cvn := rfl
@[simp] theorem setCrest_host (c : Crest) : (s.setCrest c).host = s.host := rfl
@[simp] theorem setCrest_sram (c : Crest) : (s.setCrest c).sram = s.sram := rfl
@[simp] theorem setCrest_pow (c : Crest) : (s.setCrest c).pow = s.pow := rfl
@[simp] theorem setCrest_boot (c : Crest) : (s.setCrest c).boot = s.boot := rfl
@[simp] theorem setCrest_posted (c : Crest) : (s.setCrest c).posted = s.posted := rfl
@[simp] theorem setCrest_mon (c : Crest) : (s.setCrest c).mon = s.mon := rfl
@[simp] theorem setCrest_ifc (c : Crest) : (s.setCrest c).ifc = s.ifc := rfl
@[simp] theorem setCrest_flt (c : Crest) : (s.setCrest c).flt = s.flt := rfl
@[simp] theorem setCrest_held (c : Crest) : (s.setCrest c).held = s.held := rfl
@[simp] theorem setCrest_nvm (c : Crest) : (s.setCrest c).nvm = s.nvm := rfl

@[simp] theorem setCrest_reg (c : Crest) (off' : Nat) : (s.setCrest c).reg off' = s.reg off' := rfl

@[simp] theorem setBoot_pending (b : Boot) : (s.setBoot b).pending = s.pending := rfl
@[simp] theorem setBoot_regs (b : Boot) : (s.setBoot b).regs = s.regs := rfl
@[simp] theorem setBoot_bank0 (b : Boot) : (s.setBoot b).bank0 = s.bank0 := rfl
@[simp] theorem setBoot_bank1 (b : Boot) : (s.setBoot b).bank1 = s.bank1 := rfl
@[simp] theorem setBoot_occ (b : Boot) : (s.setBoot b).occ = s.occ := rfl
@[simp] theorem setBoot_mode (b : Boot) : (s.setBoot b).mode = s.mode := rfl
@[simp] theorem setBoot_recFromHandover (b : Boot) : (s.setBoot b).recFromHandover = s.recFromHandover := rfl
@[simp] theorem setBoot_grave (b : Boot) : (s.setBoot b).grave = s.grave := rfl
@[simp] theorem setBoot_time (b : Boot) : (s.setBoot b).time = s.time := rfl
@[simp] theorem setBoot_crest (b : Boot) : (s.setBoot b).crest = s.crest := rfl
@[simp] theorem setBoot_mainLost (b : Boot) : (s.setBoot b).mainLost = s.mainLost := rfl
@[simp] theorem setBoot_draws (b : Boot) : (s.setBoot b).draws = s.draws := rfl
@[simp] theorem setBoot_tabs (b : Boot) : (s.setBoot b).tabs = s.tabs := rfl
@[simp] theorem setBoot_tbank0 (b : Boot) : (s.setBoot b).tbank0 = s.tbank0 := rfl
@[simp] theorem setBoot_tbank1 (b : Boot) : (s.setBoot b).tbank1 = s.tbank1 := rfl
@[simp] theorem setBoot_frames (b : Boot) : (s.setBoot b).frames = s.frames := rfl
@[simp] theorem setBoot_nextId (b : Boot) : (s.setBoot b).nextId = s.nextId := rfl
@[simp] theorem setBoot_ergs (b : Boot) : (s.setBoot b).ergs = s.ergs := rfl
@[simp] theorem setBoot_fwd (b : Boot) : (s.setBoot b).fwd = s.fwd := rfl
@[simp] theorem setBoot_busTurn (b : Boot) : (s.setBoot b).busTurn = s.busTurn := rfl
@[simp] theorem setBoot_oas (b : Boot) : (s.setBoot b).oas = s.oas := rfl
@[simp] theorem setBoot_sched (b : Boot) : (s.setBoot b).sched = s.sched := rfl
@[simp] theorem setBoot_macs (b : Boot) : (s.setBoot b).macs = s.macs := rfl
@[simp] theorem setBoot_lns (b : Boot) : (s.setBoot b).lns = s.lns := rfl
@[simp] theorem setBoot_cvn (b : Boot) : (s.setBoot b).cvn = s.cvn := rfl
@[simp] theorem setBoot_host (b : Boot) : (s.setBoot b).host = s.host := rfl
@[simp] theorem setBoot_sram (b : Boot) : (s.setBoot b).sram = s.sram := rfl
@[simp] theorem setBoot_pow (b : Boot) : (s.setBoot b).pow = s.pow := rfl
@[simp] theorem setBoot_boot (b : Boot) : (s.setBoot b).boot = b := rfl
@[simp] theorem setBoot_posted (b : Boot) : (s.setBoot b).posted = s.posted := rfl
@[simp] theorem setBoot_mon (b : Boot) : (s.setBoot b).mon = s.mon := rfl
@[simp] theorem setBoot_ifc (b : Boot) : (s.setBoot b).ifc = s.ifc := rfl
@[simp] theorem setBoot_flt (b : Boot) : (s.setBoot b).flt = s.flt := rfl
@[simp] theorem setBoot_held (b : Boot) : (s.setBoot b).held = s.held := rfl
@[simp] theorem setBoot_nvm (b : Boot) : (s.setBoot b).nvm = s.nvm := rfl

@[simp] theorem setBoot_reg (b : Boot) (off' : Nat) : (s.setBoot b).reg off' = s.reg off' := rfl

@[simp] theorem setPow_pending (p : Power) : (s.setPow p).pending = s.pending := rfl
@[simp] theorem setPow_regs (p : Power) : (s.setPow p).regs = s.regs := rfl
@[simp] theorem setPow_bank0 (p : Power) : (s.setPow p).bank0 = s.bank0 := rfl
@[simp] theorem setPow_bank1 (p : Power) : (s.setPow p).bank1 = s.bank1 := rfl
@[simp] theorem setPow_occ (p : Power) : (s.setPow p).occ = s.occ := rfl
@[simp] theorem setPow_mode (p : Power) : (s.setPow p).mode = s.mode := rfl
@[simp] theorem setPow_recFromHandover (p : Power) : (s.setPow p).recFromHandover = s.recFromHandover := rfl
@[simp] theorem setPow_grave (p : Power) : (s.setPow p).grave = s.grave := rfl
@[simp] theorem setPow_time (p : Power) : (s.setPow p).time = s.time := rfl
@[simp] theorem setPow_crest (p : Power) : (s.setPow p).crest = s.crest := rfl
@[simp] theorem setPow_mainLost (p : Power) : (s.setPow p).mainLost = s.mainLost := rfl
@[simp] theorem setPow_draws (p : Power) : (s.setPow p).draws = s.draws := rfl
@[simp] theorem setPow_tabs (p : Power) : (s.setPow p).tabs = s.tabs := rfl
@[simp] theorem setPow_tbank0 (p : Power) : (s.setPow p).tbank0 = s.tbank0 := rfl
@[simp] theorem setPow_tbank1 (p : Power) : (s.setPow p).tbank1 = s.tbank1 := rfl
@[simp] theorem setPow_frames (p : Power) : (s.setPow p).frames = s.frames := rfl
@[simp] theorem setPow_nextId (p : Power) : (s.setPow p).nextId = s.nextId := rfl
@[simp] theorem setPow_ergs (p : Power) : (s.setPow p).ergs = s.ergs := rfl
@[simp] theorem setPow_fwd (p : Power) : (s.setPow p).fwd = s.fwd := rfl
@[simp] theorem setPow_busTurn (p : Power) : (s.setPow p).busTurn = s.busTurn := rfl
@[simp] theorem setPow_oas (p : Power) : (s.setPow p).oas = s.oas := rfl
@[simp] theorem setPow_sched (p : Power) : (s.setPow p).sched = s.sched := rfl
@[simp] theorem setPow_macs (p : Power) : (s.setPow p).macs = s.macs := rfl
@[simp] theorem setPow_lns (p : Power) : (s.setPow p).lns = s.lns := rfl
@[simp] theorem setPow_cvn (p : Power) : (s.setPow p).cvn = s.cvn := rfl
@[simp] theorem setPow_host (p : Power) : (s.setPow p).host = s.host := rfl
@[simp] theorem setPow_sram (p : Power) : (s.setPow p).sram = s.sram := rfl
@[simp] theorem setPow_pow (p : Power) : (s.setPow p).pow = p := rfl
@[simp] theorem setPow_boot (p : Power) : (s.setPow p).boot = s.boot := rfl
@[simp] theorem setPow_posted (p : Power) : (s.setPow p).posted = s.posted := rfl
@[simp] theorem setPow_mon (p : Power) : (s.setPow p).mon = s.mon := rfl
@[simp] theorem setPow_ifc (p : Power) : (s.setPow p).ifc = s.ifc := rfl
@[simp] theorem setPow_flt (p : Power) : (s.setPow p).flt = s.flt := rfl
@[simp] theorem setPow_held (p : Power) : (s.setPow p).held = s.held := rfl
@[simp] theorem setPow_nvm (p : Power) : (s.setPow p).nvm = s.nvm := rfl

@[simp] theorem setPow_reg (p : Power) (off' : Nat) : (s.setPow p).reg off' = s.reg off' := rfl

@[simp] theorem setIfc_pending (i : HostIf) : (s.setIfc i).pending = s.pending := rfl
@[simp] theorem setIfc_regs (i : HostIf) : (s.setIfc i).regs = s.regs := rfl
@[simp] theorem setIfc_bank0 (i : HostIf) : (s.setIfc i).bank0 = s.bank0 := rfl
@[simp] theorem setIfc_bank1 (i : HostIf) : (s.setIfc i).bank1 = s.bank1 := rfl
@[simp] theorem setIfc_occ (i : HostIf) : (s.setIfc i).occ = s.occ := rfl
@[simp] theorem setIfc_mode (i : HostIf) : (s.setIfc i).mode = s.mode := rfl
@[simp] theorem setIfc_recFromHandover (i : HostIf) : (s.setIfc i).recFromHandover = s.recFromHandover := rfl
@[simp] theorem setIfc_grave (i : HostIf) : (s.setIfc i).grave = s.grave := rfl
@[simp] theorem setIfc_time (i : HostIf) : (s.setIfc i).time = s.time := rfl
@[simp] theorem setIfc_crest (i : HostIf) : (s.setIfc i).crest = s.crest := rfl
@[simp] theorem setIfc_mainLost (i : HostIf) : (s.setIfc i).mainLost = s.mainLost := rfl
@[simp] theorem setIfc_draws (i : HostIf) : (s.setIfc i).draws = s.draws := rfl
@[simp] theorem setIfc_tabs (i : HostIf) : (s.setIfc i).tabs = s.tabs := rfl
@[simp] theorem setIfc_tbank0 (i : HostIf) : (s.setIfc i).tbank0 = s.tbank0 := rfl
@[simp] theorem setIfc_tbank1 (i : HostIf) : (s.setIfc i).tbank1 = s.tbank1 := rfl
@[simp] theorem setIfc_frames (i : HostIf) : (s.setIfc i).frames = s.frames := rfl
@[simp] theorem setIfc_nextId (i : HostIf) : (s.setIfc i).nextId = s.nextId := rfl
@[simp] theorem setIfc_ergs (i : HostIf) : (s.setIfc i).ergs = s.ergs := rfl
@[simp] theorem setIfc_fwd (i : HostIf) : (s.setIfc i).fwd = s.fwd := rfl
@[simp] theorem setIfc_busTurn (i : HostIf) : (s.setIfc i).busTurn = s.busTurn := rfl
@[simp] theorem setIfc_oas (i : HostIf) : (s.setIfc i).oas = s.oas := rfl
@[simp] theorem setIfc_sched (i : HostIf) : (s.setIfc i).sched = s.sched := rfl
@[simp] theorem setIfc_macs (i : HostIf) : (s.setIfc i).macs = s.macs := rfl
@[simp] theorem setIfc_lns (i : HostIf) : (s.setIfc i).lns = s.lns := rfl
@[simp] theorem setIfc_cvn (i : HostIf) : (s.setIfc i).cvn = s.cvn := rfl
@[simp] theorem setIfc_host (i : HostIf) : (s.setIfc i).host = s.host := rfl
@[simp] theorem setIfc_sram (i : HostIf) : (s.setIfc i).sram = s.sram := rfl
@[simp] theorem setIfc_pow (i : HostIf) : (s.setIfc i).pow = s.pow := rfl
@[simp] theorem setIfc_boot (i : HostIf) : (s.setIfc i).boot = s.boot := rfl
@[simp] theorem setIfc_posted (i : HostIf) : (s.setIfc i).posted = s.posted := rfl
@[simp] theorem setIfc_mon (i : HostIf) : (s.setIfc i).mon = s.mon := rfl
@[simp] theorem setIfc_ifc (i : HostIf) : (s.setIfc i).ifc = i := rfl
@[simp] theorem setIfc_flt (i : HostIf) : (s.setIfc i).flt = s.flt := rfl
@[simp] theorem setIfc_held (i : HostIf) : (s.setIfc i).held = s.held := rfl
@[simp] theorem setIfc_nvm (i : HostIf) : (s.setIfc i).nvm = s.nvm := rfl

@[simp] theorem setIfc_reg (i : HostIf) (off' : Nat) : (s.setIfc i).reg off' = s.reg off' := rfl

@[simp] theorem setFlt_pending (c : Collector) : (s.setFlt c).pending = s.pending := rfl
@[simp] theorem setFlt_regs (c : Collector) : (s.setFlt c).regs = s.regs := rfl
@[simp] theorem setFlt_bank0 (c : Collector) : (s.setFlt c).bank0 = s.bank0 := rfl
@[simp] theorem setFlt_bank1 (c : Collector) : (s.setFlt c).bank1 = s.bank1 := rfl
@[simp] theorem setFlt_occ (c : Collector) : (s.setFlt c).occ = s.occ := rfl
@[simp] theorem setFlt_mode (c : Collector) : (s.setFlt c).mode = s.mode := rfl
@[simp] theorem setFlt_recFromHandover (c : Collector) : (s.setFlt c).recFromHandover = s.recFromHandover := rfl
@[simp] theorem setFlt_grave (c : Collector) : (s.setFlt c).grave = s.grave := rfl
@[simp] theorem setFlt_time (c : Collector) : (s.setFlt c).time = s.time := rfl
@[simp] theorem setFlt_crest (c : Collector) : (s.setFlt c).crest = s.crest := rfl
@[simp] theorem setFlt_mainLost (c : Collector) : (s.setFlt c).mainLost = s.mainLost := rfl
@[simp] theorem setFlt_draws (c : Collector) : (s.setFlt c).draws = s.draws := rfl
@[simp] theorem setFlt_tabs (c : Collector) : (s.setFlt c).tabs = s.tabs := rfl
@[simp] theorem setFlt_tbank0 (c : Collector) : (s.setFlt c).tbank0 = s.tbank0 := rfl
@[simp] theorem setFlt_tbank1 (c : Collector) : (s.setFlt c).tbank1 = s.tbank1 := rfl
@[simp] theorem setFlt_frames (c : Collector) : (s.setFlt c).frames = s.frames := rfl
@[simp] theorem setFlt_nextId (c : Collector) : (s.setFlt c).nextId = s.nextId := rfl
@[simp] theorem setFlt_ergs (c : Collector) : (s.setFlt c).ergs = s.ergs := rfl
@[simp] theorem setFlt_fwd (c : Collector) : (s.setFlt c).fwd = s.fwd := rfl
@[simp] theorem setFlt_busTurn (c : Collector) : (s.setFlt c).busTurn = s.busTurn := rfl
@[simp] theorem setFlt_oas (c : Collector) : (s.setFlt c).oas = s.oas := rfl
@[simp] theorem setFlt_sched (c : Collector) : (s.setFlt c).sched = s.sched := rfl
@[simp] theorem setFlt_macs (c : Collector) : (s.setFlt c).macs = s.macs := rfl
@[simp] theorem setFlt_lns (c : Collector) : (s.setFlt c).lns = s.lns := rfl
@[simp] theorem setFlt_cvn (c : Collector) : (s.setFlt c).cvn = s.cvn := rfl
@[simp] theorem setFlt_host (c : Collector) : (s.setFlt c).host = s.host := rfl
@[simp] theorem setFlt_sram (c : Collector) : (s.setFlt c).sram = s.sram := rfl
@[simp] theorem setFlt_pow (c : Collector) : (s.setFlt c).pow = s.pow := rfl
@[simp] theorem setFlt_boot (c : Collector) : (s.setFlt c).boot = s.boot := rfl
@[simp] theorem setFlt_posted (c : Collector) : (s.setFlt c).posted = s.posted := rfl
@[simp] theorem setFlt_mon (c : Collector) : (s.setFlt c).mon = s.mon := rfl
@[simp] theorem setFlt_ifc (c : Collector) : (s.setFlt c).ifc = s.ifc := rfl
@[simp] theorem setFlt_flt (c : Collector) : (s.setFlt c).flt = c := rfl
@[simp] theorem setFlt_held (c : Collector) : (s.setFlt c).held = s.held := rfl
@[simp] theorem setFlt_nvm (c : Collector) : (s.setFlt c).nvm = s.nvm := rfl

@[simp] theorem setFlt_reg (c : Collector) (off' : Nat) : (s.setFlt c).reg off' = s.reg off' := rfl

@[simp] theorem setHeld_pending (h : Held) : (s.setHeld h).pending = s.pending := rfl
@[simp] theorem setHeld_regs (h : Held) : (s.setHeld h).regs = s.regs := rfl
@[simp] theorem setHeld_bank0 (h : Held) : (s.setHeld h).bank0 = s.bank0 := rfl
@[simp] theorem setHeld_bank1 (h : Held) : (s.setHeld h).bank1 = s.bank1 := rfl
@[simp] theorem setHeld_occ (h : Held) : (s.setHeld h).occ = s.occ := rfl
@[simp] theorem setHeld_mode (h : Held) : (s.setHeld h).mode = s.mode := rfl
@[simp] theorem setHeld_recFromHandover (h : Held) : (s.setHeld h).recFromHandover = s.recFromHandover := rfl
@[simp] theorem setHeld_grave (h : Held) : (s.setHeld h).grave = s.grave := rfl
@[simp] theorem setHeld_time (h : Held) : (s.setHeld h).time = s.time := rfl
@[simp] theorem setHeld_crest (h : Held) : (s.setHeld h).crest = s.crest := rfl
@[simp] theorem setHeld_mainLost (h : Held) : (s.setHeld h).mainLost = s.mainLost := rfl
@[simp] theorem setHeld_draws (h : Held) : (s.setHeld h).draws = s.draws := rfl
@[simp] theorem setHeld_tabs (h : Held) : (s.setHeld h).tabs = s.tabs := rfl
@[simp] theorem setHeld_tbank0 (h : Held) : (s.setHeld h).tbank0 = s.tbank0 := rfl
@[simp] theorem setHeld_tbank1 (h : Held) : (s.setHeld h).tbank1 = s.tbank1 := rfl
@[simp] theorem setHeld_frames (h : Held) : (s.setHeld h).frames = s.frames := rfl
@[simp] theorem setHeld_nextId (h : Held) : (s.setHeld h).nextId = s.nextId := rfl
@[simp] theorem setHeld_ergs (h : Held) : (s.setHeld h).ergs = s.ergs := rfl
@[simp] theorem setHeld_fwd (h : Held) : (s.setHeld h).fwd = s.fwd := rfl
@[simp] theorem setHeld_busTurn (h : Held) : (s.setHeld h).busTurn = s.busTurn := rfl
@[simp] theorem setHeld_oas (h : Held) : (s.setHeld h).oas = s.oas := rfl
@[simp] theorem setHeld_sched (h : Held) : (s.setHeld h).sched = s.sched := rfl
@[simp] theorem setHeld_macs (h : Held) : (s.setHeld h).macs = s.macs := rfl
@[simp] theorem setHeld_lns (h : Held) : (s.setHeld h).lns = s.lns := rfl
@[simp] theorem setHeld_cvn (h : Held) : (s.setHeld h).cvn = s.cvn := rfl
@[simp] theorem setHeld_host (h : Held) : (s.setHeld h).host = s.host := rfl
@[simp] theorem setHeld_sram (h : Held) : (s.setHeld h).sram = s.sram := rfl
@[simp] theorem setHeld_pow (h : Held) : (s.setHeld h).pow = s.pow := rfl
@[simp] theorem setHeld_boot (h : Held) : (s.setHeld h).boot = s.boot := rfl
@[simp] theorem setHeld_posted (h : Held) : (s.setHeld h).posted = s.posted := rfl
@[simp] theorem setHeld_mon (h : Held) : (s.setHeld h).mon = s.mon := rfl
@[simp] theorem setHeld_ifc (h : Held) : (s.setHeld h).ifc = s.ifc := rfl
@[simp] theorem setHeld_flt (h : Held) : (s.setHeld h).flt = s.flt := rfl
@[simp] theorem setHeld_held (h : Held) : (s.setHeld h).held = h := rfl
@[simp] theorem setHeld_nvm (h : Held) : (s.setHeld h).nvm = s.nvm := rfl

@[simp] theorem setHeld_reg (h : Held) (off' : Nat) : (s.setHeld h).reg off' = s.reg off' := rfl

@[simp] theorem setMon_pending (m : Mon) : (s.setMon m).pending = s.pending := rfl
@[simp] theorem setMon_regs (m : Mon) : (s.setMon m).regs = s.regs := rfl
@[simp] theorem setMon_bank0 (m : Mon) : (s.setMon m).bank0 = s.bank0 := rfl
@[simp] theorem setMon_bank1 (m : Mon) : (s.setMon m).bank1 = s.bank1 := rfl
@[simp] theorem setMon_occ (m : Mon) : (s.setMon m).occ = s.occ := rfl
@[simp] theorem setMon_mode (m : Mon) : (s.setMon m).mode = s.mode := rfl
@[simp] theorem setMon_recFromHandover (m : Mon) : (s.setMon m).recFromHandover = s.recFromHandover := rfl
@[simp] theorem setMon_grave (m : Mon) : (s.setMon m).grave = s.grave := rfl
@[simp] theorem setMon_time (m : Mon) : (s.setMon m).time = s.time := rfl
@[simp] theorem setMon_crest (m : Mon) : (s.setMon m).crest = s.crest := rfl
@[simp] theorem setMon_mainLost (m : Mon) : (s.setMon m).mainLost = s.mainLost := rfl
@[simp] theorem setMon_draws (m : Mon) : (s.setMon m).draws = s.draws := rfl
@[simp] theorem setMon_tabs (m : Mon) : (s.setMon m).tabs = s.tabs := rfl
@[simp] theorem setMon_tbank0 (m : Mon) : (s.setMon m).tbank0 = s.tbank0 := rfl
@[simp] theorem setMon_tbank1 (m : Mon) : (s.setMon m).tbank1 = s.tbank1 := rfl
@[simp] theorem setMon_frames (m : Mon) : (s.setMon m).frames = s.frames := rfl
@[simp] theorem setMon_nextId (m : Mon) : (s.setMon m).nextId = s.nextId := rfl
@[simp] theorem setMon_ergs (m : Mon) : (s.setMon m).ergs = s.ergs := rfl
@[simp] theorem setMon_fwd (m : Mon) : (s.setMon m).fwd = s.fwd := rfl
@[simp] theorem setMon_busTurn (m : Mon) : (s.setMon m).busTurn = s.busTurn := rfl
@[simp] theorem setMon_oas (m : Mon) : (s.setMon m).oas = s.oas := rfl
@[simp] theorem setMon_sched (m : Mon) : (s.setMon m).sched = s.sched := rfl
@[simp] theorem setMon_macs (m : Mon) : (s.setMon m).macs = s.macs := rfl
@[simp] theorem setMon_lns (m : Mon) : (s.setMon m).lns = s.lns := rfl
@[simp] theorem setMon_cvn (m : Mon) : (s.setMon m).cvn = s.cvn := rfl
@[simp] theorem setMon_host (m : Mon) : (s.setMon m).host = s.host := rfl
@[simp] theorem setMon_sram (m : Mon) : (s.setMon m).sram = s.sram := rfl
@[simp] theorem setMon_pow (m : Mon) : (s.setMon m).pow = s.pow := rfl
@[simp] theorem setMon_boot (m : Mon) : (s.setMon m).boot = s.boot := rfl
@[simp] theorem setMon_posted (m : Mon) : (s.setMon m).posted = s.posted := rfl
@[simp] theorem setMon_mon (m : Mon) : (s.setMon m).mon = m := rfl
@[simp] theorem setMon_ifc (m : Mon) : (s.setMon m).ifc = s.ifc := rfl
@[simp] theorem setMon_flt (m : Mon) : (s.setMon m).flt = s.flt := rfl
@[simp] theorem setMon_held (m : Mon) : (s.setMon m).held = s.held := rfl
@[simp] theorem setMon_nvm (m : Mon) : (s.setMon m).nvm = s.nvm := rfl

@[simp] theorem setMon_reg (m : Mon) (off' : Nat) : (s.setMon m).reg off' = s.reg off' := rfl

@[simp] theorem setOas_pending (o : Oasis) : (s.setOas o).pending = s.pending := rfl
@[simp] theorem setOas_regs (o : Oasis) : (s.setOas o).regs = s.regs := rfl
@[simp] theorem setOas_bank0 (o : Oasis) : (s.setOas o).bank0 = s.bank0 := rfl
@[simp] theorem setOas_bank1 (o : Oasis) : (s.setOas o).bank1 = s.bank1 := rfl
@[simp] theorem setOas_occ (o : Oasis) : (s.setOas o).occ = s.occ := rfl
@[simp] theorem setOas_mode (o : Oasis) : (s.setOas o).mode = s.mode := rfl
@[simp] theorem setOas_recFromHandover (o : Oasis) : (s.setOas o).recFromHandover = s.recFromHandover := rfl
@[simp] theorem setOas_grave (o : Oasis) : (s.setOas o).grave = s.grave := rfl
@[simp] theorem setOas_time (o : Oasis) : (s.setOas o).time = s.time := rfl
@[simp] theorem setOas_crest (o : Oasis) : (s.setOas o).crest = s.crest := rfl
@[simp] theorem setOas_mainLost (o : Oasis) : (s.setOas o).mainLost = s.mainLost := rfl
@[simp] theorem setOas_draws (o : Oasis) : (s.setOas o).draws = s.draws := rfl
@[simp] theorem setOas_tabs (o : Oasis) : (s.setOas o).tabs = s.tabs := rfl
@[simp] theorem setOas_tbank0 (o : Oasis) : (s.setOas o).tbank0 = s.tbank0 := rfl
@[simp] theorem setOas_tbank1 (o : Oasis) : (s.setOas o).tbank1 = s.tbank1 := rfl
@[simp] theorem setOas_frames (o : Oasis) : (s.setOas o).frames = s.frames := rfl
@[simp] theorem setOas_nextId (o : Oasis) : (s.setOas o).nextId = s.nextId := rfl
@[simp] theorem setOas_ergs (o : Oasis) : (s.setOas o).ergs = s.ergs := rfl
@[simp] theorem setOas_fwd (o : Oasis) : (s.setOas o).fwd = s.fwd := rfl
@[simp] theorem setOas_busTurn (o : Oasis) : (s.setOas o).busTurn = s.busTurn := rfl
@[simp] theorem setOas_oas (o : Oasis) : (s.setOas o).oas = o := rfl
@[simp] theorem setOas_sched (o : Oasis) : (s.setOas o).sched = s.sched := rfl
@[simp] theorem setOas_macs (o : Oasis) : (s.setOas o).macs = s.macs := rfl
@[simp] theorem setOas_lns (o : Oasis) : (s.setOas o).lns = s.lns := rfl
@[simp] theorem setOas_cvn (o : Oasis) : (s.setOas o).cvn = s.cvn := rfl
@[simp] theorem setOas_host (o : Oasis) : (s.setOas o).host = s.host := rfl
@[simp] theorem setOas_sram (o : Oasis) : (s.setOas o).sram = s.sram := rfl
@[simp] theorem setOas_pow (o : Oasis) : (s.setOas o).pow = s.pow := rfl
@[simp] theorem setOas_boot (o : Oasis) : (s.setOas o).boot = s.boot := rfl
@[simp] theorem setOas_posted (o : Oasis) : (s.setOas o).posted = s.posted := rfl
@[simp] theorem setOas_mon (o : Oasis) : (s.setOas o).mon = s.mon := rfl
@[simp] theorem setOas_ifc (o : Oasis) : (s.setOas o).ifc = s.ifc := rfl
@[simp] theorem setOas_flt (o : Oasis) : (s.setOas o).flt = s.flt := rfl
@[simp] theorem setOas_held (o : Oasis) : (s.setOas o).held = s.held := rfl
@[simp] theorem setOas_nvm (o : Oasis) : (s.setOas o).nvm = s.nvm := rfl

@[simp] theorem setOas_reg (o : Oasis) (off' : Nat) : (s.setOas o).reg off' = s.reg off' := rfl

@[simp] theorem withCvn_pending (c : Caravan) : (s.withCvn c).pending = s.pending := rfl
@[simp] theorem withCvn_regs (c : Caravan) : (s.withCvn c).regs = s.regs := rfl
@[simp] theorem withCvn_bank0 (c : Caravan) : (s.withCvn c).bank0 = s.bank0 := rfl
@[simp] theorem withCvn_bank1 (c : Caravan) : (s.withCvn c).bank1 = s.bank1 := rfl
@[simp] theorem withCvn_occ (c : Caravan) : (s.withCvn c).occ = s.occ := rfl
@[simp] theorem withCvn_mode (c : Caravan) : (s.withCvn c).mode = s.mode := rfl
@[simp] theorem withCvn_recFromHandover (c : Caravan) : (s.withCvn c).recFromHandover = s.recFromHandover := rfl
@[simp] theorem withCvn_grave (c : Caravan) : (s.withCvn c).grave = s.grave := rfl
@[simp] theorem withCvn_time (c : Caravan) : (s.withCvn c).time = s.time := rfl
@[simp] theorem withCvn_crest (c : Caravan) : (s.withCvn c).crest = s.crest := rfl
@[simp] theorem withCvn_mainLost (c : Caravan) : (s.withCvn c).mainLost = s.mainLost := rfl
@[simp] theorem withCvn_draws (c : Caravan) : (s.withCvn c).draws = s.draws := rfl
@[simp] theorem withCvn_tabs (c : Caravan) : (s.withCvn c).tabs = s.tabs := rfl
@[simp] theorem withCvn_tbank0 (c : Caravan) : (s.withCvn c).tbank0 = s.tbank0 := rfl
@[simp] theorem withCvn_tbank1 (c : Caravan) : (s.withCvn c).tbank1 = s.tbank1 := rfl
@[simp] theorem withCvn_frames (c : Caravan) : (s.withCvn c).frames = s.frames := rfl
@[simp] theorem withCvn_nextId (c : Caravan) : (s.withCvn c).nextId = s.nextId := rfl
@[simp] theorem withCvn_ergs (c : Caravan) : (s.withCvn c).ergs = s.ergs := rfl
@[simp] theorem withCvn_fwd (c : Caravan) : (s.withCvn c).fwd = s.fwd := rfl
@[simp] theorem withCvn_busTurn (c : Caravan) : (s.withCvn c).busTurn = s.busTurn := rfl
@[simp] theorem withCvn_oas (c : Caravan) : (s.withCvn c).oas = s.oas := rfl
@[simp] theorem withCvn_sched (c : Caravan) : (s.withCvn c).sched = s.sched := rfl
@[simp] theorem withCvn_macs (c : Caravan) : (s.withCvn c).macs = s.macs := rfl
@[simp] theorem withCvn_lns (c : Caravan) : (s.withCvn c).lns = s.lns := rfl
@[simp] theorem withCvn_cvn (c : Caravan) : (s.withCvn c).cvn = c := rfl
@[simp] theorem withCvn_host (c : Caravan) : (s.withCvn c).host = s.host := rfl
@[simp] theorem withCvn_sram (c : Caravan) : (s.withCvn c).sram = s.sram := rfl
@[simp] theorem withCvn_pow (c : Caravan) : (s.withCvn c).pow = s.pow := rfl
@[simp] theorem withCvn_boot (c : Caravan) : (s.withCvn c).boot = s.boot := rfl
@[simp] theorem withCvn_posted (c : Caravan) : (s.withCvn c).posted = s.posted := rfl
@[simp] theorem withCvn_mon (c : Caravan) : (s.withCvn c).mon = s.mon := rfl
@[simp] theorem withCvn_ifc (c : Caravan) : (s.withCvn c).ifc = s.ifc := rfl
@[simp] theorem withCvn_flt (c : Caravan) : (s.withCvn c).flt = s.flt := rfl
@[simp] theorem withCvn_held (c : Caravan) : (s.withCvn c).held = s.held := rfl
@[simp] theorem withCvn_nvm (c : Caravan) : (s.withCvn c).nvm = s.nvm := rfl

@[simp] theorem withCvn_reg (c : Caravan) (off' : Nat) : (s.withCvn c).reg off' = s.reg off' := rfl

@[simp] theorem setFw_pending (e : Nat) (f : ErgFwd) : (s.setFw e f).pending = s.pending := rfl
@[simp] theorem setFw_regs (e : Nat) (f : ErgFwd) : (s.setFw e f).regs = s.regs := rfl
@[simp] theorem setFw_bank0 (e : Nat) (f : ErgFwd) : (s.setFw e f).bank0 = s.bank0 := rfl
@[simp] theorem setFw_bank1 (e : Nat) (f : ErgFwd) : (s.setFw e f).bank1 = s.bank1 := rfl
@[simp] theorem setFw_occ (e : Nat) (f : ErgFwd) : (s.setFw e f).occ = s.occ := rfl
@[simp] theorem setFw_mode (e : Nat) (f : ErgFwd) : (s.setFw e f).mode = s.mode := rfl
@[simp] theorem setFw_recFromHandover (e : Nat) (f : ErgFwd) : (s.setFw e f).recFromHandover = s.recFromHandover := rfl
@[simp] theorem setFw_grave (e : Nat) (f : ErgFwd) : (s.setFw e f).grave = s.grave := rfl
@[simp] theorem setFw_time (e : Nat) (f : ErgFwd) : (s.setFw e f).time = s.time := rfl
@[simp] theorem setFw_crest (e : Nat) (f : ErgFwd) : (s.setFw e f).crest = s.crest := rfl
@[simp] theorem setFw_mainLost (e : Nat) (f : ErgFwd) : (s.setFw e f).mainLost = s.mainLost := rfl
@[simp] theorem setFw_draws (e : Nat) (f : ErgFwd) : (s.setFw e f).draws = s.draws := rfl
@[simp] theorem setFw_tabs (e : Nat) (f : ErgFwd) : (s.setFw e f).tabs = s.tabs := rfl
@[simp] theorem setFw_tbank0 (e : Nat) (f : ErgFwd) : (s.setFw e f).tbank0 = s.tbank0 := rfl
@[simp] theorem setFw_tbank1 (e : Nat) (f : ErgFwd) : (s.setFw e f).tbank1 = s.tbank1 := rfl
@[simp] theorem setFw_frames (e : Nat) (f : ErgFwd) : (s.setFw e f).frames = s.frames := rfl
@[simp] theorem setFw_nextId (e : Nat) (f : ErgFwd) : (s.setFw e f).nextId = s.nextId := rfl
@[simp] theorem setFw_ergs (e : Nat) (f : ErgFwd) : (s.setFw e f).ergs = s.ergs := rfl
@[simp] theorem setFw_fwd (e : Nat) (f : ErgFwd) : (s.setFw e f).fwd = s.fwd.set e f := rfl
@[simp] theorem setFw_busTurn (e : Nat) (f : ErgFwd) : (s.setFw e f).busTurn = s.busTurn := rfl
@[simp] theorem setFw_oas (e : Nat) (f : ErgFwd) : (s.setFw e f).oas = s.oas := rfl
@[simp] theorem setFw_sched (e : Nat) (f : ErgFwd) : (s.setFw e f).sched = s.sched := rfl
@[simp] theorem setFw_macs (e : Nat) (f : ErgFwd) : (s.setFw e f).macs = s.macs := rfl
@[simp] theorem setFw_lns (e : Nat) (f : ErgFwd) : (s.setFw e f).lns = s.lns := rfl
@[simp] theorem setFw_cvn (e : Nat) (f : ErgFwd) : (s.setFw e f).cvn = s.cvn := rfl
@[simp] theorem setFw_host (e : Nat) (f : ErgFwd) : (s.setFw e f).host = s.host := rfl
@[simp] theorem setFw_sram (e : Nat) (f : ErgFwd) : (s.setFw e f).sram = s.sram := rfl
@[simp] theorem setFw_pow (e : Nat) (f : ErgFwd) : (s.setFw e f).pow = s.pow := rfl
@[simp] theorem setFw_boot (e : Nat) (f : ErgFwd) : (s.setFw e f).boot = s.boot := rfl
@[simp] theorem setFw_posted (e : Nat) (f : ErgFwd) : (s.setFw e f).posted = s.posted := rfl
@[simp] theorem setFw_mon (e : Nat) (f : ErgFwd) : (s.setFw e f).mon = s.mon := rfl
@[simp] theorem setFw_ifc (e : Nat) (f : ErgFwd) : (s.setFw e f).ifc = s.ifc := rfl
@[simp] theorem setFw_flt (e : Nat) (f : ErgFwd) : (s.setFw e f).flt = s.flt := rfl
@[simp] theorem setFw_held (e : Nat) (f : ErgFwd) : (s.setFw e f).held = s.held := rfl
@[simp] theorem setFw_nvm (e : Nat) (f : ErgFwd) : (s.setFw e f).nvm = s.nvm := rfl

@[simp] theorem setFw_reg (e : Nat) (f : ErgFwd) (off' : Nat) : (s.setFw e f).reg off' = s.reg off' := rfl

@[simp] theorem setPrs_pending (e : Nat) (x : ErgParse) : (s.setPrs e x).pending = s.pending := rfl
@[simp] theorem setPrs_regs (e : Nat) (x : ErgParse) : (s.setPrs e x).regs = s.regs := rfl
@[simp] theorem setPrs_bank0 (e : Nat) (x : ErgParse) : (s.setPrs e x).bank0 = s.bank0 := rfl
@[simp] theorem setPrs_bank1 (e : Nat) (x : ErgParse) : (s.setPrs e x).bank1 = s.bank1 := rfl
@[simp] theorem setPrs_occ (e : Nat) (x : ErgParse) : (s.setPrs e x).occ = s.occ := rfl
@[simp] theorem setPrs_mode (e : Nat) (x : ErgParse) : (s.setPrs e x).mode = s.mode := rfl
@[simp] theorem setPrs_recFromHandover (e : Nat) (x : ErgParse) : (s.setPrs e x).recFromHandover = s.recFromHandover := rfl
@[simp] theorem setPrs_grave (e : Nat) (x : ErgParse) : (s.setPrs e x).grave = s.grave := rfl
@[simp] theorem setPrs_time (e : Nat) (x : ErgParse) : (s.setPrs e x).time = s.time := rfl
@[simp] theorem setPrs_crest (e : Nat) (x : ErgParse) : (s.setPrs e x).crest = s.crest := rfl
@[simp] theorem setPrs_mainLost (e : Nat) (x : ErgParse) : (s.setPrs e x).mainLost = s.mainLost := rfl
@[simp] theorem setPrs_draws (e : Nat) (x : ErgParse) : (s.setPrs e x).draws = s.draws := rfl
@[simp] theorem setPrs_tabs (e : Nat) (x : ErgParse) : (s.setPrs e x).tabs = s.tabs := rfl
@[simp] theorem setPrs_tbank0 (e : Nat) (x : ErgParse) : (s.setPrs e x).tbank0 = s.tbank0 := rfl
@[simp] theorem setPrs_tbank1 (e : Nat) (x : ErgParse) : (s.setPrs e x).tbank1 = s.tbank1 := rfl
@[simp] theorem setPrs_frames (e : Nat) (x : ErgParse) : (s.setPrs e x).frames = s.frames := rfl
@[simp] theorem setPrs_nextId (e : Nat) (x : ErgParse) : (s.setPrs e x).nextId = s.nextId := rfl
@[simp] theorem setPrs_ergs (e : Nat) (x : ErgParse) : (s.setPrs e x).ergs = s.ergs.set e x := rfl
@[simp] theorem setPrs_fwd (e : Nat) (x : ErgParse) : (s.setPrs e x).fwd = s.fwd := rfl
@[simp] theorem setPrs_busTurn (e : Nat) (x : ErgParse) : (s.setPrs e x).busTurn = s.busTurn := rfl
@[simp] theorem setPrs_oas (e : Nat) (x : ErgParse) : (s.setPrs e x).oas = s.oas := rfl
@[simp] theorem setPrs_sched (e : Nat) (x : ErgParse) : (s.setPrs e x).sched = s.sched := rfl
@[simp] theorem setPrs_macs (e : Nat) (x : ErgParse) : (s.setPrs e x).macs = s.macs := rfl
@[simp] theorem setPrs_lns (e : Nat) (x : ErgParse) : (s.setPrs e x).lns = s.lns := rfl
@[simp] theorem setPrs_cvn (e : Nat) (x : ErgParse) : (s.setPrs e x).cvn = s.cvn := rfl
@[simp] theorem setPrs_host (e : Nat) (x : ErgParse) : (s.setPrs e x).host = s.host := rfl
@[simp] theorem setPrs_sram (e : Nat) (x : ErgParse) : (s.setPrs e x).sram = s.sram := rfl
@[simp] theorem setPrs_pow (e : Nat) (x : ErgParse) : (s.setPrs e x).pow = s.pow := rfl
@[simp] theorem setPrs_boot (e : Nat) (x : ErgParse) : (s.setPrs e x).boot = s.boot := rfl
@[simp] theorem setPrs_posted (e : Nat) (x : ErgParse) : (s.setPrs e x).posted = s.posted := rfl
@[simp] theorem setPrs_mon (e : Nat) (x : ErgParse) : (s.setPrs e x).mon = s.mon := rfl
@[simp] theorem setPrs_ifc (e : Nat) (x : ErgParse) : (s.setPrs e x).ifc = s.ifc := rfl
@[simp] theorem setPrs_flt (e : Nat) (x : ErgParse) : (s.setPrs e x).flt = s.flt := rfl
@[simp] theorem setPrs_held (e : Nat) (x : ErgParse) : (s.setPrs e x).held = s.held := rfl
@[simp] theorem setPrs_nvm (e : Nat) (x : ErgParse) : (s.setPrs e x).nvm = s.nvm := rfl

@[simp] theorem setPrs_reg (e : Nat) (x : ErgParse) (off' : Nat) : (s.setPrs e x).reg off' = s.reg off' := rfl

@[simp] theorem setMac_pending (p : Nat) (m : MacState) : (s.setMac p m).pending = s.pending := rfl
@[simp] theorem setMac_regs (p : Nat) (m : MacState) : (s.setMac p m).regs = s.regs := rfl
@[simp] theorem setMac_bank0 (p : Nat) (m : MacState) : (s.setMac p m).bank0 = s.bank0 := rfl
@[simp] theorem setMac_bank1 (p : Nat) (m : MacState) : (s.setMac p m).bank1 = s.bank1 := rfl
@[simp] theorem setMac_occ (p : Nat) (m : MacState) : (s.setMac p m).occ = s.occ := rfl
@[simp] theorem setMac_mode (p : Nat) (m : MacState) : (s.setMac p m).mode = s.mode := rfl
@[simp] theorem setMac_recFromHandover (p : Nat) (m : MacState) : (s.setMac p m).recFromHandover = s.recFromHandover := rfl
@[simp] theorem setMac_grave (p : Nat) (m : MacState) : (s.setMac p m).grave = s.grave := rfl
@[simp] theorem setMac_time (p : Nat) (m : MacState) : (s.setMac p m).time = s.time := rfl
@[simp] theorem setMac_crest (p : Nat) (m : MacState) : (s.setMac p m).crest = s.crest := rfl
@[simp] theorem setMac_mainLost (p : Nat) (m : MacState) : (s.setMac p m).mainLost = s.mainLost := rfl
@[simp] theorem setMac_draws (p : Nat) (m : MacState) : (s.setMac p m).draws = s.draws := rfl
@[simp] theorem setMac_tabs (p : Nat) (m : MacState) : (s.setMac p m).tabs = s.tabs := rfl
@[simp] theorem setMac_tbank0 (p : Nat) (m : MacState) : (s.setMac p m).tbank0 = s.tbank0 := rfl
@[simp] theorem setMac_tbank1 (p : Nat) (m : MacState) : (s.setMac p m).tbank1 = s.tbank1 := rfl
@[simp] theorem setMac_frames (p : Nat) (m : MacState) : (s.setMac p m).frames = s.frames := rfl
@[simp] theorem setMac_nextId (p : Nat) (m : MacState) : (s.setMac p m).nextId = s.nextId := rfl
@[simp] theorem setMac_ergs (p : Nat) (m : MacState) : (s.setMac p m).ergs = s.ergs := rfl
@[simp] theorem setMac_fwd (p : Nat) (m : MacState) : (s.setMac p m).fwd = s.fwd := rfl
@[simp] theorem setMac_busTurn (p : Nat) (m : MacState) : (s.setMac p m).busTurn = s.busTurn := rfl
@[simp] theorem setMac_oas (p : Nat) (m : MacState) : (s.setMac p m).oas = s.oas := rfl
@[simp] theorem setMac_sched (p : Nat) (m : MacState) : (s.setMac p m).sched = s.sched := rfl
@[simp] theorem setMac_macs (p : Nat) (m : MacState) : (s.setMac p m).macs = s.macs.set p m := rfl
@[simp] theorem setMac_lns (p : Nat) (m : MacState) : (s.setMac p m).lns = s.lns := rfl
@[simp] theorem setMac_cvn (p : Nat) (m : MacState) : (s.setMac p m).cvn = s.cvn := rfl
@[simp] theorem setMac_host (p : Nat) (m : MacState) : (s.setMac p m).host = s.host := rfl
@[simp] theorem setMac_sram (p : Nat) (m : MacState) : (s.setMac p m).sram = s.sram := rfl
@[simp] theorem setMac_pow (p : Nat) (m : MacState) : (s.setMac p m).pow = s.pow := rfl
@[simp] theorem setMac_boot (p : Nat) (m : MacState) : (s.setMac p m).boot = s.boot := rfl
@[simp] theorem setMac_posted (p : Nat) (m : MacState) : (s.setMac p m).posted = s.posted := rfl
@[simp] theorem setMac_mon (p : Nat) (m : MacState) : (s.setMac p m).mon = s.mon := rfl
@[simp] theorem setMac_ifc (p : Nat) (m : MacState) : (s.setMac p m).ifc = s.ifc := rfl
@[simp] theorem setMac_flt (p : Nat) (m : MacState) : (s.setMac p m).flt = s.flt := rfl
@[simp] theorem setMac_held (p : Nat) (m : MacState) : (s.setMac p m).held = s.held := rfl
@[simp] theorem setMac_nvm (p : Nat) (m : MacState) : (s.setMac p m).nvm = s.nvm := rfl

@[simp] theorem setMac_reg (p : Nat) (m : MacState) (off' : Nat) : (s.setMac p m).reg off' = s.reg off' := rfl

@[simp] theorem setTab_pending (t e i v : Nat) : (s.setTab t e i v).pending = s.pending := rfl
@[simp] theorem setTab_regs (t e i v : Nat) : (s.setTab t e i v).regs = s.regs := rfl
@[simp] theorem setTab_bank0 (t e i v : Nat) : (s.setTab t e i v).bank0 = s.bank0 := rfl
@[simp] theorem setTab_bank1 (t e i v : Nat) : (s.setTab t e i v).bank1 = s.bank1 := rfl
@[simp] theorem setTab_occ (t e i v : Nat) : (s.setTab t e i v).occ = s.occ := rfl
@[simp] theorem setTab_mode (t e i v : Nat) : (s.setTab t e i v).mode = s.mode := rfl
@[simp] theorem setTab_recFromHandover (t e i v : Nat) : (s.setTab t e i v).recFromHandover = s.recFromHandover := rfl
@[simp] theorem setTab_grave (t e i v : Nat) : (s.setTab t e i v).grave = s.grave := rfl
@[simp] theorem setTab_time (t e i v : Nat) : (s.setTab t e i v).time = s.time := rfl
@[simp] theorem setTab_crest (t e i v : Nat) : (s.setTab t e i v).crest = s.crest := rfl
@[simp] theorem setTab_mainLost (t e i v : Nat) : (s.setTab t e i v).mainLost = s.mainLost := rfl
@[simp] theorem setTab_draws (t e i v : Nat) : (s.setTab t e i v).draws = s.draws := rfl
@[simp] theorem setTab_tabs (t e i v : Nat) : (s.setTab t e i v).tabs = sparsePut tableReset (tableKey t e i) v s.tabs := rfl
@[simp] theorem setTab_tbank0 (t e i v : Nat) : (s.setTab t e i v).tbank0 = s.tbank0 := rfl
@[simp] theorem setTab_tbank1 (t e i v : Nat) : (s.setTab t e i v).tbank1 = s.tbank1 := rfl
@[simp] theorem setTab_frames (t e i v : Nat) : (s.setTab t e i v).frames = s.frames := rfl
@[simp] theorem setTab_nextId (t e i v : Nat) : (s.setTab t e i v).nextId = s.nextId := rfl
@[simp] theorem setTab_ergs (t e i v : Nat) : (s.setTab t e i v).ergs = s.ergs := rfl
@[simp] theorem setTab_fwd (t e i v : Nat) : (s.setTab t e i v).fwd = s.fwd := rfl
@[simp] theorem setTab_busTurn (t e i v : Nat) : (s.setTab t e i v).busTurn = s.busTurn := rfl
@[simp] theorem setTab_oas (t e i v : Nat) : (s.setTab t e i v).oas = s.oas := rfl
@[simp] theorem setTab_sched (t e i v : Nat) : (s.setTab t e i v).sched = s.sched := rfl
@[simp] theorem setTab_macs (t e i v : Nat) : (s.setTab t e i v).macs = s.macs := rfl
@[simp] theorem setTab_lns (t e i v : Nat) : (s.setTab t e i v).lns = s.lns := rfl
@[simp] theorem setTab_cvn (t e i v : Nat) : (s.setTab t e i v).cvn = s.cvn := rfl
@[simp] theorem setTab_host (t e i v : Nat) : (s.setTab t e i v).host = s.host := rfl
@[simp] theorem setTab_sram (t e i v : Nat) : (s.setTab t e i v).sram = s.sram := rfl
@[simp] theorem setTab_pow (t e i v : Nat) : (s.setTab t e i v).pow = s.pow := rfl
@[simp] theorem setTab_boot (t e i v : Nat) : (s.setTab t e i v).boot = s.boot := rfl
@[simp] theorem setTab_posted (t e i v : Nat) : (s.setTab t e i v).posted = s.posted := rfl
@[simp] theorem setTab_mon (t e i v : Nat) : (s.setTab t e i v).mon = s.mon := rfl
@[simp] theorem setTab_ifc (t e i v : Nat) : (s.setTab t e i v).ifc = s.ifc := rfl
@[simp] theorem setTab_flt (t e i v : Nat) : (s.setTab t e i v).flt = s.flt := rfl
@[simp] theorem setTab_held (t e i v : Nat) : (s.setTab t e i v).held = s.held := rfl
@[simp] theorem setTab_nvm (t e i v : Nat) : (s.setTab t e i v).nvm = s.nvm := rfl

@[simp] theorem setTab_reg (t e i v : Nat) (off' : Nat) : (s.setTab t e i v).reg off' = s.reg off' := rfl

@[simp] theorem setTio_pending (i : Nat) (t : Tio) : (s.setTio i t).pending = s.pending := rfl
@[simp] theorem setTio_regs (i : Nat) (t : Tio) : (s.setTio i t).regs = s.regs := rfl
@[simp] theorem setTio_bank0 (i : Nat) (t : Tio) : (s.setTio i t).bank0 = s.bank0 := rfl
@[simp] theorem setTio_bank1 (i : Nat) (t : Tio) : (s.setTio i t).bank1 = s.bank1 := rfl
@[simp] theorem setTio_occ (i : Nat) (t : Tio) : (s.setTio i t).occ = s.occ := rfl
@[simp] theorem setTio_mode (i : Nat) (t : Tio) : (s.setTio i t).mode = s.mode := rfl
@[simp] theorem setTio_recFromHandover (i : Nat) (t : Tio) : (s.setTio i t).recFromHandover = s.recFromHandover := rfl
@[simp] theorem setTio_grave (i : Nat) (t : Tio) : (s.setTio i t).grave = s.grave := rfl
@[simp] theorem setTio_time (i : Nat) (t : Tio) : (s.setTio i t).time = { s.time with tio := s.time.tio.set i t } := rfl
@[simp] theorem setTio_crest (i : Nat) (t : Tio) : (s.setTio i t).crest = s.crest := rfl
@[simp] theorem setTio_mainLost (i : Nat) (t : Tio) : (s.setTio i t).mainLost = s.mainLost := rfl
@[simp] theorem setTio_draws (i : Nat) (t : Tio) : (s.setTio i t).draws = s.draws := rfl
@[simp] theorem setTio_tabs (i : Nat) (t : Tio) : (s.setTio i t).tabs = s.tabs := rfl
@[simp] theorem setTio_tbank0 (i : Nat) (t : Tio) : (s.setTio i t).tbank0 = s.tbank0 := rfl
@[simp] theorem setTio_tbank1 (i : Nat) (t : Tio) : (s.setTio i t).tbank1 = s.tbank1 := rfl
@[simp] theorem setTio_frames (i : Nat) (t : Tio) : (s.setTio i t).frames = s.frames := rfl
@[simp] theorem setTio_nextId (i : Nat) (t : Tio) : (s.setTio i t).nextId = s.nextId := rfl
@[simp] theorem setTio_ergs (i : Nat) (t : Tio) : (s.setTio i t).ergs = s.ergs := rfl
@[simp] theorem setTio_fwd (i : Nat) (t : Tio) : (s.setTio i t).fwd = s.fwd := rfl
@[simp] theorem setTio_busTurn (i : Nat) (t : Tio) : (s.setTio i t).busTurn = s.busTurn := rfl
@[simp] theorem setTio_oas (i : Nat) (t : Tio) : (s.setTio i t).oas = s.oas := rfl
@[simp] theorem setTio_sched (i : Nat) (t : Tio) : (s.setTio i t).sched = s.sched := rfl
@[simp] theorem setTio_macs (i : Nat) (t : Tio) : (s.setTio i t).macs = s.macs := rfl
@[simp] theorem setTio_lns (i : Nat) (t : Tio) : (s.setTio i t).lns = s.lns := rfl
@[simp] theorem setTio_cvn (i : Nat) (t : Tio) : (s.setTio i t).cvn = s.cvn := rfl
@[simp] theorem setTio_host (i : Nat) (t : Tio) : (s.setTio i t).host = s.host := rfl
@[simp] theorem setTio_sram (i : Nat) (t : Tio) : (s.setTio i t).sram = s.sram := rfl
@[simp] theorem setTio_pow (i : Nat) (t : Tio) : (s.setTio i t).pow = s.pow := rfl
@[simp] theorem setTio_boot (i : Nat) (t : Tio) : (s.setTio i t).boot = s.boot := rfl
@[simp] theorem setTio_posted (i : Nat) (t : Tio) : (s.setTio i t).posted = s.posted := rfl
@[simp] theorem setTio_mon (i : Nat) (t : Tio) : (s.setTio i t).mon = s.mon := rfl
@[simp] theorem setTio_ifc (i : Nat) (t : Tio) : (s.setTio i t).ifc = s.ifc := rfl
@[simp] theorem setTio_flt (i : Nat) (t : Tio) : (s.setTio i t).flt = s.flt := rfl
@[simp] theorem setTio_held (i : Nat) (t : Tio) : (s.setTio i t).held = s.held := rfl
@[simp] theorem setTio_nvm (i : Nat) (t : Tio) : (s.setTio i t).nvm = s.nvm := rfl

@[simp] theorem setTio_reg (i : Nat) (t : Tio) (off' : Nat) : (s.setTio i t).reg off' = s.reg off' := rfl

@[simp] theorem setTxts_pending (p : Nat) (q : List TxtsEntry) : (s.setTxts p q).pending = s.pending := rfl
@[simp] theorem setTxts_regs (p : Nat) (q : List TxtsEntry) : (s.setTxts p q).regs = s.regs := rfl
@[simp] theorem setTxts_bank0 (p : Nat) (q : List TxtsEntry) : (s.setTxts p q).bank0 = s.bank0 := rfl
@[simp] theorem setTxts_bank1 (p : Nat) (q : List TxtsEntry) : (s.setTxts p q).bank1 = s.bank1 := rfl
@[simp] theorem setTxts_occ (p : Nat) (q : List TxtsEntry) : (s.setTxts p q).occ = s.occ := rfl
@[simp] theorem setTxts_mode (p : Nat) (q : List TxtsEntry) : (s.setTxts p q).mode = s.mode := rfl
@[simp] theorem setTxts_recFromHandover (p : Nat) (q : List TxtsEntry) : (s.setTxts p q).recFromHandover = s.recFromHandover := rfl
@[simp] theorem setTxts_grave (p : Nat) (q : List TxtsEntry) : (s.setTxts p q).grave = s.grave := rfl
@[simp] theorem setTxts_time (p : Nat) (q : List TxtsEntry) : (s.setTxts p q).time = { s.time with txts := s.time.txts.set p q } := rfl
@[simp] theorem setTxts_crest (p : Nat) (q : List TxtsEntry) : (s.setTxts p q).crest = s.crest := rfl
@[simp] theorem setTxts_mainLost (p : Nat) (q : List TxtsEntry) : (s.setTxts p q).mainLost = s.mainLost := rfl
@[simp] theorem setTxts_draws (p : Nat) (q : List TxtsEntry) : (s.setTxts p q).draws = s.draws := rfl
@[simp] theorem setTxts_tabs (p : Nat) (q : List TxtsEntry) : (s.setTxts p q).tabs = s.tabs := rfl
@[simp] theorem setTxts_tbank0 (p : Nat) (q : List TxtsEntry) : (s.setTxts p q).tbank0 = s.tbank0 := rfl
@[simp] theorem setTxts_tbank1 (p : Nat) (q : List TxtsEntry) : (s.setTxts p q).tbank1 = s.tbank1 := rfl
@[simp] theorem setTxts_frames (p : Nat) (q : List TxtsEntry) : (s.setTxts p q).frames = s.frames := rfl
@[simp] theorem setTxts_nextId (p : Nat) (q : List TxtsEntry) : (s.setTxts p q).nextId = s.nextId := rfl
@[simp] theorem setTxts_ergs (p : Nat) (q : List TxtsEntry) : (s.setTxts p q).ergs = s.ergs := rfl
@[simp] theorem setTxts_fwd (p : Nat) (q : List TxtsEntry) : (s.setTxts p q).fwd = s.fwd := rfl
@[simp] theorem setTxts_busTurn (p : Nat) (q : List TxtsEntry) : (s.setTxts p q).busTurn = s.busTurn := rfl
@[simp] theorem setTxts_oas (p : Nat) (q : List TxtsEntry) : (s.setTxts p q).oas = s.oas := rfl
@[simp] theorem setTxts_sched (p : Nat) (q : List TxtsEntry) : (s.setTxts p q).sched = s.sched := rfl
@[simp] theorem setTxts_macs (p : Nat) (q : List TxtsEntry) : (s.setTxts p q).macs = s.macs := rfl
@[simp] theorem setTxts_lns (p : Nat) (q : List TxtsEntry) : (s.setTxts p q).lns = s.lns := rfl
@[simp] theorem setTxts_cvn (p : Nat) (q : List TxtsEntry) : (s.setTxts p q).cvn = s.cvn := rfl
@[simp] theorem setTxts_host (p : Nat) (q : List TxtsEntry) : (s.setTxts p q).host = s.host := rfl
@[simp] theorem setTxts_sram (p : Nat) (q : List TxtsEntry) : (s.setTxts p q).sram = s.sram := rfl
@[simp] theorem setTxts_pow (p : Nat) (q : List TxtsEntry) : (s.setTxts p q).pow = s.pow := rfl
@[simp] theorem setTxts_boot (p : Nat) (q : List TxtsEntry) : (s.setTxts p q).boot = s.boot := rfl
@[simp] theorem setTxts_posted (p : Nat) (q : List TxtsEntry) : (s.setTxts p q).posted = s.posted := rfl
@[simp] theorem setTxts_mon (p : Nat) (q : List TxtsEntry) : (s.setTxts p q).mon = s.mon := rfl
@[simp] theorem setTxts_ifc (p : Nat) (q : List TxtsEntry) : (s.setTxts p q).ifc = s.ifc := rfl
@[simp] theorem setTxts_flt (p : Nat) (q : List TxtsEntry) : (s.setTxts p q).flt = s.flt := rfl
@[simp] theorem setTxts_held (p : Nat) (q : List TxtsEntry) : (s.setTxts p q).held = s.held := rfl
@[simp] theorem setTxts_nvm (p : Nat) (q : List TxtsEntry) : (s.setTxts p q).nvm = s.nvm := rfl

@[simp] theorem setTxts_reg (p : Nat) (q : List TxtsEntry) (off' : Nat) : (s.setTxts p q).reg off' = s.reg off' := rfl

@[simp] theorem setFrame_pending (f : Frame) : (s.setFrame f).pending = s.pending := rfl
@[simp] theorem setFrame_regs (f : Frame) : (s.setFrame f).regs = s.regs := rfl
@[simp] theorem setFrame_bank0 (f : Frame) : (s.setFrame f).bank0 = s.bank0 := rfl
@[simp] theorem setFrame_bank1 (f : Frame) : (s.setFrame f).bank1 = s.bank1 := rfl
@[simp] theorem setFrame_occ (f : Frame) : (s.setFrame f).occ = s.occ := rfl
@[simp] theorem setFrame_mode (f : Frame) : (s.setFrame f).mode = s.mode := rfl
@[simp] theorem setFrame_recFromHandover (f : Frame) : (s.setFrame f).recFromHandover = s.recFromHandover := rfl
@[simp] theorem setFrame_grave (f : Frame) : (s.setFrame f).grave = s.grave := rfl
@[simp] theorem setFrame_time (f : Frame) : (s.setFrame f).time = s.time := rfl
@[simp] theorem setFrame_crest (f : Frame) : (s.setFrame f).crest = s.crest := rfl
@[simp] theorem setFrame_mainLost (f : Frame) : (s.setFrame f).mainLost = s.mainLost := rfl
@[simp] theorem setFrame_draws (f : Frame) : (s.setFrame f).draws = s.draws := rfl
@[simp] theorem setFrame_tabs (f : Frame) : (s.setFrame f).tabs = s.tabs := rfl
@[simp] theorem setFrame_tbank0 (f : Frame) : (s.setFrame f).tbank0 = s.tbank0 := rfl
@[simp] theorem setFrame_tbank1 (f : Frame) : (s.setFrame f).tbank1 = s.tbank1 := rfl
@[simp] theorem setFrame_frames (f : Frame) : (s.setFrame f).frames = s.frames.map fun x => if x.id = f.id then f else x := rfl
@[simp] theorem setFrame_nextId (f : Frame) : (s.setFrame f).nextId = s.nextId := rfl
@[simp] theorem setFrame_ergs (f : Frame) : (s.setFrame f).ergs = s.ergs := rfl
@[simp] theorem setFrame_fwd (f : Frame) : (s.setFrame f).fwd = s.fwd := rfl
@[simp] theorem setFrame_busTurn (f : Frame) : (s.setFrame f).busTurn = s.busTurn := rfl
@[simp] theorem setFrame_oas (f : Frame) : (s.setFrame f).oas = s.oas := rfl
@[simp] theorem setFrame_sched (f : Frame) : (s.setFrame f).sched = s.sched := rfl
@[simp] theorem setFrame_macs (f : Frame) : (s.setFrame f).macs = s.macs := rfl
@[simp] theorem setFrame_lns (f : Frame) : (s.setFrame f).lns = s.lns := rfl
@[simp] theorem setFrame_cvn (f : Frame) : (s.setFrame f).cvn = s.cvn := rfl
@[simp] theorem setFrame_host (f : Frame) : (s.setFrame f).host = s.host := rfl
@[simp] theorem setFrame_sram (f : Frame) : (s.setFrame f).sram = s.sram := rfl
@[simp] theorem setFrame_pow (f : Frame) : (s.setFrame f).pow = s.pow := rfl
@[simp] theorem setFrame_boot (f : Frame) : (s.setFrame f).boot = s.boot := rfl
@[simp] theorem setFrame_posted (f : Frame) : (s.setFrame f).posted = s.posted := rfl
@[simp] theorem setFrame_mon (f : Frame) : (s.setFrame f).mon = s.mon := rfl
@[simp] theorem setFrame_ifc (f : Frame) : (s.setFrame f).ifc = s.ifc := rfl
@[simp] theorem setFrame_flt (f : Frame) : (s.setFrame f).flt = s.flt := rfl
@[simp] theorem setFrame_held (f : Frame) : (s.setFrame f).held = s.held := rfl
@[simp] theorem setFrame_nvm (f : Frame) : (s.setFrame f).nvm = s.nvm := rfl

@[simp] theorem setFrame_reg (f : Frame) (off' : Nat) : (s.setFrame f).reg off' = s.reg off' := rfl

@[simp] theorem setTrained_pending (t : List Nat) : (s.setTrained t).pending = s.pending := rfl
@[simp] theorem setTrained_regs (t : List Nat) : (s.setTrained t).regs = s.regs := rfl
@[simp] theorem setTrained_bank0 (t : List Nat) : (s.setTrained t).bank0 = s.bank0 := rfl
@[simp] theorem setTrained_bank1 (t : List Nat) : (s.setTrained t).bank1 = s.bank1 := rfl
@[simp] theorem setTrained_occ (t : List Nat) : (s.setTrained t).occ = s.occ := rfl
@[simp] theorem setTrained_mode (t : List Nat) : (s.setTrained t).mode = s.mode := rfl
@[simp] theorem setTrained_recFromHandover (t : List Nat) : (s.setTrained t).recFromHandover = s.recFromHandover := rfl
@[simp] theorem setTrained_grave (t : List Nat) : (s.setTrained t).grave = s.grave := rfl
@[simp] theorem setTrained_time (t : List Nat) : (s.setTrained t).time = s.time := rfl
@[simp] theorem setTrained_crest (t : List Nat) : (s.setTrained t).crest = s.crest := rfl
@[simp] theorem setTrained_mainLost (t : List Nat) : (s.setTrained t).mainLost = s.mainLost := rfl
@[simp] theorem setTrained_draws (t : List Nat) : (s.setTrained t).draws = s.draws := rfl
@[simp] theorem setTrained_tabs (t : List Nat) : (s.setTrained t).tabs = s.tabs := rfl
@[simp] theorem setTrained_tbank0 (t : List Nat) : (s.setTrained t).tbank0 = s.tbank0 := rfl
@[simp] theorem setTrained_tbank1 (t : List Nat) : (s.setTrained t).tbank1 = s.tbank1 := rfl
@[simp] theorem setTrained_frames (t : List Nat) : (s.setTrained t).frames = s.frames := rfl
@[simp] theorem setTrained_nextId (t : List Nat) : (s.setTrained t).nextId = s.nextId := rfl
@[simp] theorem setTrained_ergs (t : List Nat) : (s.setTrained t).ergs = s.ergs := rfl
@[simp] theorem setTrained_fwd (t : List Nat) : (s.setTrained t).fwd = s.fwd := rfl
@[simp] theorem setTrained_busTurn (t : List Nat) : (s.setTrained t).busTurn = s.busTurn := rfl
@[simp] theorem setTrained_oas (t : List Nat) : (s.setTrained t).oas = s.oas := rfl
@[simp] theorem setTrained_sched (t : List Nat) : (s.setTrained t).sched = s.sched := rfl
@[simp] theorem setTrained_macs (t : List Nat) : (s.setTrained t).macs = s.macs := rfl
@[simp] theorem setTrained_lns (t : List Nat) : (s.setTrained t).lns = { s.lns with trained := t } := rfl
@[simp] theorem setTrained_cvn (t : List Nat) : (s.setTrained t).cvn = s.cvn := rfl
@[simp] theorem setTrained_host (t : List Nat) : (s.setTrained t).host = s.host := rfl
@[simp] theorem setTrained_sram (t : List Nat) : (s.setTrained t).sram = s.sram := rfl
@[simp] theorem setTrained_pow (t : List Nat) : (s.setTrained t).pow = s.pow := rfl
@[simp] theorem setTrained_boot (t : List Nat) : (s.setTrained t).boot = s.boot := rfl
@[simp] theorem setTrained_posted (t : List Nat) : (s.setTrained t).posted = s.posted := rfl
@[simp] theorem setTrained_mon (t : List Nat) : (s.setTrained t).mon = s.mon := rfl
@[simp] theorem setTrained_ifc (t : List Nat) : (s.setTrained t).ifc = s.ifc := rfl
@[simp] theorem setTrained_flt (t : List Nat) : (s.setTrained t).flt = s.flt := rfl
@[simp] theorem setTrained_held (t : List Nat) : (s.setTrained t).held = s.held := rfl
@[simp] theorem setTrained_nvm (t : List Nat) : (s.setTrained t).nvm = s.nvm := rfl

@[simp] theorem setTrained_reg (t : List Nat) (off' : Nat) : (s.setTrained t).reg off' = s.reg off' := rfl

@[simp] theorem setReasm_pending (p : Nat) (r : Option Reasm) : (s.setReasm p r).pending = s.pending := rfl
@[simp] theorem setReasm_regs (p : Nat) (r : Option Reasm) : (s.setReasm p r).regs = s.regs := rfl
@[simp] theorem setReasm_bank0 (p : Nat) (r : Option Reasm) : (s.setReasm p r).bank0 = s.bank0 := rfl
@[simp] theorem setReasm_bank1 (p : Nat) (r : Option Reasm) : (s.setReasm p r).bank1 = s.bank1 := rfl
@[simp] theorem setReasm_occ (p : Nat) (r : Option Reasm) : (s.setReasm p r).occ = s.occ := rfl
@[simp] theorem setReasm_mode (p : Nat) (r : Option Reasm) : (s.setReasm p r).mode = s.mode := rfl
@[simp] theorem setReasm_recFromHandover (p : Nat) (r : Option Reasm) : (s.setReasm p r).recFromHandover = s.recFromHandover := rfl
@[simp] theorem setReasm_grave (p : Nat) (r : Option Reasm) : (s.setReasm p r).grave = s.grave := rfl
@[simp] theorem setReasm_time (p : Nat) (r : Option Reasm) : (s.setReasm p r).time = s.time := rfl
@[simp] theorem setReasm_crest (p : Nat) (r : Option Reasm) : (s.setReasm p r).crest = s.crest := rfl
@[simp] theorem setReasm_mainLost (p : Nat) (r : Option Reasm) : (s.setReasm p r).mainLost = s.mainLost := rfl
@[simp] theorem setReasm_draws (p : Nat) (r : Option Reasm) : (s.setReasm p r).draws = s.draws := rfl
@[simp] theorem setReasm_tabs (p : Nat) (r : Option Reasm) : (s.setReasm p r).tabs = s.tabs := rfl
@[simp] theorem setReasm_tbank0 (p : Nat) (r : Option Reasm) : (s.setReasm p r).tbank0 = s.tbank0 := rfl
@[simp] theorem setReasm_tbank1 (p : Nat) (r : Option Reasm) : (s.setReasm p r).tbank1 = s.tbank1 := rfl
@[simp] theorem setReasm_frames (p : Nat) (r : Option Reasm) : (s.setReasm p r).frames = s.frames := rfl
@[simp] theorem setReasm_nextId (p : Nat) (r : Option Reasm) : (s.setReasm p r).nextId = s.nextId := rfl
@[simp] theorem setReasm_ergs (p : Nat) (r : Option Reasm) : (s.setReasm p r).ergs = s.ergs := rfl
@[simp] theorem setReasm_fwd (p : Nat) (r : Option Reasm) : (s.setReasm p r).fwd = s.fwd := rfl
@[simp] theorem setReasm_busTurn (p : Nat) (r : Option Reasm) : (s.setReasm p r).busTurn = s.busTurn := rfl
@[simp] theorem setReasm_oas (p : Nat) (r : Option Reasm) : (s.setReasm p r).oas = s.oas := rfl
@[simp] theorem setReasm_sched (p : Nat) (r : Option Reasm) : (s.setReasm p r).sched = s.sched := rfl
@[simp] theorem setReasm_macs (p : Nat) (r : Option Reasm) : (s.setReasm p r).macs = s.macs.set p { s.mac p with reasm := r } := rfl
@[simp] theorem setReasm_lns (p : Nat) (r : Option Reasm) : (s.setReasm p r).lns = s.lns := rfl
@[simp] theorem setReasm_cvn (p : Nat) (r : Option Reasm) : (s.setReasm p r).cvn = s.cvn := rfl
@[simp] theorem setReasm_host (p : Nat) (r : Option Reasm) : (s.setReasm p r).host = s.host := rfl
@[simp] theorem setReasm_sram (p : Nat) (r : Option Reasm) : (s.setReasm p r).sram = s.sram := rfl
@[simp] theorem setReasm_pow (p : Nat) (r : Option Reasm) : (s.setReasm p r).pow = s.pow := rfl
@[simp] theorem setReasm_boot (p : Nat) (r : Option Reasm) : (s.setReasm p r).boot = s.boot := rfl
@[simp] theorem setReasm_posted (p : Nat) (r : Option Reasm) : (s.setReasm p r).posted = s.posted := rfl
@[simp] theorem setReasm_mon (p : Nat) (r : Option Reasm) : (s.setReasm p r).mon = s.mon := rfl
@[simp] theorem setReasm_ifc (p : Nat) (r : Option Reasm) : (s.setReasm p r).ifc = s.ifc := rfl
@[simp] theorem setReasm_flt (p : Nat) (r : Option Reasm) : (s.setReasm p r).flt = s.flt := rfl
@[simp] theorem setReasm_held (p : Nat) (r : Option Reasm) : (s.setReasm p r).held = s.held := rfl
@[simp] theorem setReasm_nvm (p : Nat) (r : Option Reasm) : (s.setReasm p r).nvm = s.nvm := rfl

@[simp] theorem setReasm_reg (p : Nat) (r : Option Reasm) (off' : Nat) : (s.setReasm p r).reg off' = s.reg off' := rfl

@[simp] theorem castCvn_pending (v : Bool) : (s.castCvn v).pending = s.pending := rfl
@[simp] theorem castCvn_regs (v : Bool) : (s.castCvn v).regs = s.regs := rfl
@[simp] theorem castCvn_bank0 (v : Bool) : (s.castCvn v).bank0 = s.bank0 := rfl
@[simp] theorem castCvn_bank1 (v : Bool) : (s.castCvn v).bank1 = s.bank1 := rfl
@[simp] theorem castCvn_occ (v : Bool) : (s.castCvn v).occ = s.occ := rfl
@[simp] theorem castCvn_mode (v : Bool) : (s.castCvn v).mode = s.mode := rfl
@[simp] theorem castCvn_recFromHandover (v : Bool) : (s.castCvn v).recFromHandover = s.recFromHandover := rfl
@[simp] theorem castCvn_grave (v : Bool) : (s.castCvn v).grave = s.grave := rfl
@[simp] theorem castCvn_time (v : Bool) : (s.castCvn v).time = s.time := rfl
@[simp] theorem castCvn_crest (v : Bool) : (s.castCvn v).crest = s.crest := rfl
@[simp] theorem castCvn_mainLost (v : Bool) : (s.castCvn v).mainLost = s.mainLost := rfl
@[simp] theorem castCvn_draws (v : Bool) : (s.castCvn v).draws = s.draws := rfl
@[simp] theorem castCvn_tabs (v : Bool) : (s.castCvn v).tabs = s.tabs := rfl
@[simp] theorem castCvn_tbank0 (v : Bool) : (s.castCvn v).tbank0 = s.tbank0 := rfl
@[simp] theorem castCvn_tbank1 (v : Bool) : (s.castCvn v).tbank1 = s.tbank1 := rfl
@[simp] theorem castCvn_frames (v : Bool) : (s.castCvn v).frames = s.frames := rfl
@[simp] theorem castCvn_nextId (v : Bool) : (s.castCvn v).nextId = s.nextId := rfl
@[simp] theorem castCvn_ergs (v : Bool) : (s.castCvn v).ergs = s.ergs := rfl
@[simp] theorem castCvn_fwd (v : Bool) : (s.castCvn v).fwd = s.fwd := rfl
@[simp] theorem castCvn_busTurn (v : Bool) : (s.castCvn v).busTurn = s.busTurn := rfl
@[simp] theorem castCvn_oas (v : Bool) : (s.castCvn v).oas = s.oas := rfl
@[simp] theorem castCvn_sched (v : Bool) : (s.castCvn v).sched = s.sched := rfl
@[simp] theorem castCvn_macs (v : Bool) : (s.castCvn v).macs = s.macs := rfl
@[simp] theorem castCvn_lns (v : Bool) : (s.castCvn v).lns = s.lns := rfl
@[simp] theorem castCvn_cvn (v : Bool) : (s.castCvn v).cvn = s.cvn := rfl
@[simp] theorem castCvn_host (v : Bool) : (s.castCvn v).host = s.host := rfl
@[simp] theorem castCvn_sram (v : Bool) : (s.castCvn v).sram = s.sram := rfl
@[simp] theorem castCvn_pow (v : Bool) : (s.castCvn v).pow = { s.pow with cvnVote := v } := rfl
@[simp] theorem castCvn_boot (v : Bool) : (s.castCvn v).boot = s.boot := rfl
@[simp] theorem castCvn_posted (v : Bool) : (s.castCvn v).posted = s.posted := rfl
@[simp] theorem castCvn_mon (v : Bool) : (s.castCvn v).mon = s.mon := rfl
@[simp] theorem castCvn_ifc (v : Bool) : (s.castCvn v).ifc = s.ifc := rfl
@[simp] theorem castCvn_flt (v : Bool) : (s.castCvn v).flt = s.flt := rfl
@[simp] theorem castCvn_held (v : Bool) : (s.castCvn v).held = s.held := rfl
@[simp] theorem castCvn_nvm (v : Bool) : (s.castCvn v).nvm = s.nvm := rfl

@[simp] theorem castCvn_reg (v : Bool) (off' : Nat) : (s.castCvn v).reg off' = s.reg off' := rfl

@[simp] theorem withPending_pending (q : List Instr) : (s.withPending q).pending = q := rfl
@[simp] theorem withPending_regs (q : List Instr) : (s.withPending q).regs = s.regs := rfl
@[simp] theorem withPending_bank0 (q : List Instr) : (s.withPending q).bank0 = s.bank0 := rfl
@[simp] theorem withPending_bank1 (q : List Instr) : (s.withPending q).bank1 = s.bank1 := rfl
@[simp] theorem withPending_occ (q : List Instr) : (s.withPending q).occ = s.occ := rfl
@[simp] theorem withPending_mode (q : List Instr) : (s.withPending q).mode = s.mode := rfl
@[simp] theorem withPending_recFromHandover (q : List Instr) : (s.withPending q).recFromHandover = s.recFromHandover := rfl
@[simp] theorem withPending_grave (q : List Instr) : (s.withPending q).grave = s.grave := rfl
@[simp] theorem withPending_time (q : List Instr) : (s.withPending q).time = s.time := rfl
@[simp] theorem withPending_crest (q : List Instr) : (s.withPending q).crest = s.crest := rfl
@[simp] theorem withPending_mainLost (q : List Instr) : (s.withPending q).mainLost = s.mainLost := rfl
@[simp] theorem withPending_draws (q : List Instr) : (s.withPending q).draws = s.draws := rfl
@[simp] theorem withPending_tabs (q : List Instr) : (s.withPending q).tabs = s.tabs := rfl
@[simp] theorem withPending_tbank0 (q : List Instr) : (s.withPending q).tbank0 = s.tbank0 := rfl
@[simp] theorem withPending_tbank1 (q : List Instr) : (s.withPending q).tbank1 = s.tbank1 := rfl
@[simp] theorem withPending_frames (q : List Instr) : (s.withPending q).frames = s.frames := rfl
@[simp] theorem withPending_nextId (q : List Instr) : (s.withPending q).nextId = s.nextId := rfl
@[simp] theorem withPending_ergs (q : List Instr) : (s.withPending q).ergs = s.ergs := rfl
@[simp] theorem withPending_fwd (q : List Instr) : (s.withPending q).fwd = s.fwd := rfl
@[simp] theorem withPending_busTurn (q : List Instr) : (s.withPending q).busTurn = s.busTurn := rfl
@[simp] theorem withPending_oas (q : List Instr) : (s.withPending q).oas = s.oas := rfl
@[simp] theorem withPending_sched (q : List Instr) : (s.withPending q).sched = s.sched := rfl
@[simp] theorem withPending_macs (q : List Instr) : (s.withPending q).macs = s.macs := rfl
@[simp] theorem withPending_lns (q : List Instr) : (s.withPending q).lns = s.lns := rfl
@[simp] theorem withPending_cvn (q : List Instr) : (s.withPending q).cvn = s.cvn := rfl
@[simp] theorem withPending_host (q : List Instr) : (s.withPending q).host = s.host := rfl
@[simp] theorem withPending_sram (q : List Instr) : (s.withPending q).sram = s.sram := rfl
@[simp] theorem withPending_pow (q : List Instr) : (s.withPending q).pow = s.pow := rfl
@[simp] theorem withPending_boot (q : List Instr) : (s.withPending q).boot = s.boot := rfl
@[simp] theorem withPending_posted (q : List Instr) : (s.withPending q).posted = s.posted := rfl
@[simp] theorem withPending_mon (q : List Instr) : (s.withPending q).mon = s.mon := rfl
@[simp] theorem withPending_ifc (q : List Instr) : (s.withPending q).ifc = s.ifc := rfl
@[simp] theorem withPending_flt (q : List Instr) : (s.withPending q).flt = s.flt := rfl
@[simp] theorem withPending_held (q : List Instr) : (s.withPending q).held = s.held := rfl
@[simp] theorem withPending_nvm (q : List Instr) : (s.withPending q).nvm = s.nvm := rfl

@[simp] theorem withPending_reg (q : List Instr) (off' : Nat) : (s.withPending q).reg off' = s.reg off' := rfl

end Sys2Proof.Machine.State
end

