-- ==== Sys2Proof/Laws/Ops.lean ====
section
/-! SUPPORT. What each shared operation can do to the state, said once. -/

namespace Sys2Proof.Machine.State

/-- An operation that writes immediate registers and nothing else. -/
def OnlyRegs (s t : State) : Prop := ∃ r, t = { s with regs := r }

theorem OnlyRegs.refl (s : State) : s.OnlyRegs s := ⟨s.regs, rfl⟩

theorem OnlyRegs.trans {s t u : State} (a : s.OnlyRegs t) (b : t.OnlyRegs u) : s.OnlyRegs u := by
  obtain ⟨_, rfl⟩ := a; obtain ⟨_, rfl⟩ := b; exact ⟨_, rfl⟩

theorem OnlyRegs.setReg {s t : State} (a : s.OnlyRegs t) (off v : Nat) : s.OnlyRegs (t.setReg off v) := by
  obtain ⟨_, rfl⟩ := a; exact ⟨_, rfl⟩

/-- Doing something for every element of a list keeps what each step keeps. -/
theorem each_induct {α : Type} {P : State → Prop} {f : State → α → State} (hf : ∀ s x, P s → P (f s x)) :
    ∀ (l : List α) (s : State), P s → P (s.each l f)
  | [], _, h => h
  | x :: l, s, h => each_induct hf l (f s x) (hf s x h)

theorem monAdd_only (s : State) (u k n : Nat) : s.OnlyRegs (s.monAdd u k n).1 := ⟨_, rfl⟩

theorem monWrapped_only (s : State) (u k w : Nat) : s.OnlyRegs (s.monWrapped u k w) := by
  unfold monWrapped
  split
  · exact .refl s
  · dsimp only
    split <;> exact ⟨_, rfl⟩

theorem monCount_only (s : State) (u k n : Nat) : s.OnlyRegs (s.monCount u k n) := by
  simp only [monCount]
  split
  · exact ((monAdd_only s u k n).trans (monAdd_only _ u (k + 1) _)).trans (monWrapped_only _ u (k + 1) _)
  · exact (monAdd_only s u k n).trans (monWrapped_only _ u k _)

/-- A monitor event counts in registers and changes nothing else. -/
theorem event_only (s : State) (u code n : Nat) (a : Attr) : s.OnlyRegs (s.event u code n a) := by
  unfold event
  split
  · exact .refl s
  · refine each_induct (P := s.OnlyRegs) (fun t k h => ?_) _ s (.refl s)
    dsimp only
    split
    · exact h.trans (monCount_only t u k n)
    · exact h

/-- An operation that writes immediate registers and the power controller's state and nothing else. -/
def OnlyPower (s t : State) : Prop := ∃ r p, t = { s with regs := r, pow := p }

theorem OnlyPower.refl (s : State) : s.OnlyPower s := ⟨s.regs, s.pow, rfl⟩

theorem OnlyPower.setReg {s t : State} (a : s.OnlyPower t) (off v : Nat) : s.OnlyPower (t.setReg off v) := by
  obtain ⟨_, _, rfl⟩ := a; exact ⟨_, _, rfl⟩

theorem OnlyPower.setPow {s t : State} (a : s.OnlyPower t) (p : Power) : s.OnlyPower (t.setPow p) := by
  obtain ⟨_, _, rfl⟩ := a; exact ⟨_, _, rfl⟩

theorem OnlyPower.setFld {s t : State} (a : s.OnlyPower t) (off lo w v : Nat) : s.OnlyPower (t.setFld off lo w v) := by
  unfold State.setFld; exact a.setReg off _

theorem OnlyPower.setBit {s t : State} (a : s.OnlyPower t) (off i : Nat) : s.OnlyPower (t.setBit off i) := by
  unfold State.setBit; exact a.setFld off i 1 1

theorem OnlyPower.bump {s t : State} (a : s.OnlyPower t) (off : Nat) : s.OnlyPower (t.bump off) := by
  unfold State.bump State.satFld; exact a.setFld off 0 32 _

/-- An abandoned entry changes registers only. -/
theorem OnlyPower.abandon {s t : State} (a : s.OnlyPower t) (d : Nat) : s.OnlyPower (t.abandonEntry d) :=
  (a.bump (PWR_D_ENTRY_ABORTED d)).setBit PWR_IRQ_STATUS 0

theorem OnlyPower.setPhase {s t : State} (a : s.OnlyPower t) (d st ph : Nat) : s.OnlyPower (t.setPhase d st ph) := by
  unfold State.setPhase
  exact ((a.setFld (PWR_D_STATUS d) 0 2 st).setFld (PWR_D_STATUS d) 2 2 ph).setPow _

/-- A wake changes registers and the power controller's state only. -/
theorem wake_only (s : State) (d : Nat) : s.OnlyPower (s.wake d) := by
  unfold wake
  split
  · exact .refl s
  · split
    · exact ((OnlyPower.refl s).setPhase d 0 0).abandon d
    · split
      · exact .refl s
      · split
        · split
          · exact ((OnlyPower.refl s).abandon d).setPow _
          · exact (OnlyPower.refl s).setPow _
        · exact (OnlyPower.refl s).setPhase d _ 2

/-- So does a demand. -/
theorem demand_only (s : State) (d : Nat) : s.OnlyPower (s.demand d) := by
  unfold demand
  split
  · exact wake_only s d
  · exact ⟨_, _, rfl⟩

/-- The state in which a served access finds the device differs from the one before only in immediate registers, in the power
controller's state and in the reads shown. -/
theorem arrived_only (s : State) (rq : Requester) (off code : Nat) :
    (s.setIfc { s.ifc with reads := [] }).OnlyPower (s.arrived rq off code) := by
  obtain ⟨r, p, h⟩ := demand_only (s.setIfc { s.ifc with reads := [] }) (domOfReg (viewOff off))
  obtain ⟨r', h'⟩ := event_only (s.accessing off) 6 code 1 (accessAttr rq off)
  refine ⟨r', p, ?_⟩
  rw [arrived, h', accessing, h]

end Sys2Proof.Machine.State
end

