-- ==== Sys2Proof/Laws/Bus.lean ====
section
/-! SUPPORT. What one register access does where the bus serves it at once. -/

namespace Sys2Proof.Machine.State

variable {s : State} {rq : Requester} {off : Nat}

/-- Where the count of a write cannot change the register, all of its value acts. -/
theorem settingWins_of_ne (s : State) (v : Nat) (a : Attr) (h : selfCounted off = false) : s.settingWins off v a = v := by
  simp only [selfCounted, Bool.or_eq_false_iff, beq_eq_false_iff_ne] at h
  simp [settingWins, h.1.2, h.2]

/-- A write that the bus serves at once is the write of the register, but of one that the count of its own write can change. -/
theorem busWrite_served (h : s.accepts rq off true) (hq : selfCounted (viewOff off) = false) (v : Word) :
    s.busWrite rq off v = (s.arrived rq off 2).registerWrite rq (viewOff off) v.toNat := by
  obtain ⟨h1, h2, h3, h4, h5⟩ := h
  have e : ∀ i, (s.setIfc i).accessError rq off true true = none := fun i => h4
  have a : ∀ i, (s.setIfc i).awake (domOfReg (viewOff off)) = true := fun i => h5
  have r : ∀ i, (s.setIfc i).inReset = false := fun i => h1
  have p : ∀ i, (s.setIfc i).pow.stalled = [] := fun i => h3
  have m : ¬ (rq = .mgmt ∧ (s.mode = .test ∨ s.mode = .safe)) := by
    rintro ⟨q, t | t⟩
    · exact (h2 q).1 t
    · exact (h2 q).2 t
  have mm : ∀ i, (s.setIfc i).mode = s.mode := fun i => rfl
  simp only [busWrite, busAccess, access, r, p, mm, m, atHead, Option.isSome, e, asleep, a, serve, serveWrite]
  have hc : ownCount (viewOff off) = false := by
    simp only [selfCounted, Bool.or_eq_false_iff] at hq; exact hq.1.1
  simp [hc, settingWins_of_ne _ _ _ hq, accessWord, arrived, accessing, busAttr, accessAttr]

/-- A read that the bus serves at once is the read of the register, whose value completes it. -/
theorem busRead_served (h : s.accepts rq off false) :
    s.busRead rq off =
      ((s.arrived rq off 1).registerRead rq (viewOff off) (inMirror off)).1.readDone rq off true
        (((s.arrived rq off 1).registerRead rq (viewOff off) (inMirror off)).2 % 2 ^ 32) := by
  obtain ⟨h1, h2, h3, h4, h5⟩ := h
  have e : ∀ i, (s.setIfc i).accessError rq off false true = none := fun i => h4
  have a : ∀ i, (s.setIfc i).awake (domOfReg (viewOff off)) = true := fun i => h5
  have r : ∀ i, (s.setIfc i).inReset = false := fun i => h1
  have p : ∀ i, (s.setIfc i).pow.stalled = [] := fun i => h3
  have m : ¬ (rq = .mgmt ∧ (s.mode = .test ∨ s.mode = .safe)) := by
    rintro ⟨q, t | t⟩
    · exact (h2 q).1 t
    · exact (h2 q).2 t
  have mm : ∀ i, (s.setIfc i).mode = s.mode := fun i => rfl
  simp only [busRead, busAccess, access, r, p, mm, m, atHead, Option.isSome, e, asleep, a, serve, accessWord, busAttr, arrived,
    accessing, accessAttr]
  simp

/-- A write of an immediate register stores its fields and then has the effects of its block. -/
theorem registerWrite_immediate {r : RegRow} {i base : Nat} {b : Block} (hr : findReg off = some (r, i))
    (hb : blockOf off = some (b, base)) (hs : r.staged = false) (ha : aoServed off = false) (hc : off ≠ CRS_COMMIT)
    (hi : s.ignoresWrite rq off = false) (v : Nat) :
    s.registerWrite rq off v = (s.storing off v).written rq b (off - base) (s.reg off) v s.coupleMode := by
  simp [registerWrite, hi, portWrite, hr, hb, hs, immediateWrite, ha, hc, storing]

/-- A write of such a register that the bus serves at once and no rule ignores. -/
theorem busWrite_plain {b : Block} {base : Nat} (h : s.accepts rq off true) (hp : plainReg off = some (b, base))
    (hi : ∀ u : State, u.mode = s.mode → u.ignoresWrite rq off = false) (v : Word) :
    s.busWrite rq off v =
      ((s.arrived rq off 2).storing off v.toNat).written rq b (off - base) ((s.arrived rq off 2).reg off) v.toNat
        (s.arrived rq off 2).coupleMode := by
  have hm : (s.arrived rq off 2).mode = s.mode := by
    obtain ⟨_, _, e⟩ := arrived_only s rq off 2
    rw [e]; rfl
  unfold plainReg at hp
  split at hp
  · rename_i r i x hr hb
    split at hp
    · cases hp
    · rename_i hn
      simp only [Bool.or_eq_true, beq_iff_eq, not_or, Bool.not_eq_true] at hn
      cases hp
      have hv : viewOff off = off := by simp [viewOff, hn.2]
      rw [busWrite_served h (hv.symm ▸ hn.1.2), hv, registerWrite_immediate hr hb hn.1.1.1.1 hn.1.1.1.2 hn.1.1.2 (hi _ hm)]
  · cases hp

end Sys2Proof.Machine.State
end

