-- ==== Sys2Proof/Laws/Vectors.lean ====
section
/-! SUPPORT. How every command ends: the vectors in service (R364). -/

namespace Sys2Proof.Machine.State

/-- A vector's condition does not look at the vectors in service. -/
theorem vecCond_service (s : State) (l : List Nat) (v : Nat) :
    (s.setIfc { s.ifc with service := l }).vecCond v = s.vecCond v := rfl

/-- Settling leaves in service just the vectors whose condition holds. -/
theorem vecSettle_sound (s : State) : s.vecSettle.serviceSound := by
  intro v hv
  exact (List.mem_filter.mp hv).2

/-- Settling changes the vectors in service and nothing else. -/
theorem vecSettle_only (s : State) : ∃ l, s.vecSettle = s.setIfc { s.ifc with service := l } := ⟨_, rfl⟩

/-- A settling before the end of a command changes nothing of what the command ends with. -/
theorem vecSettle_finished (s : State) : s.vecSettle.finished = s.finished := by
  show (s.setIfc { s.ifc with service := s.ifc.service.filter s.vecCond }).finished = s.finished
  have h : (s.setIfc { s.ifc with service := s.ifc.service.filter s.vecCond }).finished =
      s.finished.setIfc { s.ifc with service := (s.ifc.service.filter s.vecCond).filter s.vecCond } := rfl
  rw [h, List.filter_filter]
  simp only [Bool.and_self]
  rfl

/-- What `finish` answers. -/
theorem finish_next (s : State) : finish s = .next s.finished := rfl

/-- A command that ends with `finish` answers a state whose vectors in service are sound. -/
theorem finish_sound {s t : State} (h : finish s = .next t) : t.serviceSound := by
  cases h; exact s.idleSettle.vecSettle_sound

/-- The end of a command changes the idle times and the vectors in service and nothing else. -/
theorem finished_only (s : State) : ∃ i l, s.finished = (s.setPow { s.pow with idle := i }).setIfc { s.ifc with service := l } :=
  ⟨_, _, rfl⟩

end Sys2Proof.Machine.State
end

