-- ==== Sys2Proof/Tests/Slice0.lean ====
section
/-! SUPPORT. Tests: ill-formed commands that are refused, states and operands that meet the hypotheses of each statement
clause by clause, and single commands whose result the spec or a published standard gives. -/

namespace Sys2Proof.Tests

open Sys2Proof.Machine State

set_option maxRecDepth 20000
set_option Elab.async false

/-! ### States that the tests start from -/

/-- The device in RUN with one free buffer of 192 bytes. -/
def run : State :=
  { State.reset with mode := .run, oas := { pools := [[[0]], [], [], []], free := [(1, 196608)] } }

/-- A frame of 60 bytes without its FCS. -/
def body : Bytes := beBytes 6 0x020000000001 ++ beBytes 6 0x020000000002 ++ beBytes 2 0x0800 ++ List.replicate 46 0

/-- It with a VLAN tag. -/
def tagged : Bytes := body.take 12 ++ beBytes 4 0x81000005 ++ body.drop 12

/-- It as it arrives on port 3. -/
def frame0 : Frame := { id := 0, port := 3, bytes := withFcs body, bank := false, cnt := [0, 0, 0, 0], raw := [0, 0, 0, 0], order := 0 }

/-- RUN with the link of port `p` up. -/
def up (p : Nat) : State := if p < 32 then run.setFld (LNE_L_STATE p) 0 3 4 else run.setCfg false (MAC_FLD_CFG p) 1

/-- A frame of firmware waits on class 0 of port `p`. -/
def sent (p : Nat) : State := (up p).sendDirect body p 0 6 none false

/-- RUN with the lane of port `p` in a state. -/
def lane (p st : Nat) : State := run.setFld (LNE_L_STATE p) 0 3 st

/-- RUN with the crest in a phase. -/
def crestIn (c : CrestPhase) : State := run.setCrest { run.crest with phase := c }

/-- RUN with a commit armed for T* on time base 0. -/
def crestAt (tstar : Nat) : State := run.setCrest { run.crest with phase := .armed, tb := 0, tstar }

/-- The power controller decides. -/
def ranLow (s : State) : State := s.setPow { s.pow with ran := true }

/-- The state that a command answers with. -/
def after (i : Instr) (s : State) : State := match exec i s with
  | .next t => t
  | _ => s

/-- A fragment of the frame, ten cycles after what was before it, with nothing wrong in it. -/
def piece (start final : Bool) (count : Nat) (b : Bytes) : Fragment :=
  { start, total := 64, codeErr := false, fecCorr := 0, fecUncorr := 0, fecSym := [], count, final, mcrcOk := true, wait := 0,
    dev := 0, bytes := b }

/-- The power controller decides, and the idle time of a domain runs out now. -/
def idling (d : Nat) (s : State) : State :=
  let s := ranLow s
  s.setPow { s.pow with idle := s.pow.idle.set d (some s.time.clk) }

abbrev tx0 : TxStart := { wait := 0, dev := 0, ecc := .good }

/-! ### WellFormed refuses an ill-formed term for each of its checks -/

def illFormed : List Instr := [
  .tbSet .host 4, .txtsPop .host 64, .tioCaptureEdge 4 true 0 0, .tioCaptureEdge 0 true 0 1025, .tioOutputEdge 4,
  .reloadLimitExpire 17, .laneRestart .host 8 0, .laneRestart .host 0 16, .quadRefLoss 8 true, .laneSignalDetect 32,
  .frameRxStart { port := 64, wait := 0, dev := 0, bytes := body }, .frameRxStart { port := 0, wait := 0, dev := 2049, bytes := body },
  .frameRxStart { port := 40, wait := 0, dev := 10241, bytes := body }, .frameRxStart { port := 0, wait := 0, dev := 0, bytes := [] },
  .pauseApply 32, .pauseExpire 0 9, .frameTransmitStart 69 tx0, .frameTransmitStart 68 { tx0 with dev := -1025 },
  .frameTransmitEnd 69 0, .eeeLpiEnter 32, .preemptVerifySend 32,
  .preemptFragmentRx 32 (piece true false 0 body), .preemptFragmentRx 0 { piece true false 0 body with total := 59 },
  .fieldCollision 31 0, .fieldBackoffExpire 64 tx0, .macStatClear .host 69, .parseDispatch 4, .parseComplete 0 8,
  .tableRead { chan := 4, desc := 0, lost := false, records := [], fail := none },
  .tableWrite { chan := 0, desc := 2 ^ 512, lost := false, records := [], fail := none }, .holdCheck 8192, .claimForget 4,
  .cvnRingEnable .host 2 0, .poolCarve ⟨4, none⟩, .gateEntryChange 69, .domainIdleExpire 22, .perfReqWrite .host 4 0, .pllLockLoss 7,
  .mgmtSramEccError (2 ^ 21) true, .registerWrite .host (2 ^ 64) 0 true, .registerRead .host (2 ^ 64) true,
  .ringEnable .host 36 0, .txDescriptorFetch { ring := 16, wait := 0, desc := 0, lost := false, bytes := [], fail := false },
  .txDescriptorFetch { ring := 0, wait := 0, desc := 2 ^ 256, lost := false, bytes := [], fail := false }, .msixMessage 64,
  .monCountWrite .host 7 0 0, .monCountWrite .host 0 8 0, .lldpSend 64 []]

theorem test_illFormed_refused : illFormed.all (fun i => !i.wf) = true := by decide +kernel

theorem test_wellFormed_accepted : [Instr.tbSet .host 3, .frameRxStart { port := 63, wait := 0, dev := -10240, bytes := body },
    .macStatClear .mgmt 68, .domainIdleExpire 21, .ringEnable .mgmt 35 0].all Instr.wf = true := by decide +kernel

/-! ### Witnesses: time -/

theorem witness_TimeBaseCommands : (3 < 4 ∧ 63 < 64 ∧ run.accepts .host (TMB_TB_CMD 3) true ∧ run.accepts .mgmt (TMB_TB_TRIM 3) true ∧
    run.accepts .host TMB_SNAP true ∧ run.accepts .host (TMB_TXTS_HI 63) false) ∧
    (after (.tmbSnapTake .host) run).time.snap.isSome = true := by
  unfold State.accepts; decide +kernel

theorem witness_SetAndStep : run.time.cnt.length = 4 ∧ run.timeHeld = false := by decide +kernel

theorem witness_CaptureEdge : let s := run.setReg (TMB_TIO 3) 0x11
    3 < 4 ∧ (s.elapse 0).mode ≠ .safe ∧ s.tioMode 3 = 1 ∧ s.tioSelects 3 true = true ∧
      (s.elapse 0).rbit (TMB_TIO_STATUS 3) 0 = false ∧
    (after (.tioCaptureEdge 3 true 0 1024) s).rbit (TMB_TIO_STATUS 3) 0 = true ∧
    (({ s with mode := .safe } : State).elapse 0).mode = .safe := by decide +kernel

theorem witness_PulseAndKeeper : (let s := run.setReg (TMB_TIO 3) 2
    s.tioMode 3 = 2 ∧ s.mode ≠ .safe ∧ ((after (.tioOutputEdge 3) s).tio 3).pulseEnd.isSome = true) ∧
    (let s : State := { run with time := { run.time with clk := 250000000, cnt := [secUnit, 0, 0, 0] } }
     s.mainLost = false ∧ s.timeHeld = false ∧ s.atRollover = true) ∧
    (2 ^ 24 : Int) ≤ { run.time with acc := 2 ^ 24 }.acc ∧ { run.time with acc := -1 }.acc < 0 := by decide +kernel

theorem witness_NextPulseEdge : 0 < 1 ∧ 7 < 8 + 0 * 1 := by decide

/-! ### Witnesses: the crest -/

theorem witness_CrestArming : (run.accepts .host CRS_COMMIT true ∧ run.crest.phase = .opened ∧ run.commitMode = true ∧ bit 4 1 = false) ∧
    ((crestIn .draining).accepts .mgmt CRS_COMMIT true ∧ (crestIn .draining).crest.phase ≠ .opened ∧ bit 1 1 = false) ∧
    bit 2 1 = true ∧
    (let s := crestAt 5000
     s.accepts .host CRS_COMMIT true ∧ s.crest.phase = .armed ∧ s.mode ≠ .safe ∧
       decide (s.crest.tstar ≤ totalNs (s.count s.crest.tb)) = false) ∧
    (let s := crestAt 0
     s.accepts .host CRS_COMMIT true ∧ s.crest.phase = .armed ∧ s.mode ≠ .safe ∧
       decide (s.crest.tstar ≤ totalNs (s.count s.crest.tb)) = true) := by
  unfold State.accepts; decide +kernel

/-- R77: ABORT before T* opens the crest again and sets ABORTED; at T* the commit is made. -/
theorem test_abort : (let t := after (.crsAbort .host 2) (crestAt 5000)
    t.crest.phase = .opened ∧ t.rbit CRS_STATUS 7 = true) ∧
    (let t := after (.crsAbort .host 2) (crestAt 0)
     t.crest.phase = .draining ∧ t.crest.bank = true ∧ t.rbit CRS_STATUS 7 = false) := by decide +kernel

theorem witness_CrestCommit : (crestIn .armed).crest.phase = .armed ∧ (crestIn .armed).mode ≠ .safe := by decide +kernel

theorem witness_CrestDrain : let s := crestIn .draining
    s.crest.phase = .draining ∧ s.drainCount (!s.crest.bank) = 0 ∧ s.crest.limitPassed = false := by decide +kernel

theorem witness_Reconcile : (crestIn .reconciling).crest.phase = .reconciling := rfl

theorem witness_ScrubAndReload : run.crest.passing = true ∧ (run.setBit CRS_RELOAD 16).rbit CRS_RELOAD 16 = true ∧
    ((run.setBit CRS_CAIRN_CTL 0).rbit CRS_CAIRN_CTL 0 = true ∧ (run.setBit CRS_CAIRN_CTL 0).servicesRun = true) := by
  decide +kernel

theorem witness_StagedWrites : run.accepts .host (MAC_CFG 0) true ∧ inMirror (MAC_CFG 0) = false ∧
    (findReg (MAC_CFG 0)).any (fun x => x.1.staged) = true ∧ run.ignoresWrite .host (MAC_CFG 0) = false ∧
    run.crest.phase = .opened ∧ (crestIn .armed).accepts .host (MAC_CFG 0) true ∧ (crestIn .armed).crest.phase ≠ .opened := by
  unfold State.accepts; decide +kernel

/-! ### Witnesses: lanes -/

/-- A partner that advertises `techs` and wants no FEC. -/
def partner (techs : List Tech) : Partner := { techs, baseR := false, baseRReq := false, rs := false, rsReq := false, pause := 0 }

theorem witness_LaneStart : (let s := (lane 31 0).setFld (LNE_QUAD_STATUS 7) 0 2 3
    s.laneMoves 31 = true ∧ s.laneOf 31 = 31 ∧ s.laneOn 31 = true ∧ s.laneState 31 = 0 ∧ s.quadReady 31 = true) ∧
    ((lane 31 1).laneMoves 31 = true ∧ (lane 31 1).laneState 31 = 1 ∧ (lane 31 1).common 31 (partner [.kr25, .cr25, .kr10, .kr4, .cr4]) = true ∧
      (lane 31 1).common 31 (partner []) = false) ∧
    (let s := (lane 31 2).setCfg false (LNE_L_CFG 31) 0x20
     s.laneMoves 31 = true ∧ s.laneState 31 = 2 ∧ s.trains 31 = true) ∧
    (let s := (lane 31 2).setCfg false (LNE_L_CFG 31) 0
     s.laneMoves 31 = true ∧ s.laneState 31 = 2 ∧ s.trains 31 = false) ∧
    ((lane 31 5).laneMoves 31 = true ∧ 3 ≤ (lane 31 5).laneState 31 ∧ (lane 31 5).laneState 31 ≤ 5) ∧
    (let s := (lane 28 3).setCfg false (LNE_QUAD_CFG 7) 1
     s.laneMoves 28 = true ∧ s.laneOf 31 = 28 ∧ s.laneState 28 = 3 ∧ s.quad100 s.crest.bank 28 = true ∧
      ¬ 180 < [0, 180].foldl max 0 ∧ 180 < [0, 181].foldl max 0) := by decide +kernel

theorem witness_LanePower :
    (let s := idling 13 (((lane 0 4).setReg (LNE_L_LOW 0) 1).setFld (MAC_EEE_STATUS 0) 0 2 3)
     s.laneMoves 0 = true ∧ s.powerRuns = true ∧ s.want (domQuad (0 / 4)) ≠ 2 ∧ (s.idleEnd (domQuad (0 / 4))).isSome = true ∧
      s.laneState 0 = 4 ∧ s.rf (LNE_L_LOW 0) 0 2 = 1 ∧ s.rbit (MAC_EEE_STATUS 0) 0 = true) ∧
    (let s := idling 13 ((lane 0 0).setReg (LNE_L_LOW 0) 2)
     s.laneMoves 0 = true ∧ s.powerRuns = true ∧ s.want (domQuad (0 / 4)) ≠ 2 ∧ (s.idleEnd (domQuad (0 / 4))).isSome = true ∧
      s.laneState 0 ≠ 6 ∧ s.rf (LNE_L_LOW 0) 0 2 = 2) ∧
    ((lane 0 5).laneMoves 0 = true ∧ (lane 0 5).laneState 0 = 5) ∧ ((lane 0 6).laneMoves 0 = true ∧ (lane 0 6).laneState 0 = 6) ∧
    (let s := run.setFld (PWR_D_STATUS 20) 0 2 1
     s.domState (domQuad (31 / 4)) = 1 ∧ s.pow.signal.contains (31 / 4) = false) := by decide +kernel

theorem witness_LaneFailures : ((lane 0 1).laneMoves 0 = true ∧ (lane 0 1).laneOf 0 = 0 ∧ (lane 0 1).laneState 0 = 1) ∧
    (let s := (lane 0 2).setCfg false (LNE_L_CFG 0) 0x20
     s.laneMoves 0 = true ∧ s.laneState 0 = 2 ∧ s.trains 0 = true) ∧
    ((lane 0 3).laneMoves 0 = true ∧ (lane 0 3).laneState 0 = 3) ∧ ((lane 0 4).laneMoves 0 = true ∧ (lane 0 4).laneState 0 = 4) ∧
    ((lane 0 5).laneMoves 0 = true ∧ (lane 0 5).laneState 0 = 5) ∧
    7 < 8 ∧ run.allDeep 7 = false ∧ ((List.range 4).foldl (fun s l => s.setFld (LNE_L_STATE (28 + l)) 0 3 6) run).allDeep 7 = true ∧
    run.accepts .host (LNE_QUAD_CTL 7) true ∧ 15 < 16 := by
  unfold State.accepts; decide +kernel

theorem witness_PrbsCommands : (let s := { run with mode := .test }.setReg (LNE_L_TEST 31) 0x38
    31 < 32 ∧ s.prbsOn 31 = true ∧ (s.setBit (LNE_L_PRBS_STATUS 31) 0).rbit (LNE_L_PRBS_STATUS 31) 0 = true) ∧
    (let s := (lane 31 4).setFld (LNE_QUAD_STATUS 7) 0 2 3
     s.lanesRun 31 = true ∧ s.laneOn 31 = true ∧ s.awake (domQuad (31 / 4)) = true ∧ s.quadReady 31 = true ∧ s.mode ≠ .test ∧
      s.txSignal 31 = .frames) ∧
    (let s := ({ run with mode := .test }.setReg (LNE_L_TEST 31) 0x03).setFld (LNE_QUAD_STATUS 7) 0 2 3
     s.lanesRun 31 = true ∧ s.laneOn 31 = true ∧ s.awake (domQuad (31 / 4)) = true ∧ s.quadReady 31 = true ∧ s.mode = .test ∧
      s.txSignal 31 = .prbs 3) ∧
    512 ≤ 512 ∧ 512 < 513 ∧ 1024 ≤ 1024 ∧ run.accepts .mgmt (LNE_L_TEST 31) true := by
  unfold State.accepts; decide +kernel

/-! ### Witnesses: ports and MACs -/

theorem witness_FrameArrives : (up 63).mayReceive 63 = true ∧
    (let s := { run with frames := [frame0] }
     s.frame 0 = some frame0 ∧ frame0.lastIn = false ∧ frame0.port < 64 ∧ s.reassembling frame0 = false) ∧
    (let s := (up 31).setCfg false (MAC_PREEMPT_CFG 31) 1
     31 < 32 ∧ s.mayReceive 31 = true ∧ (s.mac 31).reasm = none ∧
      ((s.newFrame 31 0 (reasmBytes body 64)).frame 0).any (fun g => s.cbit g.bank (MAC_PREEMPT_CFG 31) 0) = true ∧
      (let t := after (.preemptFragmentRx 31 (piece true false 0 body)) s
       t.mayReceive 31 = true ∧ ((t.mac 31).reasm.any fun r => r.next == 4 % 4 && (t.frame r.frame).isSome) = true)) := by
  decide +kernel

theorem witness_AcceptedFrame : let s := run.setCfg false (MAC_CFG 3) 3
    s.rxReason frame0 false false false = .ok := by decide +kernel

theorem witness_PauseAndLowPower : (run.setMac 31 { pause := some (some 65535, 0, []) }).mac 31 = { pause := some (some 65535, 0, []) } ∧
    (run.setMac 0 { pause := some (none, 255, [1, 2]) }).mac 0 = { pause := some (none, 255, [1, 2]) } ∧
    (run.setBit (MAC_FC_STATUS 0) 0).rbit (MAC_FC_STATUS 0) (pauseBit 8) = true ∧
    (let s := (run.setBit (MAC_FC_STATUS 0) 8).setMac 0 { ends := List.replicate 9 (2 ^ 40) }
     (((List.range 9).filter fun k => s.rbit (MAC_FC_STATUS 0) (pauseBit k) &&
      Nat.blt ((s.mac 0).since.getD k 0 + s.rf (MAC_PAUSE_WDOG 0) 0 10 * 250000) ((s.mac 0).ends.getD k 0)).map fun k =>
        (s.mac 0).since.getD k 0).min? = some 0) ∧
    (run.setBit (MAC_FC_STATUS 0) 1).rbit (MAC_FC_STATUS 0) 1 = true ∧
    (let s := (up 31).setCfg false (MAC_EEE_CFG 31) 1
     s.eeeOn 31 = true ∧ s.laneState 31 = 4 ∧ s.rbit (MAC_EEE_STATUS 31) 0 = false ∧ (s.mac 31).waking = false ∧
      (s.mac 31).tx = none ∧ (s.mac 31).held = none ∧ s.quadVoted 31 = false ∧ s.nextQueue 31 = none) ∧
    ((sent 3).nextQueue 3).isSome = true ∧ (run.setMac 31 { waking := true }).mac 31 = { waking := true } := by decide +kernel

theorem witness_TransmitCommands : (let s := sent 3
    (s.mac 3).backoff = none ∧ s.mayTransmit 3 = true ∧ ((s.noteWithheld 3).mac 3).tx = none ∧
      (s.noteWithheld 3).nextQueue 3 = some 24) ∧
    (let s := after (.frameTransmitStart 3 tx0) (sent 3)
     (s.mac 3).tx.any fun t => (s.txCopy t).any fun c => (s.frame c.frame).any (·.lastIn)) = true := by decide +kernel

theorem witness_VerifyCommands : let s := (up 31).setFld (MAC_PREEMPT_STATUS 31) 0 3 2
    31 < 32 ∧ s.rf (MAC_PREEMPT_STATUS 31) 0 3 = 2 ∧ s.laneState 31 = 4 ∧ (s.mac 31).verifies < 3 ∧
      3 ≤ ((s.setMac 31 { verifies := 3 }).mac 31).verifies := by decide +kernel

theorem witness_FieldCommands : isField 32 = true ∧ isField 63 = true ∧
    (let s := after (.frameTransmitStart 40 tx0) (sent 40)
     (s.mac 40).tx.any (fun t => (s.txCopy t).any fun c => c.coll < 15) = true ∧
     (let x := s.setOas { s.oas with copies := s.oas.copies.map fun c => { c with coll := 15 } }
      (x.mac 40).tx.any (fun t => (x.txCopy t).any fun c => 15 ≤ c.coll) = true) ∧
     (let b := after (.fieldCollision 40 64) s
      let b := b.setMac 40 { b.mac 40 with backoffAt := 0 }
      let b := b.elapse ((b.mac 40).backoffAt - b.time.clk)
      (b.mac 40).backoff.isSome = true ∧ b.mayTransmit 40 = true ∧ (b.mac 40).tx = none ∧
      (((b.mac 40).backoff.bind fun id => b.oas.copies.find? fun c => c.id == id).any fun c =>
        (b.setMac 40 { b.mac 40 with backoff := none }).queueReady 40 c.queue &&
          (b.setMac 40 { b.mac 40 with backoff := none }).headCopy c.queue == some c) = true)) ∧
    (run.mac 63).backoff = none ∧ run.rbit (MAC_FLD_STATUS 63) 3 = false ∧
    ((run.setMac 63 { window := some 0 }).mac 63).window = some 0 ∧
    (let s := run.setFld (MAC_FLD_STATUS 63) 0 2 2
     s.fieldMode 63 = 2 ∧ s.cf s.crest.bank (MAC_FLD_DWELL 63) 0 16 ≠ 0) ∧
    (run.setFld (MAC_FLD_STATUS 32) 0 2 1).fieldMode 32 = 1 ∧ run.accepts .host (MAC_FLD_CTL 63) true ∧
    run.accepts .mgmt (MAC_STAT_CTL 68) true := by
  unfold State.accepts; decide +kernel


/-! ### Witnesses: parsing, lookup, the caravan and the oasis -/

/-- The frame has arrived whole on port 3 and waits for an engine. -/
def waiting : State := { run with frames := [{ frame0 with lastIn := true, looked := true }], nextId := 1 }

/-- A second pass waits on queue 65 × 8. -/
def looping : State := run.sendDirect body 65 0 6 none false

theorem witness_ParserCommands : waiting.forwarding = true ∧ (waiting.prs 0).paused = false ∧ waiting.awake (domErg 0) = true ∧
    (waiting.setPrs 0 { waiting.prs 0 with paused := true }).reorderFill 0 < 64 ∧
    ((waiting.ergFrames 0).any fun f => f.stage == .engine (waiting.prs 0).turn) = false ∧
    (earliest ((waiting.ergFrames 0).filter waiting.dispatchable)).isSome = true ∧
    (let s := after (.parseDispatch 0) waiting
     ((s.ergFrames 0).find? fun f => f.stage == .engine 0).isSome = true ∧
     (s.prs 0).released.any (Nat.blt frame0.order) = false ∧ s.reorderFill 0 < 64 ∧
     ((s.setPrs 0 { s.prs 0 with released := some 1 }).prs 0).released.any (Nat.blt frame0.order) = true) ∧
    (let r := { waiting with frames := [{ frame0 with lastIn := true, stage := .reorder }] }
     (r.nextRelease 0).any (·.stage == .reorder) = true ∧
     ((r.elapseToRaw (frame0.order * nsUnit)).nextRelease 0).any (fun g => g.id == frame0.id) = true) ∧
    (let full := { waiting with frames := (List.range 65).map fun i =>
        { frame0 with id := i, lastIn := true, stage := if i = 64 then .engine 0 else .reorder } }
     64 ≤ full.reorderFill 0 ∧ ((full.ergFrames 0).find? fun f => f.stage == .engine 0).isSome = true ∧
     (full.prs 0).released.any (Nat.blt frame0.order) = false) := by decide +kernel

theorem witness_EarliestFrame : earliest [frame0] = some frame0 := by decide +kernel

/-- The head of port 65 is the frame of a decision that strips. -/
def stripping : State := { looping with frames := looping.frames.map fun f => { f with dec := { f.dec with strip := some 1 } } }

/-- The copy that port 65 chooses, if it is one of the device's own frames or not. -/
def chosen (s : State) : Option Copy := (s.portChoice 65 (s.backlog 65)).bind fun o => s.headCopy o.queue

theorem witness_SecondPass : looping.forwarding = true ∧ 0 < 4 ∧ looping.awake domOasis = true ∧ looping.awake domSched = true ∧
    (chosen looping).any (fun c => (looping.frame c.frame).any fun f => f.dec.strip == none) = true ∧
    (chosen stripping).any (fun c => (stripping.frame c.frame).any fun f => f.dec.strip.isSome && c.own.isNone) = true := by
  decide +kernel

/-- R156: the frame comes back once, marked as a second pass. -/
theorem test_second_pass : (after (.wadiReturn ⟨0, .good⟩) stripping).frames.map (·.second) = [true] := by decide +kernel

/-- A tagged frame, whose destination and VLAN an express entry of its erg names, if there is one. -/
def expressing (entry : Nat) : State :=
  ({ run with frames := [{ frame0 with lastIn := true, bytes := withFcs tagged }] }.setCfg false (ERG_SEIF_CFG 0) 1).setTab tblExpress
    0 0 entry

/-- The key of its frame. -/
def expressKey (s : State) : Option SeifKey := (s.frame 0).bind fun f => s.seifKey { f with looked := true } 0

/-- The express decision of the frame: whether it is discarded, and whether it takes the seif path. -/
def expressWay (s : State) : Option (Bool × Bool) := (expressKey s).bind fun k => (s.frame 0).bind fun f =>
  let g := { f with looked := true }
  ((s.expressHit g 0 k).filter fun _ => !s.meterHeld g 0 k).map fun x =>
    let d := (s.elapseToRaw (s.meterInstant g k * nsUnit)).expressDecide g 0 x k
    (d.2.discarded, d.1.seifPath { g with dec := d.2 } k)

/-- An express entry of port 3 for the frame's destination, whatever its VLAN, that sends to port `p`. -/
def expressEntry (p : Nat) : Nat := 3 + 0x020000000001 * 16 + 2 ^ 64 + p * 2 ^ 65 + 2 ^ 190

theorem witness_ExpressLookup : (let s := expressing (expressEntry 0)
    s.forwarding = true ∧ (s.frame 0).any (fun f => f.stage == .waiting && !f.looked && s.seifReads f && !s.notParsed f &&
        s.awake (domErg (ergOf f.port))) = true ∧ s.rbit CRS_RELOAD 10 = false ∧
      expressWay s = some (false, false) ∧ expressWay (expressing (expressEntry 3)) = some (true, false)) ∧
    (let s := expressing 0
     (expressKey s).any (fun k => (s.frame 0).any fun f => (s.expressHit { f with looked := true } 0 k).isNone) = true) ∧
    (let s := { expressing 0 with frames := [{ frame0 with lastIn := true, bytes := frame0.bytes.take 14 }] }
     expressKey s = none) := by decide +kernel

theorem witness_WadiFrame : 4 ≤ frame0.bytes.length ∧ (frame0.dec.strip.bind frame0.parse.anchor).getD 0 = 0 ∧
    0 + 4 ≤ frame0.bytes.length := by decide +kernel

/-- An event waits in the source queue of erg 0. -/
def learning : State := run.setFw 0 { source := [⟨1, 0x020000000001, 3, 0⟩] }

theorem witness_LearnBus : learning.awake domOasis = true ∧
    ((List.range 4).map fun i => (learning.busTurn + i) % 4).find? learning.mayLearn = some 0 ∧
    (learning.fw 0).source = [⟨1, 0x020000000001, 3, 0⟩] ∧ learning.fwd.length = 4 ∧
    ((List.range 4).map fun i => (run.busTurn + i) % 4).find? run.mayLearn = none := by decide +kernel

/-- R172: one event of erg 0 reaches the four inbound queues. -/
theorem test_learn_bus : (let t := after .learnBusDeliver learning
    (t.fwd.map (·.inbound.length), t.fwd.map (·.source.length), t.busTurn)) = ([1, 1, 1, 1], [0, 0, 0, 0], 1) := by decide +kernel

theorem witness_LearnAndAge : let s := after .learnBusDeliver learning
    let ev : LearnEvent := ⟨1, 0x020000000001, 3, 0⟩
    let l := s.setFw 3 { s.fw 3 with lock := some ⟨.host, 0, 131135, 0⟩ }
    s.ergOn 3 = true ∧ (s.fw 3).inbound = [ev] ∧ (s.eventWrites 3 ev).any (s.locked 3) = false ∧
      (l.eventWrites 3 ev).any (l.locked 3) = true ∧ (l.fw 3).headHeld = false ∧ s.locked 3 (s.fw 3).scan = false ∧
      l.locked 3 (l.fw 3).scan = true ∧ (s.setBit (ERG_FWD_AGE 3) 20).rbit (ERG_FWD_AGE 3) 20 = true := by decide +kernel

/-- Channel 35 enabled with one descriptor posted, and Bus Master Enable. -/
def channel35 : State := ((run.setReg (chanBase 35) 0x19).setReg (chanBase 35 + 0x10) 1).setBit (HST 0) 9

/-- A request of an operation on the forwarding table of erg 0. -/
def request (op : Nat) : TableReq := { chan := 3, desc := op + 0x10 * 16, lost := false, records := [], fail := none }

theorem witness_TableRequests : ∀ op < 9, let t := request op
    let r := decodeRequest t.desc
    t.chan < 4 ∧ channel35.mode ≠ .safe ∧ (channel35.pow.waiting.any fun w => w.req.chan == t.chan) = false ∧ channel35.chanOn 35 = true ∧ channel35.chanPosted 35 = true ∧ channel35.bme = true ∧
      t.lost = false ∧ sramBeyond (channel35.chanSram 35) (channel35.chanDesc 35 64) 64 = false ∧
      (requestDomains r).all channel35.awake = true ∧ r.op = op := by decide +kernel

theorem witness_TableRequests_wait : let s := channel35.setFld (PWR_D_STATUS 6) 0 2 1
    let r := decodeRequest (request 0).desc
    (requestDomains r).all (s.each (requestDomains r) fun s d => s.demand d).awake = false ∧ s.chanOn 35 = true ∧
      s.chanPosted 35 = true ∧ s.bme = true := by decide +kernel

theorem witness_CrestedTableWrite : run.crest.phase = .opened ∧ (crestIn .armed).crest.phase ≠ .opened := by decide +kernel

theorem witness_TableReads : (decodeRequest 0).op = 0 := by decide +kernel

/-- A shadow whose header names no crest and counts one descriptor, of erg 3's parse nodes with one record. -/
def shadow (fail : Bool) (record : Nat) : Shadow :=
  { header := 2 ^ 32, place := 0, desc := 0x01 + 3 * 2 ^ 16 + 16 * 2 ^ 24 + 2 ^ 32 + 24 * 2 ^ 64, item := 0, record, fail }

/-- RUN with the mirage check of erg 3 on, its shadow in the SRAM. -/
def mirrored : State := run.setReg (ERG_MIR_CTL 3) 3

theorem witness_LockAndMirage : 3 < 4 ∧ ((run.setFw 3 { lock := some ⟨.mgmt, 0, 127, 0⟩ }).fw 3).lock = some ⟨.mgmt, 0, 127, 0⟩ ∧
    (let u := mirrored.mirageBegin 3 (shadow false 0).header
     (u.fw 3).mir.running = true ∧ u.mirageOn 3 = true) ∧
    (let w := (mirrored.mirageBegin 3 (shadow false 0).header).mirageWait 3
     let x := w.setTab 0x01 3 0 (2 ^ 127 + 2 ^ 126)
     w.mirageBad 3 (shadow true 0) = true ∧ w.mirageBad 3 (shadow false 0) = false ∧ w.mirageFinds 3 0x01 0 0 = [] ∧
       x.mirageBad 3 (shadow false 0) = false ∧ (x.mirageFinds 3 0x01 0 0).isEmpty = false) ∧
    ((after (.mirageCompare 3 (shadow false 0)) mirrored).fw 3).mir.running = true := by decide +kernel

theorem witness_RecoveryOnce : 0 < 8 ∧ 65535 < 2 ^ 16 ∧ (0 : Nat) < 2 ^ 8 ∧
    (recover 8 65535 false ⟨2, 0, 0, false, false, false, true⟩).1.accepted = true ∧
    (recover 8 0 false ⟨0, 0, 0, false, false, false, false⟩).1.accepted = true := by decide +kernel

/-- A pinned hold slot 8191, its frame and its entry with path probes by port 40. -/
def pinned : State :=
  { up 40 with
    frames := [{ frame0 with lastIn := true, stage := .stored, pinned := some 8191 }]
    tabs := [(tableKey tblHold 4 8191, 40 * 2 ^ 68 + 2 ^ 75 + 2 ^ 126), (tableKey tblHoldState 4 8191, 2 ^ 18)] }

theorem witness_CaravanCommands : (let f := { frame0 with stage := .decided }
    let s := { run with frames := [f] }
    s.frame 0 = some f ∧ f.stage = .decided ∧ s.mode ≠ .safe ∧ s.caravanHeld f = false ∧ s.awake domOasis = true) ∧
    (run.withCvn { run.cvn with sweep := some 0 }).cvn.sweep = some 0 ∧
    (8191 < 8192 ∧ pinned.mode ≠ .safe ∧ pinned.pinValid 8191 = true ∧ pinned.awake domCaravan = true ∧
      pinned.caravanReload = false ∧ (pinned.crested pinned.crest.bank tblHold 4 8191 128).any (bit · 75) = true ∧
      (pinned.frames.find? fun f => f.pinned == some 8191).isSome = true ∧
      pinned.portExists pinned.crest.bank 40 = true) ∧
    (pinned.setFld (PWR_D_STATUS domCaravan) 0 2 1).awake domCaravan = false := by decide +kernel

theorem witness_ClaimCommands : run.servicesRun = true ∧
    (run.withCvn { run.cvn with heard := [none, none, none, some ⟨2, 1, 0⟩] }).cvn.heard.getD 3 none = some ⟨2, 1, 0⟩ ∧
    (run.withCvn { run.cvn with ownAt := some 0, silentAt := some 0, dualAt := some 0 }).cvn.ownAt = some 0 := by decide +kernel

theorem witness_ForwardingState : run.coupleMode = 0 ∧ (run.setReg CVN_COUPLE_CTL 1).coupleMode = 1 ∧
    (run.setReg CVN_COUPLE_CTL 2).coupleMode = 2 := by decide +kernel

theorem witness_CaravanRegisters : run.accepts .host CVN_COUPLE_CTL true ∧ run.accepts .mgmt CVN_COUPLE_CLAIM true ∧
    run.accepts .host (CVN_RING_CTL 1) true ∧ run.accepts .mgmt OAS_ALLOC_REQ true ∧ run.accepts .host OAS_ALLOC_RESULT false ∧
    run.accepts .host OAS_FREE true ∧ run.accepts .mgmt OAS_DFREE_LOG_CTL true := by
  refine ⟨?_, ?_, ?_, ?_, ?_, ?_, ?_⟩ <;> (unfold State.accepts; decide +kernel)

theorem witness_PoolCarve : (State.reset.carved 3 < State.reset.poolTarget 3 ∧ poolCells 3 ≤ State.reset.sharedFree) ∧
    (let s := run.setReg (OAS_POOL_CFG 0) 0
     s.poolTarget 0 < s.carved 0 ∧ s.poolFree 0 = [[0]] ∧ s.oas.pools.length = 4 ∧ 0 < 4 ∧ 1 ≠ 0) ∧
    (let s := run.setReg (OAS_POOL_CFG 0) 1
     s.carved 0 = s.poolTarget 0) ∧
    (let s := run.setOas { run.oas with free := [] }
     s.carved 3 < s.poolTarget 3 ∧ s.sharedFree < poolCells 3) := by decide +kernel

/-- R263: a turn above the target gives the one free buffer back to the shared memory. -/
theorem test_pool_carve : let t := after (.poolCarve ⟨0, none⟩) (run.setReg (OAS_POOL_CFG 0) 0)
    t.poolFree 0 = [] ∧ t.oas.free = [(0, 196608)] := by decide +kernel

/-- Port 3 with a cycle of 1,000 ns: class 0 closed for 600 ns, then every gate open, with votes cast 200 ns ahead. -/
def gating : State :=
  (((((up 3).setCfg false (SCH_PORT_GATE_CFG 3) 0x4001).setCfg false (SCH_PORT_CYCLE_NS 3) 1000).setCfg false (SCH_PORT_PREWAKE 3)
    (200 + 2 ^ 18)).setTab tblGcl 4 3072 (0xFE + 600 * 2 ^ 8 + 2 ^ 62)).setTab tblGcl 4 3073 (0xFF + 400 * 2 ^ 8 + 2 ^ 62)

theorem witness_GateCommands : 3 < 64 ∧ gating.mode ≠ .safe ∧ gating.untilEntry 3 = some 600 ∧
    ((gating.votesDue 3).map (·.2)).min? = some 400 ∧
    (let s := run.setCfg false SCH_CFG 1
     let u := s.elapseToRaw ((s.rawNs / 10000 + 1) * 10000 * nsUnit)
     u.mode ≠ .safe ∧ u.cbit u.crest.bank SCH_CFG 0 = true) := by decide +kernel

/-! ### Witnesses: power -/

theorem witness_DomainCommands : (let s := idling 11 (run.setReg (PWR_D_CFG 11) 1)
    11 < 22 ∧ s.idleEnd 11 = some s.time.clk ∧ (s.elapse (s.time.clk - s.time.clk)).powerRuns = true ∧ s.want 11 ≠ 1 ∧
      s.lowOf 11 ≠ 0 ∧ s.lanesAllow 11 (s.lowOf 11) = true) ∧
    (let s := run.setFld (PWR_D_STATUS 21) 2 2 1
     s.domPhase 21 = 1 ∧ s.mode ≠ .safe) ∧ (run.setFld (PWR_D_STATUS 21) 2 2 2).domPhase 21 = 2 ∧
    (run.setPow { run.pow with stalled := [⟨.host, 0, none, true, 0⟩] }).pow.stalled = [⟨.host, 0, none, true, 0⟩] := by decide +kernel

theorem witness_DomainReady : let s := { run with time := { run.time with clk := 2 ^ 40 } }.setFld (PWR_D_STATUS 11) 0 2 1
    11 < 22 ∧ 21 < 22 ∧ s.domState 11 = 1 ∧ (11 < 6 ∨ 10 ≤ 11) ∧
      s.domSince 11 + ceilDiv (readyNs 11 1) 4 ≤ s.time.clk := by decide +kernel

theorem witness_PowerRegisters : run.accepts .host (PWR_D_VOTE_HOST 21) true ∧ run.accepts .mgmt (PWR_D_VOTE_FW 0) true ∧
    run.accepts .host (PWR_D_CFG 21) true ∧ run.accepts .mgmt (PWR_ERG_PERF_REQ 3) true := by
  unfold State.accepts; decide +kernel

/-- AVSBus on, and the performance sequence in a phase with the clock of erg 3 still to fall and to rise. -/
def perf (n : Nat) : State := (run.setReg PWR_AVS_CFG 0xFF01).setPow { run.pow with avs := n, falling := [3], rising := [3] }

theorem witness_PerfSequence : let s := perf
    ((s 1).pow.avs = 1 ∧ (s 1).pow.falling.contains 3 = true) ∧ ((s 5).pow.avs = 5 ∧ (s 5).pow.rising.contains 3 = true) ∧
      (s 2).rbit PWR_AVS_CFG 0 = true ∧ (s 2).pow.avs = 2 ∧ (s 3).pow.avs = 3 ∧
      (s 3).time.clk + 800 ≤ (s 3).pow.avsAt + (s 3).rf PWR_AVS_CFG 8 8 * 250 ∧
      (2 ≤ (s 4).pow.avs ∧ (s 4).pow.avs ≤ 4) ∧ (s 4).pow.avs = 4 := by decide +kernel

/-- R329: a read-back more than 5 mV away goes on waiting, one of 5 mV away settles, a fault ends the sequence. -/
theorem test_avs : let s := (run.setReg PWR_AVS_CFG 0xFF01).setFld PWR_AVS_STATUS 0 10 700
    let w := s.setPow { s.pow with avs := 3 }
    (after (.avsReadback (.volts 694)) w).pow.avs = 3 ∧ (after (.avsReadback (.volts 705)) w).pow.avs = 4 ∧
      (after (.avsReadback .fault) w).rbit PWR_AVS_STATUS 29 = true := by decide +kernel

/-! ### Witnesses: faults and resets -/

/-- An occurrence of a source waits; its class and mask are `c`. -/
def fault (src c : Nat) : State := { run.setCfg false (FLT (0x100 + 4 * src)) c with occ := [{ src }] }

theorem witness_FaultOccurrence : (let s := fault 63 4
    let o : Occ := { src := 63 }
    s.occ = [o] ∧ s.timeHeld = false ∧ o.src < 64 ∧ bits (s.takenOf o) 1 3 = 0 ∧ bit (s.takenOf o) 5 = false) ∧
    (let s := fault 2 3
     bits (s.srcCfg { src := 2 }) 0 2 = 3 ∧ s.mode ≠ .safe) := by decide +kernel

/-- R32, R343: of two occurrences of one cycle, one taking CHIP_RESET and one SAFE, SAFE is taken. -/
theorem test_safe_first : let s := (((run.setCfg false (FLT 0x100) 0x20).setCfg false (FLT 0x104) 0x80))
    (after .faultOccurrence { s with occ := [{ src := 0 }, { src := 1 }] }).mode = .safe := by decide +kernel

theorem witness_FaultCommands : (run.setFlt { run.flt with queue := [(255, [])] }).flt.queue = [(255, [])] ∧
    (run.timeHeld = false ∧ 5 < 6 ∧ 4095 < 4096 ∧ (railWindow 800 5).2 < 4095 ∧ 749 < (railWindow 800 0).1 ∧ 6 < 7 ∧ 2097151 < 2 ^ 21) ∧
    (let s := run.setReg (FLT 0x050) 1
     s.rbit (FLT 0x050) 0 = true ∧ s.wdogSuspended = false ∧ s.flt.expired = false ∧ s.inReset = false) ∧
    run.held.mainPor = false := by decide +kernel

theorem witness_FaultRegisters : run.accepts .mgmt (FLT 0x054) true ∧ run.accepts .host (FLT 0x054) true ∧
    run.accepts .host (FLT 0x020) true ∧ run.accepts .mgmt (FLT 0x024) true ∧ run.accepts .host (FLT 0x024) true ∧
    run.accepts .mgmt (FLT 0x000) true := by
  refine ⟨?_, ?_, ?_, ?_, ?_, ?_⟩ <;> (unfold State.accepts; decide +kernel)

/-- The device held in every reset. -/
def held : State := run.setHeld { mainPor := true, sram := true, porN := true, resetN := true }

theorem witness_ResetCommands : (run.held.mainPor = false ∧ run.held.sram = false ∧ run.held.porN = false ∧ run.held.resetN = false) ∧
    (held.held.mainPor = true ∧ held.held.sram = true ∧ held.held.porN = true ∧ held.held.resetN = true ∧ held.mode ≠ .safe) ∧
    { held with mode := .safe }.mode = .safe := by decide +kernel

theorem witness_ResetLeaves : run.grave = false ∧ run.held.porN = false ∧ run.held.resetN = false ∧ run.timeHeld = false := by
  decide +kernel

theorem witness_SupplyCommands : run.mainLost = false ∧ { run with mainLost := true }.mainLost = true ∧
    (run.setBit PWR_SUPPLY 2).rbit PWR_SUPPLY 2 = true ∧ run.inReset = false ∧ held.inReset = true := by decide +kernel

/-- A header copy of class `cls` and what it says beside its entries, with its CRC. -/
def header (cls : Nat) (entries : Bytes) : Bytes :=
  let b := [0x56, 0x47, 0x4E, 0x48] ++ leBytes 4 1 ++ leBytes 4 1 ++ [BitVec.ofNat 8 cls, 0] ++ List.replicate 50 0 ++ entries
  let b := b ++ List.replicate (508 - b.length) 0
  b ++ leBytes 4 (crc32c b)

/-- A slot entry: KIND, STATE, NUMBER, then BASE, SIZE and LENGTH. -/
def slotEntry (kind st number base size length : Nat) : Bytes :=
  [BitVec.ofNat 8 kind, BitVec.ofNat 8 st, BitVec.ofNat 8 number, 0] ++ leBytes 4 base ++ leBytes 4 size ++ leBytes 4 length ++
    List.replicate 16 0

/-- A part with a header. -/
def part (b : Bytes) : NvmPart := { sfdp := true, density := 2 ^ 23, clock := 104, content := [(0, b)], err := false }

/-- LOAD after the header of a part with one firmware slot in ACTIVE. -/
def loading : State := after (.nvmHeaderRead (part (header 0 (slotEntry 1 3 0 0x10000 0x10000 64)))) State.reset

/-- A crest image of one empty section of type 3. -/
def crestImage : Bytes :=
  let img := [0x56, 0x47, 0x4E, 0x43] ++ leBytes 4 80 ++ List.replicate 12 0 ++ leBytes 4 1 ++ List.replicate 36 0
  img ++ leBytes 4 (crc32c img) ++ [3] ++ List.replicate 15 0

/-- LOAD before that section. -/
def sections : State :=
  let s := (State.reset.setFld (NVM 0) 8 8 23).nvmWrite 0 (header 0 (slotEntry 2 3 0 0x10000 0x10000 80))
  (s.nvmWrite 0x10000 crestImage).setBoot { s.boot with header := true, stage := 2, ready := true }

theorem witness_LoadCommands : State.reset.mode = .load ∧ State.reset.boot.stage = 0 ∧ State.reset.inReset = false ∧
    (let p := part (header 0 (slotEntry 1 3 0 0x10000 0x10000 64))
     p.sfdp = true ∧ 2 ^ 23 ≤ p.density ∧ p.err = false ∧
      (State.reset.each p.content fun s x => s.nvmWrite x.1 x.2).chooseHeader 0 = some false) ∧
    (loading.mode = .load ∧ loading.boot.stage = 1 ∧ loading.inReset = false ∧ loading.fwSlot = some 0 ∧ loading.boot.retried = false) ∧
    (sections.mode = .load ∧ sections.boot.stage = 2 ∧ sections.boot.ready = true ∧ sections.inReset = false ∧
      sections.slotIn kindCrest slotActive = some 0 ∧ crestHeaderGood (sections.slotBytes 0) = true ∧
      sections.boot.applied < ofLe (((sections.slotBytes 0).drop 20).take 4) ∧
      (sectionAt (sections.slotBytes 0) sections.boot.next).good = true) ∧
    run.mode = .run ∧ { run with mode := .test }.mode = .test := by decide +kernel

theorem witness_LoadCommands_test : run.accepts .host GLB_TEST_CTL true ∧ { run with mode := .test }.accepts .host GLB_TEST_CTL true ∧
    run.accepts .mgmt GLB_TEST_CTL true := by
  unfold State.accepts; decide +kernel

/-! ### Witnesses: host, update and monitors -/

/-- Ring or channel `r` enabled with one descriptor posted, and Bus Master Enable. -/
def ring (r : Nat) : State := ((run.setReg (chanBase r) 0x19).setReg (chanBase r + 0x10) 1).setBit (HST 0) 9

/-- A transmit descriptor of 60 bytes for erg 0. -/
def fetch : TxFetch := { ring := 15, wait := 0, desc := 60 * 2 ^ 64, lost := false, bytes := body, fail := false }

/-- A frame for the CPU port waits, and receive ring 0 has a buffer. -/
def toCpu : State := (ring 0).sendDirect body 64 0 6 none false

theorem witness_RegisterAccess : run.accepts .host (MAC_RAW 0 0) false ∧ run.accepts .host (TMB_TIO 0) true ∧
    (plainReg (TMB_TIO 0)).isSome = true ∧ run.ignoresWrite .host (TMB_TIO 0) = false ∧
    run.accepts .host (MON_U_STATUS 6) true ∧ run.accepts .mgmt MON_IRQ_STATUS true ∧
    run.inReset = false ∧ run.pow.stalled = [] ∧ run.accessError .host 1 true true = some 3 ∧
    { run with mode := .load }.accessError .host (MAC_CFG 0) true true = some 1 ∧
    run.accessError .host (mirrorBase + MAC_CFG 0) true true = some 4 ∧ run.accessError .host (barEnd - 4) false true = some 4 ∧
    run.accessError .host 0x7FFFFC false true = some 0 := by
  refine ⟨?_, ?_, ?_, ?_, ?_, ?_, ?_, ?_, ?_, ?_, ?_, ?_, ?_⟩ <;> first | decide +kernel | (unfold State.accepts; decide +kernel)

/-- R8, R398: the write that takes the last count of its own unit wraps it; its own 1 does not clear the bit it sets. -/
theorem test_setting_wins : let s := (run.setMon { run.mon with run := true }).setReg (MON_U_COUNT 6 0) (2 ^ 32 - 1)
    let t := after (.registerWrite .host (MON_U_STATUS 6) 0xFF true) (s.setReg (MON_U_CTR 6 0) 0xD02)
    t.rbit (MON_U_STATUS 6) 0 = true ∧ t.reg (MON_U_COUNT 6 0) = 0 := by decide +kernel

theorem witness_RingCommands : (run.channelOwner 35 = .mgmt ∧ run.accepts .mgmt (chanBase 35) true ∧ run.accepts .mgmt (chanBase 35 + 0x18) true) ∧
    ((ring 31).forwarding = true ∧ (ring 31).nextTxRing = some 15 ∧ sramBeyond ((ring 31).chanSram 31) ((ring 31).chanDesc 31 32) 32 = false ∧
      ((ring 31).txRefused (txDesc 0)).isSome = true ∧ (ring 31).txRefused (txDesc fetch.desc) = none ∧
      ((ring 31).allocBuffer 64 5).2.isSome = true ∧ fetch.bytes.length = (txDesc fetch.desc).len) ∧
    ((ring 32).chanOn 32 = true ∧ (ring 32).chanSram 32 = false ∧ (ring 32).chanPosted 32 = true) ∧
    (let s := (run.setReg (chanBase 35 + 0x14) 0x100).setIfc { run.ifc with done := run.ifc.done.set 35 [0] }
     s.unacked 35 = [0] ∧ s.rf (chanBase 35 + 0x14) 8 16 ≠ 0) := by
  refine ⟨⟨?_, ?_, ?_⟩, ?_, ?_, ?_⟩ <;> first | decide +kernel | (unfold State.accepts; decide +kernel)

theorem witness_RingCommands_cpu : toCpu.forwarding = true ∧ toCpu.awake domOasis = true ∧ toCpu.awake domSched = true ∧
    (((toCpu.portChoice 64 ((toCpu.backlog 64).filter toCpu.cpuReady)).bind fun o => toCpu.headCopy o.queue).any fun c =>
      (toCpu.frame c.frame).isSome && !sramBeyond (toCpu.chanSram (toCpu.cpuRing c)) 0 60) = true := by decide +kernel

theorem witness_HostCommands : (let s := (((run.setBit GLB_IRQ_STATUS 0).setReg (GLB_IRQ_STATUS + 4) 1).setBit (HST 0) 10).clrBit (HST 0x800C) 0
    s.mode ≠ .safe ∧ s.vecReady 0 = true) ∧
    (run.accepts .host (HST 0x048) true ∧ run.accepts .mgmt (HST 0x04C) true ∧ run.accepts .host (NVM 0x020) true) ∧
    run.inReset = false ∧ 1 ≤ 3 ∧ 3 ≤ 3 := by
  refine ⟨?_, ⟨?_, ?_, ?_⟩, ?_⟩ <;> first | decide +kernel | (unfold State.accepts; decide +kernel)

/-- A message of the mailbox: its type, target kind and index, its payload, and a right CRC. -/
def message (type kind slot : Nat) (payload : Bytes) : Bytes :=
  let b := leBytes 2 1 ++ [BitVec.ofNat 8 type, 0] ++ leBytes 4 7 ++ leBytes 4 1 ++ [BitVec.ofNat 8 kind, BitVec.ofNat 8 slot] ++
    leBytes 2 payload.length ++ leBytes 4 0
  b ++ leBytes 4 (crc32c (b ++ payload)) ++ List.replicate 8 0 ++ payload

/-- `s` with a message in its mailbox. -/
def posted (s : State) (b : Bytes) : State :=
  (s.each (List.range ((b.length + 3) / 4)) fun s i => s.setReg (NVM (0x1000 + 4 * i)) (ofLe ((b.drop (4 * i)).take 4))).setBit
    (NVM 0x020) 1

/-- RUN with a header of one slot of a kind and state at 0x10000. -/
def slots (kind st : Nat) : State :=
  let s := (run.setFld (NVM 0) 8 8 23).nvmWrite 0 (header 0 (slotEntry kind st 0 0x10000 0x10000 80))
  s.setBoot { s.boot with header := true }

/-- What a message of the mailbox is taken as. -/
def taken (s : State) : Option Msg := s.nextMessage.map (·.1)

/-- The hypotheses that the statements about messages share. -/
def ready (s : State) (type : Nat) : Bool :=
  s.engineRuns && (taken s).any (fun m => m.type == type && m.asked.via.isNone && (s.msgError m).isNone) && s.mode == .run &&
    !s.boot.paused && s.boot.handover.isNone

/-- An open session of identifier 7 that expects an empty output. -/
def session : Session := { id := 7, kind := 1, slot := 0, base := 0, length := 0, last := 0 }

theorem witness_MessageChecks : run.engineRuns = true ∧
    (let s := posted run (message 1 1 0 [] |>.set 20 0)
     (taken s).any (fun m => m.type == 1 && (s.msgError m).isSome) = true) ∧
    (let s := posted { run with mode := .handover } (message 5 1 0 [])
     s.engineRuns = true ∧ (taken s).any (fun m => m.type == 5 && (s.msgError m).isNone) = true ∧ s.mode = .handover) ∧
    (let s := posted { run with mode := .recovery } (message 6 1 0 [])
     s.engineRuns = true ∧ (taken s).any (fun m => m.type == 6 && (s.msgError m).isNone) = true ∧ s.mode = .recovery) ∧
    (let s := run.setBoot { run.boot with inband := [(3, [])] }
     (taken s).any (fun m => m.asked.via.isSome) = true ∧ s.inbandOn = false) := by decide +kernel

theorem witness_MessageEffects_session :
    (let s := posted (slots 1 0) (message 1 1 0 (List.replicate 12 0))
     ready s 1 = true ∧ s.boot.session = none ∧ (taken s).any (fun m => s.openTarget m == some (0, some 0) && m.payload.length == 12 &&
       Nat.ble (ofLe ((m.payload.drop 8).take 4)) (s.slotSize 0) && s.hash8 0 == m.payload.take 8) = true) ∧
    (let s := posted (run.setBoot { run.boot with session := some session }) (message 2 1 0 [])
     ready s 2 = true ∧ (taken s).any (fun m => s.sessionOf m == some session && m.offset == session.received &&
       s.deltaFrom session true m.payload.length session.written m.payload == some []) = true) ∧
    (let s := posted (run.setBoot { run.boot with session := some session }) (message 3 1 0 [])
     ready s 3 = true ∧ (taken s).any (fun m => s.sessionOf m == some session) = true ∧ session.written = session.length) := by
  decide +kernel

theorem witness_MessageEffects_activate :
    (let s := posted (slots 1 2) (message 4 1 0 [])
     ready s 4 = true ∧ s.boot.session = none ∧ (taken s).any (fun m => s.activateSlot m == some 0 && m.kind == kindFw) = true ∧
       s.slotState 0 = slotStaged) ∧
    (let s := posted ((slots 2 2).nvmWrite 0x10000 crestImage) (message 4 2 0 (List.replicate 10 0))
     ready s 4 = true ∧ (taken s).any (fun m => s.activateSlot m == some 0 && m.kind == kindCrest && m.payload.length == 10) = true ∧
       s.slotState 0 = slotStaged ∧ crestHeaderGood (s.slotBytes 0) = true ∧ (sectionsFrom (s.slotBytes 0) 1 64).all (·.good) = true ∧
       ofLe (((s.slotBytes 0).drop 20).take 4) = 1 ∧ s.crest.phase = .opened ∧ s.commitMode = true) := by decide +kernel

theorem witness_MessageEffects_services :
    (let s := posted (run.setBoot { run.boot with confirmAt := some 0 }) (message 5 1 0 [])
     ready s 5 = true ∧ s.boot.confirmAt.isSome = true) ∧
    (let s := posted run (message 6 1 0 (leBytes 2 1 ++ List.replicate 20 0))
     ready s 6 = true ∧ (taken s).any (fun m => ofLe (m.payload.take 2) == 1 && Nat.ble 22 m.payload.length) = true) ∧
    ready (posted run (message 7 1 0 [])) 7 = true := by decide +kernel

/-- A handover of slot 0, its check passed or not. -/
def handing (passed : Bool) : State :=
  { run with mode := .handover, boot := { run.boot with handover := some { slot := 0, cause := 0, asked := none, passed } } }

/-- A two-slot part with firmware slot 0 in `a` and slot 1 in `b`. -/
def twoSlots (a b : Nat) : State :=
  let s := ((run.setFld (NVM 0) 8 8 24).setBit (NVM 0) 0).nvmWrite 0
    (header 1 (slotEntry 1 a 0 0x10000 0x10000 0 ++ slotEntry 1 b 1 0x20000 0x10000 0))
  s.setBoot { s.boot with header := true, confirmAt := some 0 }

theorem witness_UpdateEvents : (run.setBoot { run.boot with session := some session }).engineRuns = true ∧
    ((handing false).boot.handover.any (fun h => !h.passed) = true ∧ (handing false).engineRuns = true ∧ (handing false).mode ≠ .recovery) ∧
    ((handing true).boot.handover.any (·.passed) = true ∧ (handing true).mode = .handover ∧ (handing true).inReset = false) ∧
    (run.setBoot { run.boot with paused := true }).boot.paused = true ∧ bit 0xC0F10001 0 = true ∧ bits 0xC0F10001 16 16 = 0xC0F1 ∧
    (let s := twoSlots 5 4
     s.boot.confirmAt = some 0 ∧ s.mode = .run ∧ s.slotIn kindFw slotPending = some 1 ∧ s.slotIn kindFw slotPrevious = some 0) ∧
    (run.servicesRun = true ∧ 63 < 64 ∧ (up 63).portExists (up 63).crest.bank 63 = true) := by decide +kernel

theorem witness_UpdateEvents_confirm : (twoSlots 5 4).accepts .mgmt (NVM 0x010) true ∧ run.accepts .host (NVM 0x010) true := by
  unfold State.accepts; decide +kernel

theorem witness_MonitorCommands : (run.accepts .host MON_CTL true ∧ run.accepts .mgmt (MON_U_COUNT 6 7) true) ∧
    ((run.setMon { run.mon with sync := [(256, true, true, true)] }).mon.sync = [(256, true, true, true)]) ∧
    ((run.setBit MON_DUMP_CFG 0).rbit MON_DUMP_CFG 0 = true ∧ run.mode ≠ .safe ∧ (run.setReg MON_DUMP_PERIOD 1).rf MON_DUMP_PERIOD 0 24 ≠ 0) ∧
    ((run.setReg MON_BW_CFG 1).rf MON_BW_CFG 0 20 ≠ 0 ∧ run.inReset = false) := by
  unfold State.accepts; decide +kernel

theorem witness_DumpsAndTracers : (run.accepts .host MON_DUMP_CFG true ∧ run.accepts .host (MON 0x044) false ∧ run.accepts .mgmt MON_TRC_CFG true) ∧
    (let s := (run.setMon { run.mon with record := some [] })
     s.mon.record = some [] ∧ s.mode ≠ .safe ∧ (s.setBit MON_DUMP_CFG 1).rbit MON_DUMP_CFG 1 = true ∧ s.rbit MON_DUMP_CFG 1 = false ∧
      s.rbit MON_DUMP_CFG 16 = false) ∧
    (let size := 2 ^ run.rf MON_DUMP_CFG 3 5
     let prod := run.rf MON_DUMP_PROD 0 17 % size
     (prod + 1) % size ≠ run.rf MON_DUMP_CONS 0 17 % size ∧
      (prod + 1) % size = (run.setReg MON_DUMP_CONS 1).rf MON_DUMP_CONS 0 17 % size) ∧
    (let t : Traced := { root := 0, erg := 3, follow := false, start := 0, outcome := some 0 }
     let s := run.setMon { run.mon with traced := [t] }
     s.mon.traced.find? (fun x => x.outcome.isSome) = some t ∧ s.mode ≠ .safe ∧ s.rbit MON_TRC_RING 16 = false ∧
      (let size := 2 ^ s.rf MON_TRC_RING 1 5
       let prod := s.rf MON_TRC_PROD 0 17 % size
       (prod + 1) % size ≠ s.rf MON_TRC_CONS 0 17 % size ∧
        (prod + 1) % size = (s.setReg MON_TRC_CONS 1).rf MON_TRC_CONS 0 17 % size)) := by
  refine ⟨⟨?_, ?_, ?_⟩, ?_, ?_, ?_⟩ <;> first | decide +kernel | (unfold State.accepts; decide +kernel)

theorem witness_TimestampQueue : (let e : TxtsEntry := { id := 65535, tb := 3, ns32 := 2 ^ 32 - 1, frac := 255, dropped := true }
    (run.setTxts 63 [e]).txtsQueue 63 = [e] ∧ e.id < 65536 ∧ e.tb < 4 ∧ e.ns32 < 2 ^ 32 ∧ e.frac < 256) ∧ run.txtsQueue 63 = [] ∧
    run.accepts .host (TMB_TXTS_LO 63) false ∧ run.accepts .mgmt (TMB_TXTS_HI 63) false := by
  unfold State.accepts; decide +kernel

theorem witness_StepRunsFront : (run.withPending [.crestCommit]).pending = [.crestCommit] ∧ run.pending = [] := ⟨rfl, rfl⟩

theorem witness_ServicesSound : ∃ t, step State.reset = .next t := ⟨_, rfl⟩

/-! ### Checksums and digests against the published check values -/

/-- CRC-32C of the ASCII digits 1 to 9, the catalogue's check value. -/
theorem test_crc32c : crc32c (List.map (BitVec.ofNat 8) [49, 50, 51, 52, 53, 54, 55, 56, 57]) = 0xE3069283 := by decide +kernel

/-- The Ethernet FCS polynomial over the same digits. -/
theorem test_fcs : fcs32 (List.map (BitVec.ofNat 8) [49, 50, 51, 52, 53, 54, 55, 56, 57]) = 0xCBF43926 := by decide +kernel

/-- SHA-256 of "abc", FIPS 180-4. -/
theorem test_sha256 : sha256 (List.map (BitVec.ofNat 8) [0x61, 0x62, 0x63]) =
    beBytes 32 0xba7816bf8f01cfea414140de5dae2223b00361a396177a9cb410ff61f20015ad := by decide +kernel

/-- HMAC-SHA-256, test case 2 of RFC 4231: key "Jefe", data "what do ya want for nothing?". -/
theorem test_hmac : hmacSha256 (beBytes 4 0x4a656665)
    (beBytes 28 0x7768617420646f2079612077616e7420666f72206e6f7468696e673f) =
    beBytes 32 0x5bdcc146bf60754e6a042426089575c75a003f089d2739839dec58b964ec3843 := by decide +kernel

/-! ### Single commands against the spec's own figures -/

/-- R16: a write of a reserved port number, 69 to 126, stores 127. -/
theorem test_port_reserved : (after (.registerRead .host CVN_COUPLE_NOTIFY true)
    (after (.registerWrite .host CVN_COUPLE_NOTIFY 100 true)
      (after (.registerWrite .host CVN_COUPLE_NOTIFY 64 true) run))).ifc.reads.map (·.value) = [127] := by decide +kernel

/-- R42: TRIM holds no more than 1,099,511,628 in magnitude. -/
theorem test_trim_clamp : (after (.registerWrite .host (TMB_TB_TRIM 0) 0x7FFFFFFF true) run).reg (TMB_TB_TRIM 0) = 1099511628 := by
  decide +kernel

/-- R348, R351: a write through the active-mirror view is a bus error of kind 4: requester host, kind 4, a write. -/
theorem test_mirror_write : let t := after (.registerWrite .host (MAC_CFG 0 + 0x4000000) 3 true) run
    t.reg (HST 0x014) = 0x18 ∧ t.reg (HST 0x018) = 1 ∧ t.cfg false (MAC_CFG 0) = run.cfg false (MAC_CFG 0) := by decide +kernel

/-- R351: a read of an address that holds no register reads as zero, reports the address and is counted. -/
theorem test_unknown_address : let t := after (.registerRead .host 0x0FFFC true) run
    t.reg (HST 0x010) = 0x0FFFC ∧ t.reg (HST 0x014) = 0 ∧ t.ifc.reads.map (·.value) = [0] := by decide +kernel

/-- R334: the loss of the reference clock, source 7, has the reaction SAFE. -/
theorem test_refclk_loss : (after .faultOccurrence (after .refclkSysLoss run)).mode = .safe := by decide +kernel

/-- R331: the main supply returns only after it was lost. -/
theorem test_supply_restore : (after (.mainSupplyRestore 0) run).mainLost = false ∧ (after .mainSupplyLoss run).mainLost = true := by
  decide +kernel

end Sys2Proof.Tests
end

section
/-! SUPPORT. Where an access goes on the register bus, and which registers its arrival leaves alone. -/

namespace Sys2Proof.Machine.State

variable {s : State} {rq : Requester} {off : Nat}

/-! ### The way of an access through the bus (R30, R351, R352) -/

/-- With the device out of reset, its requester running and nothing waiting, an access is at the head of the bus at once. -/
theorem busAccess_atHead (hreset : s.inReset = false) (hruns : rq = .mgmt → s.mode ≠ .test ∧ s.mode ≠ .safe)
    (hidle : s.pow.stalled = []) (w : Option Word) (whole : Bool) :
    s.busAccess rq off w whole = (s.setIfc { s.ifc with reads := [] }).atHead
      { rq, addr := off, write := w, whole, since := s.time.clk } := by
  have hr : ∀ i, (s.setIfc i).inReset = false := fun _ => hreset
  have hm : ¬ (rq = .mgmt ∧ (s.mode = .test ∨ s.mode = .safe)) := by
    rintro ⟨q, t | t⟩
    · exact (hruns q).1 t
    · exact (hruns q).2 t
  simp [busAccess, access, hr, hidle, hm]

/-- There an access that meets a bus error fails with its kind. -/
theorem atHead_error {x : Stalled} {k : Nat} (h : s.accessError x.rq x.addr x.write.isSome x.whole = some k) :
    s.atHead x = s.accessFails x k := by
  simp only [atHead, h]

theorem setFld_ifc (s : State) (off lo w v : Nat) : (s.setFld off lo w v).ifc = s.ifc := rfl

/-- A bus error is told in registers and as a fault, not among the reads shown. -/
theorem busError_ifc (s : State) (rq : Requester) (addr k : Nat) (w : Bool) : (s.busError rq addr k w).ifc = s.ifc := by
  unfold busError
  split
  · rw [raise_ifc]
  · rw [raise_ifc, setBit_eq, setReg_ifc, bump_eq, setFld_ifc, setReg_ifc, setReg_ifc]

/-- What a read in error leaves: the error, and a completion without a value after the reads shown before. -/
theorem accessFails_read {x : Stalled} (h : x.write = none) (s : State) (k : Nat) :
    s.accessFails x k = (s.busError x.rq x.addr k false).setIfc
      { s.ifc with reads := s.ifc.reads ++ [{ rq := x.rq, addr := x.addr, ok := false, value := 0 }] } := by
  simp [accessFails, h, readDone, busError_ifc]

/-- An access that the bus serves at once is served in the state that its demand on the domain leaves. -/
theorem busAccess_served {w : Option Word} (h : s.accepts rq off w.isSome) :
    s.busAccess rq off w true =
      (s.accessing off).serve { rq, addr := off, write := w, whole := true, since := s.time.clk } := by
  obtain ⟨hreset, hruns, hidle, herr, hawake⟩ := h
  have he : ∀ i, (s.setIfc i).accessError rq off w.isSome true = none := fun _ => herr
  have ha : ∀ i, (s.setIfc i).awake (domOfReg (viewOff off)) = true := fun _ => hawake
  rw [busAccess_atHead hreset hruns hidle]
  simp [atHead, he, asleep, ha, accessing]

/-! ### Registers that an arrival leaves alone -/

theorem reg_setBit_other {x i : Nat} (h : x ≠ off) : (s.setBit off i).reg x = s.reg x := by
  rw [setBit_eq, reg_setReg_other s h]

theorem monAdd_reg_below {x : Nat} (hx : x < 0x70000) (s : State) (u k n : Nat) : (s.monAdd u k n).1.reg x = s.reg x :=
  reg_setReg_other s (by unfold MON_U_COUNT MON_U_CTR MON_U; omega)

theorem monWrapped_reg_below {x : Nat} (hx : x < 0x70000) (s : State) (u k w : Nat) :
    (s.monWrapped u k w).reg x = s.reg x := by
  have hs : (s.setBit (MON_U_STATUS u) k).reg x = s.reg x := reg_setBit_other (by unfold MON_U_STATUS MON_U; omega)
  unfold monWrapped
  split
  · rfl
  · dsimp only
    split
    · rw [reg_setBit_other (by unfold MON_IRQ_STATUS; omega), hs]
    · exact hs

theorem monCount_reg_below {x : Nat} (hx : x < 0x70000) (s : State) (u k n : Nat) : (s.monCount u k n).reg x = s.reg x := by
  simp only [monCount]
  split
  · rw [monWrapped_reg_below hx, monAdd_reg_below hx, monAdd_reg_below hx]
  · rw [monWrapped_reg_below hx, monAdd_reg_below hx]

/-- A monitor event counts in the registers of the monitor's block, and in none below it. -/
theorem event_reg_below {x : Nat} (hx : x < 0x70000) (s : State) (u code n : Nat) (a : Attr) :
    (s.event u code n a).reg x = s.reg x := by
  unfold event
  split
  · rfl
  · refine each_induct (P := fun t => t.reg x = s.reg x) (fun t k ht => ?_) _ s rfl
    dsimp only
    split
    · rw [monCount_reg_below hx, ht]
    · exact ht

/-- A domain that follows no votes has no use of a demand (R315). -/
theorem demand_of_not_heeds {d : Nat} (h : heeds d = false) (s : State) : s.demand d = s := by
  simp [demand, h]

/-- The registers of a channel belong to the host interface (R366). -/
theorem domOfReg_of_channelOf {c : Nat} (h : channelOf off = some c) : domOfReg (viewOff off) = domHost := by
  have hoff : 0x50400 ≤ off ∧ off < 0x50880 := by
    unfold channelOf at h
    split at h
    · assumption
    · cases h
  have hnormal : ¬ mirrorBase ≤ off := by unfold mirrorBase; omega
  have hview : viewOff off = off := by simp [viewOff, inMirror, hnormal]
  have hblock : off / 0x10000 = 5 := by omega
  have hlow : off < 0x80000 := by omega
  simp [hview, domOfReg, blockOf, hlow, hblock, Block.domain]

/-- Its arrival does not change whether a write is ignored: of the state only the channels' owners in HST tell that, and
neither the monitor nor a demand on the host interface writes them. -/
theorem arrived_ignoresWrite (s : State) (rq : Requester) (off code : Nat) :
    (s.arrived rq off code).ignoresWrite rq off = s.ignoresWrite rq off := by
  unfold ignoresWrite
  cases hc : channelOf off with
  | none => rfl
  | some c =>
    have hd : s.accessing off = s.setIfc { s.ifc with reads := [] } := by
      rw [accessing, domOfReg_of_channelOf hc, demand_of_not_heeds rfl]
    have howner : (s.arrived rq off code).reg (HST 0x040) = s.reg (HST 0x040) := by
      rw [arrived, event_reg_below (by decide), hd]; rfl
    have hbit : (s.arrived rq off code).rbit (HST 0x040) c = s.rbit (HST 0x040) c := congrArg (bit · c) howner
    simp only [channelOwner, hbit]

/-! ### What a write comes to -/

/-- What it means that a register is plain. -/
theorem plainReg_some {b : Block} {base : Nat} (h : plainReg off = some (b, base)) :
    ∃ r i, findReg off = some (r, i) ∧ blockOf off = some (b, base) ∧ r.staged = false ∧ aoServed off = false ∧
      off ≠ CRS_COMMIT ∧ selfCounted off = false ∧ inMirror off = false := by
  unfold plainReg at h
  split at h
  · rename_i r i x hr hb
    split at h
    · cases h
    · rename_i hn
      simp only [Bool.or_eq_true, beq_iff_eq, not_or, Bool.not_eq_true] at hn
      obtain ⟨⟨⟨⟨hstaged, hao⟩, hcommit⟩, hself⟩, hmirror⟩ := hn
      cases h
      exact ⟨r, i, hr, hb, hstaged, hao, hcommit, hself, hmirror⟩
  · cases h

/-- A write of a plain register that the bus serves at once and that no rule ignores where it is made. -/
theorem busWrite_plain_of_not_ignored {b : Block} {base : Nat} (h : s.accepts rq off true)
    (hp : plainReg off = some (b, base)) (hi : s.ignoresWrite rq off = false) (v : Word) :
    s.busWrite rq off v =
      ((s.arrived rq off 2).storing off v.toNat).written rq b (off - base) ((s.arrived rq off 2).reg off) v.toNat
        (s.arrived rq off 2).coupleMode := by
  obtain ⟨r, i, hr, hb, hstaged, hao, hcommit, hself, hmirror⟩ := plainReg_some hp
  have hview : viewOff off = off := by simp [viewOff, hmirror]
  rw [busWrite_served h (hview.symm ▸ hself), hview,
    registerWrite_immediate hr hb hstaged hao hcommit ((arrived_ignoresWrite s rq off 2).trans hi)]

/-- A status register of the monitor whose wrap bits the count of the write itself can set (R8, R397): immediate, and a write of
it only stores. -/
theorem registerWrite_wrapStatus (hoff : off = MON_U_STATUS 6 ∨ off = MON_IRQ_STATUS) (s : State) (v : Nat) :
    s.registerWrite rq off v = s.storing off v := by
  have himm : (findReg off).any (fun x => !x.1.staged) = true ∧ blockOf off = some (.mon, MON 0) ∧ aoServed off = false ∧
      off ≠ CRS_COMMIT := by
    rcases hoff with rfl | rfl <;> decide +kernel
  obtain ⟨hfind, hb, hao, hcommit⟩ := himm
  obtain ⟨⟨r, i⟩, hr, hstaged⟩ := (Option.any_eq_true _ _).mp hfind
  have hi : s.ignoresWrite rq off = false := by rcases hoff with rfl | rfl <;> rfl
  rw [registerWrite_immediate hr hb (by simpa using hstaged) hao hcommit hi]
  rcases hoff with rfl | rfl <;> rfl

/-- A write of such a register that the bus serves at once: the bits that its own count sets are taken out of the value, so that
they stay set. -/
theorem busWrite_wrapStatus (hoff : off = MON_U_STATUS 6 ∨ off = MON_IRQ_STATUS) (h : s.accepts rq off true) (v : Word) :
    s.busWrite rq off v = (s.arrived rq off 2).storing off
      ((v.toNat ||| (((s.accessing off).setReg off 0).event 6 2 1 (accessAttr rq off)).reg off) ^^^
        (((s.accessing off).setReg off 0).event 6 2 1 (accessAttr rq off)).reg off) := by
  have hview : viewOff off = off := by rcases hoff with rfl | rfl <;> rfl
  have hcount : ownCount off = false := by rcases hoff with rfl | rfl <;> rfl
  rw [busWrite, busAccess_served h]
  simp only [serve, serveWrite, hview, hcount, accessWord, registerWrite_wrapStatus hoff, settingWins, if_pos hoff]
  rfl

/-! ### Counts after reset -/

/-- The four counts are 0, and no other time base has a count. -/
theorem reset_count (n : Nat) : State.reset.count n = 0 := by
  match n with
  | 0 | 1 | 2 | 3 | _ + 4 => rfl

/-- The raw counts start as the counts do. -/
theorem reset_rawCount (n : Nat) : State.reset.rawCount n = 0 := reset_count n

end Sys2Proof.Machine.State
end

section
/-! PROOFS. The access to a register over the bus, and the state after reset. -/

namespace Sys2Proof.Proofs

open Sys2Proof.Machine State

/-- Settles O49: the four clauses are what the bus does with a write of a plain register, with one that its own count can change,
with a read, and with an access in error. -/
theorem registerAccess : Obligations.RegisterAccess := by
  intro s rq off v whole k
  refine ⟨fun b base h hp hi => ?plain, fun hoff h => ?wrap, fun h => ?read, fun hreset hruns hidle =>
    ⟨fun herr => ?writeError, fun herr => ?readError⟩⟩
  case plain => exact congrArg finish (busWrite_plain_of_not_ignored h hp hi v)
  case wrap => exact congrArg finish (busWrite_wrapStatus hoff h v)
  case read => exact congrArg finish (busRead_served h)
  case writeError =>
    exact congrArg finish ((busAccess_atHead hreset hruns hidle (some v) whole).trans (atHead_error herr))
  case readError =>
    exact congrArg finish ((busAccess_atHead hreset hruns hidle none whole).trans
      ((atHead_error herr).trans (accessFails_read rfl _ k)))

/-- Settles O60: no store of the reset state holds anything, so that every register reads its reset value. -/
theorem resetState : Obligations.ResetState := by
  refine ⟨rfl, ?service, reset_storesWf, rfl, rfl, rfl, rfl, rfl, fun _ => rfl, ?banks, reset_count, reset_rawCount⟩
  case service => exact fun v hv => absurd hv List.not_mem_nil
  case banks => intro b off; cases b <;> rfl

end Sys2Proof.Proofs
end

section
/-! SUPPORT. The mode and the grave latch, and what of the model leaves both as they are (R339, R340). -/

namespace Sys2Proof.Machine.State

/-- The mode and the grave latch. -/
def standing (s : State) : Mode × Bool := (s.mode, s.grave)

variable (s : State)

/-! ### Elementary updates

The proofs are `(rfl)` so that `simp` rewrites with these and does not unfold the updates: the counters' laws are about numbers
too large to unfold. -/

@[simp] theorem setReg_standing (off v : Nat) : (s.setReg off v).standing = s.standing := (rfl)
@[simp] theorem setFld_standing (off lo w v : Nat) : (s.setFld off lo w v).standing = s.standing := (rfl)
@[simp] theorem setBit_standing (off i : Nat) : (s.setBit off i).standing = s.standing := (rfl)
@[simp] theorem clrBit_standing (off i : Nat) : (s.clrBit off i).standing = s.standing := (rfl)
@[simp] theorem putBit_standing (off i : Nat) (b : Bool) : (s.putBit off i b).standing = s.standing := (rfl)
@[simp] theorem bump_standing (off : Nat) : (s.bump off).standing = s.standing := by
  rw [bump_eq, setFld_standing]
@[simp] theorem raise_standing (n d0 d1 d2 d3 : Nat) : (s.raise n d0 d1 d2 d3).standing = s.standing := (rfl)
@[simp] theorem setIfc_standing (i : HostIf) : (s.setIfc i).standing = s.standing := (rfl)
@[simp] theorem setMon_standing (m : Mon) : (s.setMon m).standing = s.standing := (rfl)
@[simp] theorem setOas_standing (o : Oasis) : (s.setOas o).standing = s.standing := (rfl)
@[simp] theorem setPow_standing (p : Power) : (s.setPow p).standing = s.standing := (rfl)
@[simp] theorem setBoot_standing (b : Boot) : (s.setBoot b).standing = s.standing := (rfl)
@[simp] theorem withCvn_standing (c : Caravan) : (s.withCvn c).standing = s.standing := (rfl)
@[simp] theorem setMac_standing (p : Nat) (m : MacState) : (s.setMac p m).standing = s.standing := (rfl)
@[simp] theorem setFrame_standing (f : Frame) : (s.setFrame f).standing = s.standing := (rfl)
@[simp] theorem setTxts_standing (p : Nat) (q : List TxtsEntry) : (s.setTxts p q).standing = s.standing := (rfl)
@[simp] theorem setTio_standing (i : Nat) (t : Tio) : (s.setTio i t).standing = s.standing := (rfl)
@[simp] theorem setChain_standing (c : Chain) : (s.setChain c).standing = s.standing := (rfl)
@[simp] theorem giveCells_standing (l : List Nat) : (s.giveCells l).standing = s.standing := (rfl)

variable {s}

theorem OnlyRegs.standing {t : State} (h : s.OnlyRegs t) : t.standing = s.standing := by
  obtain ⟨r, rfl⟩ := h; rfl

/-- Doing something for every element of a list keeps the standing that each step keeps. -/
theorem each_standing {α : Type} {f : State → α → State} (hf : ∀ s x, (f s x).standing = s.standing) (l : List α) :
    (s.each l f).standing = s.standing :=
  each_induct (P := fun t => t.standing = s.standing) (fun t x h => (hf t x).trans h) l s rfl

variable (s)

@[simp] theorem event_standing (u code n : Nat) (a : Attr) : (s.event u code n a).standing = s.standing :=
  (event_only s u code n a).standing

/-! ### Cells, frames and copies -/

@[simp] theorem doubleFree_standing (cell client kind : Nat) : (s.doubleFree cell client kind).standing = s.standing := by
  unfold doubleFree
  dsimp only
  split <;> simp

@[simp] theorem freeChain_standing (c : Chain) : (s.freeChain c).standing = s.standing := by
  unfold freeChain
  dsimp only
  split <;> simp

@[simp] theorem dropRef_standing (c : Chain) : (s.dropRef c).standing = s.standing := by
  unfold dropRef
  split <;> simp

@[simp] theorem deref_standing (cell : Nat) : (s.deref cell).standing = s.standing := by
  unfold deref
  split
  · simp
  · split <;> simp

@[simp] theorem freeBy_standing (cell client : Nat) : (s.freeBy cell client).standing = s.standing := by
  unfold freeBy
  split
  · simp
  · split
    · simp
    · split <;> simp

@[simp] theorem releaseAlloc_standing (id : Nat) : (s.releaseAlloc id).standing = s.standing := by
  unfold releaseAlloc
  split
  · rfl
  · split <;> simp

@[simp] theorem dropFrame_standing (id : Nat) : (s.dropFrame id).standing = s.standing := s.releaseAlloc_standing id

@[simp] theorem settle_standing (id : Nat) : (s.settle id).standing = s.standing := by
  unfold settle
  split
  · rfl
  · split
    · rfl
    · split
      · rfl
      · split <;> simp

@[simp] theorem traceEnd_standing (f : Frame) (c : Copy) (outcome : Nat) : (s.traceEnd f c outcome).standing = s.standing := by
  unfold traceEnd
  split <;> rfl

@[simp] theorem releaseCopy_standing (c : Copy) : (s.releaseCopy c).standing = s.standing := by
  unfold releaseCopy
  dsimp only
  rw [settle_standing]
  split <;> split <;> simp

/-! ### Transmissions cut short -/

@[simp] theorem txtsWrite_standing (p : Nat) (e : TxtsEntry) : (s.txtsWrite p e).standing = s.standing := by
  unfold txtsWrite
  split
  · rfl
  · split <;> simp

@[simp] theorem stampSent_standing (c : Copy) (cnt : List Nat) : (s.stampSent c cnt).standing = s.standing := by
  unfold stampSent
  split <;> simp

@[simp] theorem droppedStamp_standing (c : Copy) : (s.droppedStamp c).standing = s.standing := by
  unfold droppedStamp
  split <;> simp

@[simp] theorem unstamp_standing (c : Copy) : (s.unstamp c).standing = s.standing := by
  unfold unstamp
  split
  · split <;> rfl
  · rfl

@[simp] theorem stat_standing (p i n : Nat) : (s.stat p i n).standing = s.standing := by
  have hset : ∀ v, (s.setStat p i v).standing = s.standing := fun _ => rfl
  unfold stat
  split
  · rfl
  · dsimp only
    split
    · exact hset _
    · split <;> simp [hset]

@[simp] theorem rawCtr_standing (p k : Nat) : (s.rawCtr p k).standing = s.standing := s.bump_standing _

@[simp] theorem bwTx_standing (p n : Nat) : (s.bwTx p n).standing = s.standing := (rfl)

@[simp] theorem cutShort_standing (p : Nat) (t : Tx) (n : Nat) : (s.cutShort p t n).standing = s.standing := by
  unfold cutShort
  dsimp only
  split
  · simp
  · rw [releaseCopy_standing]
    split <;> split <;> split <;> simp

@[simp] theorem abortTx_standing (p : Nat) : (s.abortTx p).standing = s.standing := by
  unfold abortTx
  dsimp only
  split <;> split <;> simp

/-! ### What entering SAFE does -/

@[simp] theorem hostWrite_standing (a : Nat) (b : Bytes) : (s.hostWrite a b).standing = s.standing := by
  unfold hostWrite
  split <;> rfl

@[simp] theorem vecSend_standing (v : Nat) : (s.vecSend v).standing = s.standing := by
  simp [vecSend]

@[simp] theorem safeMessage_standing : s.safeMessage.standing = s.standing := by
  unfold safeMessage
  split <;> simp

@[simp] theorem fieldStamp_standing (p : Nat) : (s.fieldStamp p).standing = s.standing := by
  unfold fieldStamp
  split
  · split
    · split <;> simp
    · rfl
  · rfl

@[simp] theorem stampField_standing : s.stampField.standing = s.standing :=
  each_standing (fun s j => s.fieldStamp_standing (32 + j)) _

@[simp] theorem setForwarding_standing (v : Bool) : (s.setForwarding v).standing = s.standing := by
  unfold setForwarding
  split <;> rfl

@[simp] theorem coupleEval_standing : s.coupleEval.standing = s.standing := by
  unfold coupleEval
  dsimp only
  split <;> simp

@[simp] theorem coupleModeWas_standing (old : Nat) : (s.coupleModeWas old).standing = s.standing := by
  unfold coupleModeWas
  dsimp only
  rw [coupleEval_standing]
  split
  · split <;> rfl
  · rfl

/-- A mode is entered, and the latch stays. -/
theorem setMode_standing (m : Mode) : (s.setMode m).standing = (m, s.grave) := by
  unfold setMode
  split
  · rename_i h; rw [← h]; rfl
  · dsimp only
    rw [coupleModeWas_standing]
    split <;> rfl

@[simp] theorem enterState_standing (ls : List Nat) (p st : Nat) : (s.enterState ls p st).standing = s.standing :=
  each_standing (f := fun s l => s.setFld (LNE_L_STATE l) 0 3 st) (fun _ _ => rfl) ls

@[simp] theorem unlock_standing (ls : List Nat) : (s.unlock ls).standing = s.standing :=
  each_standing (f := fun s l => s.setFld (LNE_L_STATE l) 4 5 0) (fun _ _ => rfl) ls

@[simp] theorem holdLanes_standing : s.holdLanes.standing = s.standing :=
  each_standing (fun s p => by dsimp only; split <;> simp) _

@[simp] theorem haltField_standing : s.haltField.standing = s.standing :=
  each_standing (fun s j => by split <;> simp) _

@[simp] theorem haltTio_standing : s.haltTio.standing = s.standing :=
  each_standing (fun s i => by split <;> simp [tioDrive]) _

/-- SAFE is entered, and the latch stays (R339). -/
theorem enterSafe_standing (src : Nat) : (s.enterSafe src).standing = (.safe, s.grave) := by
  unfold enterSafe
  split
  · rename_i h; rw [← h]; rfl
  · dsimp only
    have hgrave : ∀ t : State, t.standing = s.standing → t.grave = s.grave := fun t h => congrArg Prod.snd h
    rw [setBoot_standing, clrBit_standing, setPow_standing, haltTio_standing, haltField_standing, holdLanes_standing,
      setMode_standing]
    rw [hgrave _ (by simp)]

end Sys2Proof.Machine.State
end

section
/-! SUPPORT. What the fault collector does with the occurrences of one cycle (R334 to R336, R343). -/

namespace Sys2Proof.Machine

/-- A field that reads 0 has no bit set. -/
theorem bit_of_bits_eq_zero {v lo w i : Nat} (h : bits v lo w = 0) (hlo : lo ≤ i) (hhi : i < lo + w) : bit v i = false := by
  have hbit : (bits v lo w).testBit (i - lo) = false := by rw [h]; exact Nat.zero_testBit _
  simpa [bits, bit, Nat.testBit_mod_two_pow, Nat.testBit_shiftRight, show i - lo < w by omega, show lo + (i - lo) = i by omega]
    using hbit

/-! ### Occurrences in order -/

theorem mem_of_mem_insertOcc {o x : Occ} {l : List Occ} (h : x ∈ insertOcc o l) : x = o ∨ x ∈ l := by
  induction l with
  | nil => simpa [insertOcc] using h
  | cons y l ih =>
    unfold insertOcc at h
    split at h
    · simpa using h
    · rcases List.mem_cons.mp h with rfl | h
      · simp
      · rcases ih h with rfl | h <;> simp [*]

/-- Sorting adds no occurrence. -/
theorem mem_of_mem_sortOcc {x : Occ} {l : List Occ} (h : x ∈ sortOcc l) : x ∈ l := by
  have hfold : ∀ (l a : List Occ), x ∈ l.foldl (fun a o => insertOcc o a) a → x ∈ a ∨ x ∈ l := by
    intro l
    induction l with
    | nil => exact fun _ h => .inl h
    | cons y l ih =>
      intro a h
      rcases ih _ h with h | h
      · rcases mem_of_mem_insertOcc h with rfl | h <;> simp [*]
      · simp [h]
  simpa using hfold l [] h

namespace State

variable {s : State} {o : Occ}

/-! ### Records (R335, R336) -/

/-- Registers that the recording of an occurrence writes: the counts of discarded records and of classes, and the log. -/
def recordReg (off : Nat) : Prop := off = FLT 0x038 ∨ off = FLT 0x03C ∨ (0x48000 ≤ off ∧ off < 0x50000)

/-- An operation that writes registers of records and the queue of records, and nothing else. -/
def Records (s t : State) : Prop := ∃ r c, t = { s with regs := r, flt := c } ∧ ∀ off, ¬ recordReg off → t.reg off = s.reg off

theorem Records.refl (s : State) : s.Records s := ⟨s.regs, s.flt, rfl, fun _ _ => rfl⟩

theorem Records.trans {t u : State} (a : s.Records t) (b : t.Records u) : s.Records u := by
  obtain ⟨_, _, rfl, ha⟩ := a
  obtain ⟨r, c, rfl, hb⟩ := b
  exact ⟨r, c, rfl, fun off h => (hb off h).trans (ha off h)⟩

theorem records_setFld {off : Nat} (h : recordReg off) (lo w v : Nat) : s.Records (s.setFld off lo w v) :=
  ⟨_, s.flt, rfl, fun _ hx => reg_setReg_other s fun e => hx (e ▸ h)⟩

theorem records_satFld {off : Nat} (h : recordReg off) (lo w n : Nat) : s.Records (s.satFld off lo w n) := by
  rw [satFld_eq]; exact records_setFld h lo w _

theorem records_setFlt (s : State) (c : Collector) : s.Records (s.setFlt c) := ⟨s.regs, c, rfl, fun _ _ => rfl⟩

theorem repeatRecord_records (s : State) (src : Nat) : s.Records (s.repeatRecord src) := by
  unfold repeatRecord
  split
  · exact .refl s
  · split
    · exact records_setFlt s _
    · dsimp only
      split
      · exact records_satFld (by unfold recordReg FLT; omega) _ _ _
      · exact .refl s

theorem countClass_records (s : State) (cls : Nat) : s.Records (s.countClass cls) := by
  unfold countClass
  split
  · exact .refl s
  · exact records_satFld (.inr (.inl rfl)) _ _ _

theorem queueRecord_records (s : State) (src flags taken : Nat) (o : Occ) : s.Records (s.queueRecord src flags taken o) := by
  unfold queueRecord
  split
  · exact records_satFld (.inl rfl) _ _ _
  · exact records_setFlt s _

/-! ### The log of an occurrence -/

/-- The latch set where a condition holds. -/
def latched (s : State) (b : Bool) : State := { s with grave := s.grave || b }

theorem latched_false (s : State) : s.latched false = s := by simp [latched]

theorem latched_true (s : State) : s.latched true = { s with grave := true } := by simp [latched]

theorem latched_reg (s : State) (b : Bool) (x : Nat) : (s.latched b).reg x = s.reg x := rfl

/-- The register that counts the occurrences of a source (R336). -/
abbrev countReg (o : Occ) : Nat := FLT (0x200 + 4 * o.src)

/-- An occurrence before it is recorded: counted, held in FLT_PEND, and in the latch where its class is GRAVE. -/
def noted (s : State) (o : Occ) : State :=
  ((s.bump (countReg o)).setBit (srcReg 0x008 o.src) (o.src % 32)).latched (bits (s.srcCfg o) 0 2 == 3)

/-- Beside that, an occurrence is recorded. -/
theorem logOcc_records (s : State) (o : Occ) (taken : Nat) : (s.noted o).Records (s.logOcc o taken) := by
  have hnoted : s.noted o = if bits (s.srcCfg o) 0 2 = 3 then
      { (s.bump (FLT (0x200 + 4 * o.src))).setBit (srcReg 0x008 o.src) (o.src % 32) with grave := true }
      else (s.bump (FLT (0x200 + 4 * o.src))).setBit (srcReg 0x008 o.src) (o.src % 32) := by
    unfold noted
    split
    · rename_i h; rw [beq_iff_eq.mpr h, latched_true]
    · rename_i h; rw [beq_eq_false_iff_ne.mpr h, latched_false]
  unfold logOcc
  simp only [← hnoted]
  split
  · exact repeatRecord_records _ _
  · exact (countClass_records _ _).trans (queueRecord_records _ _ _ _ _)

/-- An occurrence is logged in registers, the collector and the latch. -/
theorem logOcc_only (s : State) (o : Occ) (taken : Nat) :
    ∃ r c, s.logOcc o taken = { s with regs := r, flt := c, grave := s.grave || bits (s.srcCfg o) 0 2 == 3 } := by
  obtain ⟨r, c, h, -⟩ := logOcc_records s o taken
  obtain ⟨r', h'⟩ : s.OnlyRegs ((s.bump (FLT (0x200 + 4 * o.src))).setBit (srcReg 0x008 o.src) (o.src % 32)) := by
    rw [setBit_eq, bump_eq, setFld_eq]
    exact ((OnlyRegs.refl s).setReg _ _).setReg _ _
  exact ⟨r, c, by rw [h, noted, h']; rfl⟩

theorem logOcc_grave (s : State) (o : Occ) (taken : Nat) :
    (s.logOcc o taken).grave = (s.grave || bits (s.srcCfg o) 0 2 == 3) := by
  obtain ⟨r, c, h⟩ := logOcc_only s o taken
  rw [h]

theorem logOcc_srcCfg (s : State) (o x : Occ) (taken : Nat) : (s.logOcc o taken).srcCfg x = s.srcCfg x := by
  obtain ⟨r, c, h⟩ := logOcc_only s o taken
  rw [h]; rfl

/-- Once the latch is set, or where an occurrence has class GRAVE, the latch is set after logging. -/
theorem logAll_grave (l : List (Occ × Nat)) (s : State)
    (h : s.grave = true ∨ ∃ x ∈ l, bits (s.srcCfg x.1) 0 2 = 3) : (s.each l fun s x => s.logOcc x.1 x.2).grave = true := by
  induction l generalizing s with
  | nil => simpa [each] using h
  | cons y l ih =>
    refine ih (s.logOcc y.1 y.2) ?_
    simp only [logOcc_grave, logOcc_srcCfg, Bool.or_eq_true, beq_iff_eq]
    rcases h with h | ⟨x, hx, hc⟩
    · exact .inl (.inl h)
    · rcases List.mem_cons.mp hx with rfl | hx
      · exact .inl (.inr hc)
      · exact .inr ⟨x, hx, hc⟩

/-! ### The reactions of a cycle (R32, R343) -/

/-- The reactions taken: those of the masks, without CHIP_RESET where one takes SAFE. -/
theorem reactions_eq (s : State) (os : List Occ) :
    s.reactions os = (os.map fun x => (x, s.takenOf x)).map fun x =>
      (x.1, if (os.map fun x => (x, s.takenOf x)).any fun x => bit x.2 5 then setBits x.2 3 1 0 else x.2) := by
  show (if (os.map fun x => (x, s.takenOf x)).any fun x => bit x.2 5 then _ else _) = _
  generalize (os.map fun x => (x, s.takenOf x)).any (fun x => bit x.2 5) = safe
  cases safe <;> simp

/-- An occurrence of class GRAVE outside SAFE takes SAFE, and with it the cycle does. -/
theorem reactions_safe {os : List Occ} {x : Occ} (hx : x ∈ os) (hc : bits (s.srcCfg x) 0 2 = 3) (hm : s.mode ≠ .safe) :
    ∃ y ∈ s.reactions os, y.1 = x ∧ bit y.2 reactSafe = true := by
  have hsafe : bit (s.takenOf x) 5 = true := by
    have hforced : bit (bits (s.srcCfg x) 2 6 ||| 0x30) 5 = true := by
      rw [bit, Nat.testBit_or, show Nat.testBit 0x30 5 = true from rfl, Bool.or_true]
    rwa [takenOf, if_neg hm, if_pos hc]
  rw [reactions_eq]
  refine ⟨_, List.mem_map.mpr ⟨_, List.mem_map.mpr ⟨x, hx, rfl⟩, rfl⟩, rfl, ?_⟩
  dsimp only
  split
  · rw [bit_setBits, if_neg (by decide)]; exact hsafe
  · exact hsafe

/-- A cycle in which one occurrence takes SAFE enters the safe state. -/
theorem react_safe {l : List (Occ × Nat)} (h : ∃ x ∈ l, bit x.2 reactSafe = true) :
    (s.react l).standing = (.safe, s.grave) := by
  obtain ⟨y, hy⟩ : ∃ y, l.find? (fun x => bit x.2 reactSafe) = some y :=
    Option.isSome_iff_exists.mp (List.find?_isSome.mpr h)
  have hpins := each_standing (s := s) (f := fun s (x : Occ × Nat) => s.setBit (srcReg 0x010 x.1.src) (x.1.src % 32))
    (fun s _ => setBit_standing s _ _) (l.filter fun x => bit x.2 reactPin)
  simp only [react, hy]
  rw [enterSafe_standing]
  exact congrArg (Prod.mk _) (congrArg Prod.snd hpins)

/-- One occurrence that takes neither NMI, BLOCK_RESET, CHIP_RESET nor SAFE shows on its pin at most. -/
theorem react_pin (s : State) (o : Occ) {k : Nat} (hk : bits k 1 3 = 0) (hs : bit k 5 = false) :
    s.react [(o, k)] = if bit k 4 then s.setBit (srcReg 0x010 o.src) (o.src % 32) else s := by
  have hnmi : bit k 1 = false := bit_of_bits_eq_zero hk (by omega) (by omega)
  have hblock : bit k 2 = false := bit_of_bits_eq_zero hk (by omega) (by omega)
  have hchip : bit k 3 = false := bit_of_bits_eq_zero hk (by omega) (by omega)
  cases hpin : bit k 4 <;> simp [react, each, when, hpin, hnmi, hblock, hchip, hs]

/-- Outside the power-on resets the collector takes the oldest occurrence with those of its instant. -/
theorem faultTake_eq {rest : List Occ} (hocc : s.occ = o :: rest) (htime : s.timeHeld = false) :
    s.faultTake = ({ s with occ := s.occ.dropWhile fun x => x.clk == o.clk } : State).collect
      (sortOcc ((s.occ.takeWhile fun x => x.clk == o.clk).filter fun x => Nat.blt x.src 64)) := by
  unfold faultTake
  split
  · rename_i h; rw [h] at hocc; cases hocc
  · rename_i h
    rw [hocc] at h
    cases h
    exact if_neg (by simpa [timeHeld] using htime)

/-! ### An occurrence alone in its cycle that shows on its pin at most -/

theorem noted_reg_other {x : Nat} (hcount : x ≠ countReg o) (hpend : x ≠ srcReg 0x008 o.src) : (s.noted o).reg x = s.reg x := by
  rw [noted, latched_reg, reg_setBit_other hpend, bump_eq, setFld_eq, reg_setReg_other s hcount]

section

variable {k : Nat} (hsrc : o.src < 64) (hk : bits k 1 3 = 0) (hs : bit k 5 = false)
include hsrc

/-- The registers of a source lie apart from each other and from those of records. -/
theorem sourceRegs_apart : countReg o ≠ srcReg 0x008 o.src ∧ countReg o ≠ srcReg 0x010 o.src ∧
    srcReg 0x008 o.src ≠ srcReg 0x010 o.src ∧ ¬ recordReg (countReg o) ∧ ¬ recordReg (srcReg 0x008 o.src) ∧
    ¬ recordReg (srcReg 0x010 o.src) := by
  unfold countReg srcReg recordReg FLT
  omega

theorem noted_reg_count :
    (s.noted o).reg (countReg o) = setBits (s.reg (countReg o)) 0 32 (satAdd 32 (s.rf (countReg o) 0 32) 1) := by
  rw [noted, latched_reg, reg_setBit_other (sourceRegs_apart hsrc).1, bump_eq, setFld_eq, reg_setReg_same]

theorem noted_reg_pend : (s.noted o).reg (srcReg 0x008 o.src) = setBits (s.reg (srcReg 0x008 o.src)) (o.src % 32) 1 1 := by
  rw [noted, latched_reg, setBit_eq, reg_setReg_same, bump_eq, setFld_eq, reg_setReg_other s (sourceRegs_apart hsrc).1.symm]

omit hsrc
include hk hs

theorem react_pin_reg_other {x : Nat} (hpin : x ≠ srcReg 0x010 o.src) : (s.react [(o, k)]).reg x = s.reg x := by
  rw [react_pin s o hk hs]
  split
  · exact reg_setBit_other hpin
  · rfl

theorem react_pin_bit : (s.react [(o, k)]).rbit (srcReg 0x010 o.src) (o.src % 32) =
    (bit k 4 || s.rbit (srcReg 0x010 o.src) (o.src % 32)) := by
  rw [react_pin s o hk hs]
  cases bit k 4
  · simp
  · simp [rbit, setBit_eq]

/-- It is handled in registers, the collector and the latch. -/
theorem react_logOcc_only : ∃ r c, (s.logOcc o k).react [(o, k)] =
    { s with regs := r, flt := c, grave := s.grave || bits (s.srcCfg o) 0 2 == 3 } := by
  obtain ⟨r, c, h⟩ := logOcc_only s o k
  rw [react_pin _ o hk hs, h]
  split
  · exact ⟨_, c, rfl⟩
  · exact ⟨r, c, rfl⟩

include hsrc

theorem react_logOcc_count : ((s.logOcc o k).react [(o, k)]).rf (countReg o) 0 32 =
    min (2 ^ 32 - 1) (s.rf (countReg o) 0 32 + 1) := by
  obtain ⟨-, hpin, -, hrec, -, -⟩ := sourceRegs_apart hsrc
  obtain ⟨r, c, -, hlog⟩ := logOcc_records s o k
  rw [rf, react_pin_reg_other hk hs hpin, hlog _ hrec, noted_reg_count hsrc, bits_setBits_same, satAdd]
  omega

theorem react_logOcc_pend : ((s.logOcc o k).react [(o, k)]).rbit (srcReg 0x008 o.src) (o.src % 32) = true := by
  obtain ⟨-, -, hpin, -, hrec, -⟩ := sourceRegs_apart hsrc
  obtain ⟨r, c, -, hlog⟩ := logOcc_records s o k
  rw [rbit, react_pin_reg_other hk hs hpin, hlog _ hrec, noted_reg_pend hsrc]
  simp

theorem react_logOcc_pin : ((s.logOcc o k).react [(o, k)]).rbit (srcReg 0x010 o.src) (o.src % 32) =
    (bit k 4 || s.rbit (srcReg 0x010 o.src) (o.src % 32)) := by
  obtain ⟨-, hcount, hpend, -, -, hrec⟩ := sourceRegs_apart hsrc
  obtain ⟨r, c, -, hlog⟩ := logOcc_records s o k
  rw [react_pin_bit hk hs, rbit, rbit, hlog _ hrec, noted_reg_other hcount.symm hpend.symm]

/-- The registers of other blocks stay. -/
theorem react_logOcc_reg {x : Nat} (hx : x < 0x40000 ∨ 0x50000 ≤ x) : ((s.logOcc o k).react [(o, k)]).reg x = s.reg x := by
  obtain ⟨hcount, hpend, hpin, hrec⟩ : x ≠ countReg o ∧ x ≠ srcReg 0x008 o.src ∧ x ≠ srcReg 0x010 o.src ∧ ¬ recordReg x := by
    unfold countReg srcReg recordReg FLT
    omega
  obtain ⟨r, c, -, hlog⟩ := logOcc_records s o k
  rw [react_pin_reg_other hk hs hpin, hlog _ hrec, noted_reg_other hcount hpend]

end

end State
end Sys2Proof.Machine
end

section
/-! SUPPORT. What a reset leaves (R31, R62, R416, R421), and when one is refused (R340). -/

namespace Sys2Proof.Machine

/-- A store of which the entries of some keys are kept reads there as before, and elsewhere as nothing written. -/
theorem sparseGet_filter {α : Type} {d : Nat → α} (p : Nat → Bool) (k : Nat) (l : List (Nat × α)) :
    sparseGet d k (l.filter fun x => p x.1) = if p k then sparseGet d k l else d k := by
  induction l with
  | nil => simp [sparseGet]
  | cons x l ih =>
    obtain ⟨a, v⟩ := x
    by_cases hp : p a = true <;> by_cases hk : k = a
    · simp [hp, hk, sparseGet]
    · simpa [hp, hk, sparseGet] using ih
    · subst hk; simpa [hp, sparseGet] using ih
    · simpa [hp, hk, sparseGet] using ih

namespace State

variable (s : State)

/-! ### What a reset of the domains leaves -/

theorem resetAll_reg (keep : Bool) (off : Nat) :
    (s.resetAll keep).reg off = if aoReg off || keep && timeReg off then s.reg off else regReset off :=
  sparseGet_filter (fun k => aoReg k || keep && timeReg k) off s.regs

theorem resetAll_cfg (keep b : Bool) (off : Nat) :
    (s.resetAll keep).cfg b off = if keep && timeReg off then s.cfg b off else regReset off := by
  cases b <;> exact sparseGet_filter (fun k => keep && timeReg k) off _

theorem resetAll_tabBE (keep b : Bool) (x e i : Nat) : (s.resetAll keep).tabBE b x e i = State.reset.tabBE b x e i := by
  cases b <;> rfl

/-- A reset of the power-on kind takes the counts to 0. -/
theorem resetAll_count (n : Nat) : (s.resetAll false).count n = 0 := reset_count n

/-- The keeper's seconds stand in always-on registers. -/
theorem keeperSec_of_aoReg {s t : State} (h : ∀ off, aoReg off = true → t.reg off = s.reg off) : t.keeperSec = s.keeperSec := by
  simp only [keeperSec, rf, h TMB_KEEPER_SEC_HI rfl, h TMB_KEEPER_SEC_LO rfl]

/-! ### The pins -/

variable {s}

theorem refusesReset_iff : s.refusesReset = true ↔ s.grave = true ∧ s.held.mainPor = false := by simp [refusesReset]

/-- POR_N asserted: refused, or the power-on reset holds. -/
theorem porAssert_eq (hfree : s.held.porN = false) : s.porAssert =
    if s.grave = true ∧ s.held.mainPor = false then s.resetRefused
    else (s.setHeld { s.held with porN := true }).resetAll false := by
  simp only [porAssert, hfree, refusesReset_iff]
  rfl

/-- RESET_N asserted: refused, or all but TIME is reset, and TIME too where it is held already. -/
theorem resetAssert_eq (hfree : s.held.resetN = false) : s.resetAssert =
    if s.grave = true ∧ s.held.mainPor = false then s.resetRefused
    else (s.setHeld { s.held with resetN := true }).resetAll (!s.timeHeld) := by
  simp only [resetAssert, hfree, refusesReset_iff]
  rfl

theorem porRelease_eq (hlow : s.held.porN = true) (straps : Nat) :
    s.porRelease straps = (s.unhold { s.held with porN := false } straps).modeReported := if_pos hlow

/-- RESET_N released outside SAFE. -/
theorem resetRelease_eq (hlow : s.held.resetN = true) (hm : s.mode ≠ .safe) (straps : Nat) :
    s.resetRelease straps = (s.unhold { s.held with resetN := false } straps).modeReported := by
  simp [resetRelease, hlow, hm]

/-- RESET_N released where a fault has entered SAFE meanwhile (R422). -/
theorem resetRelease_of_safe (hlow : s.held.resetN = true) (hm : s.mode = .safe) (straps : Nat) :
    s.resetRelease straps = if s.grave = true then s.setHeld { s.held with resetN := false }
      else ((s.resetAll (!s.timeHeld)).unhold { s.held with resetN := false } straps).modeReported := by
  simp [resetRelease, hlow, hm]

/-! ### The supplies -/

/-- A torn record is written in registers, its end drawn. -/
theorem tornRecord_held (s : State) : s.tornRecord.held = s.held := by
  unfold tornRecord
  split
  · rfl
  · exact each_induct (P := fun t => t.held = s.held) (fun t _ h => (setReg_held t _ _).trans h) _ _ rfl

theorem mainPorFall_eq (hup : s.held.mainPor = false) :
    s.mainPorFall = (s.tornRecord.setHeld { s.tornRecord.held with mainPor := true }).resetAll false := by
  simp only [mainPorFall, hup, tornRecord_held]
  rfl

theorem mainPorRise_eq (hdown : s.held.mainPor = true) (ticks straps sb : Nat) : s.mainPorRise ticks straps sb =
    let u := s.elapse (ceilDiv (ticks * keeperTick) 256)
    let v := if u.held.aoLost then u.aoReset.setIfc { u.ifc with sbAddr := sb % 4 } else u
    ({ v with grave := false } : State).unhold { v.held with mainPor := false } straps :=
  if_neg (not_not_intro hdown)

theorem sramFall_eq (hup : s.held.sram = false) : s.sramFall = (s.setHeld { s.held with sram := true }).resetAll false := by
  simp only [sramFall, hup]
  rfl

theorem sramRecover_eq (hdown : s.held.sram = true) (straps : Nat) :
    s.sramRecover straps = s.unhold { s.held with sram := false } straps := if_pos hdown

end State
end Sys2Proof.Machine
end

section
/-! SUPPORT. The express lookup of a frame (R36, R154, R155, R197, R198). -/

namespace Sys2Proof.Machine.State

/-- The express lookup of a frame can be made: the frame waits for it, the short parse reads it, and its erg is ON. -/
structure Expressing (s : State) (id : Nat) (f : Frame) : Prop where
  forwarding : s.forwarding = true
  frame : s.frame id = some f
  waiting : f.stage = .waiting
  unlooked : f.looked = false
  reads : s.seifReads f = true
  parses : s.notParsed f = false
  awake : s.awake (domErg (ergOf f.port)) = true

variable {s : State} {id x : Nat} {f : Frame} {k : SeifKey}

theorem Expressing.not_refused (h : s.Expressing id f) : ¬ (¬ s.forwarding = true ∨ f.stage ≠ .waiting ∨ f.looked = true ∨
    ¬ s.seifReads f = true ∨ s.notParsed f = true) := by
  simp [h.forwarding, h.waiting, h.unlooked, h.reads, h.parses]

/-- A frame without a key waits for the parser, looked up. -/
theorem expressLookup_of_no_key (h : s.Expressing id f) (hkey : s.seifKey { f with looked := true } (ergOf f.port) = none) :
    s.expressLookup id = s.setFrame { f with looked := true } := by
  simp only [expressLookup, h.frame, if_neg h.not_refused, h.awake, not_true, if_false, hkey]

/-- So does a frame without a hit; while the express table is reloaded nothing hits. -/
theorem expressLookup_of_no_hit (h : s.Expressing id f) (hkey : s.seifKey { f with looked := true } (ergOf f.port) = some k)
    (hmiss : s.rbit CRS_RELOAD (10 + ergOf f.port) = true ∨ s.expressHit { f with looked := true } (ergOf f.port) k = none) :
    s.expressLookup id = s.setFrame { f with looked := true } := by
  have hnone : (if s.rbit CRS_RELOAD (10 + ergOf f.port) = true then none
      else s.expressHit { f with looked := true } (ergOf f.port) k) = none := by
    rcases hmiss with hr | hm
    · rw [if_pos hr]
    · rw [hm, ite_self]
  simp only [expressLookup, h.frame, if_neg h.not_refused, h.awake, not_true, if_false, hkey, hnone]

/-- A hit that no earlier one holds back is decided at its meter instant. -/
theorem expressLookup_of_hit (h : s.Expressing id f) (hkey : s.seifKey { f with looked := true } (ergOf f.port) = some k)
    (hload : s.rbit CRS_RELOAD (10 + ergOf f.port) = false)
    (hhit : s.expressHit { f with looked := true } (ergOf f.port) k = some x)
    (hfirst : s.meterHeld { f with looked := true } (ergOf f.port) k = false) :
    let g := { f with looked := true }
    let d := (s.elapseToRaw (s.meterInstant g k * nsUnit)).expressDecide g (ergOf f.port) x k
    s.expressLookup id = d.1.expressTaken { g with dec := d.2 } (ergOf f.port) k := by
  simp only [expressLookup, h.frame, if_neg h.not_refused, h.awake, not_true, if_false, hkey, hload, Bool.false_eq_true, hhit, hfirst]

/-- A decision that does not discard the frame and cannot take the seif path waits for the parser. -/
theorem expressTaken_general {e : Nat} (hd : f.dec.discarded = false) (hp : s.seifPath f k = false) :
    s.expressTaken f e k = s.setFrame f := by
  simp [expressTaken, hd, hp]

/-- A discarding decision and one that takes the seif path stand at once. -/
theorem expressTaken_decided {e : Nat} (h : f.dec.discarded = true ∨ s.seifPath f k = true) :
    let w := { f with parse := seifParse f k, dispatched := some s.rawNs, stage := .decided, dec := { f.dec with seif := true } }
    s.expressTaken f e k = (((((s.setFrame w).bump (ERG_PRS_SEIF_FRAMES e)).traceDecided w e).decidedEvents e 3 w).markTraced w).when
      w.dec.handle.isSome fun s => s.revote domCaravan := if_pos h

end Sys2Proof.Machine.State
end

section
/-! SUPPORT. The steps of LOAD (R369, R371 to R373), and the writes of GLB_TEST_CTL (R31, R365). -/

namespace Sys2Proof.Machine.State

variable {s : State} {j : Nat}

/-! ### Headers -/

/-- Writing the NVM part leaves the straps as sampled. -/
theorem nvmWrites_strapTwo (s : State) (l : List (Nat × Bytes)) : (s.each l fun s x => s.nvmWrite x.1 x.2).strapTwo = s.strapTwo :=
  each_induct (P := fun t => t.strapTwo = s.strapTwo) (f := fun s x => s.nvmWrite x.1 x.2) (fun _ _ h => h) l s rfl

/-- A readable part with a valid header: what it is shows in NVM_STATUS, and the copy chosen is used. -/
theorem headerRead_of_header {part : NvmPart} {copyB : Bool} (hm : s.mode = .load) (hstage : s.boot.stage = 0)
    (hrun : s.inReset = false) (hsfdp : part.sfdp = true) (hsize : 2 ^ 23 ≤ part.density) (herr : part.err = false) :
    let two := s.strapTwo && Nat.ble (2 ^ 24) part.density
    let u := s.each part.content fun s x => s.nvmWrite x.1 x.2
    let v := (((u.putBit (NVM 0) 0 two).putBit (NVM 0) 1 (s.strapTwo && !two)).setFld (NVM 0) 8 8 part.density.log2).setFld
      (NVM 0) 16 8 (min 104 part.clock)
    v.chooseHeader (b2n two) = some copyB → s.headerRead part = v.useHeader copyB := by
  intro two u v hheader
  have hwait : ¬ (s.mode ≠ .load ∨ s.boot.stage ≠ 0 ∨ s.inReset = true) := by simp [hm, hstage, hrun]
  have hpart : ¬ (¬ part.sfdp = true ∨ part.density < 2 ^ 23) := by
    rintro (h | h)
    · exact h hsfdp
    · omega
  have hstrap : u.strapTwo = s.strapTwo := nvmWrites_strapTwo s part.content
  simp only [headerRead, if_neg hwait, if_neg hpart, herr, Bool.false_eq_true, if_false, v, two, u, hstrap, hheader]

/-! ### Firmware -/

/-- The image of the firmware slot is read into area A and checked. -/
theorem firmwareCheck_read (hm : s.mode = .load) (hstage : s.boot.stage = 1) (hrun : s.inReset = false) (hslot : s.fwSlot = some j) :
    s.firmwareCheck false = if firmwareGood (s.slotBytes j) (s.headerField 24 4) then
      ((s.sramWrite 0 (s.slotBytes j)).setBoot { (s.sramWrite 0 (s.slotBytes j)).boot with areaB := false }).chooseCrest
      else (s.sramWrite 0 (s.slotBytes j)).firmwareFails j := by
  have hwait : ¬ (s.mode ≠ .load ∨ s.boot.stage ≠ 1 ∨ s.inReset = true) := by simp [hm, hstage, hrun]
  simp only [firmwareCheck, if_neg hwait, hslot, imageCheck]
  cases firmwareGood (s.slotBytes j) (s.headerField 24 4) <;> rfl

/-- An error of the NVM's first read is retried (R373). -/
theorem firmwareCheck_retried (hm : s.mode = .load) (hstage : s.boot.stage = 1) (hrun : s.inReset = false)
    (hslot : s.fwSlot = some j) (hfirst : s.boot.retried = false) :
    s.firmwareCheck true = (s.loadFails (s.slotBase j)).setBoot { s.boot with retried := true } := by
  have hwait : ¬ (s.mode ≠ .load ∨ s.boot.stage ≠ 1 ∨ s.inReset = true) := by simp [hm, hstage, hrun]
  simp only [firmwareCheck, if_neg hwait, hslot]
  exact if_pos (by simp [hfirst])

/-! ### Crest sections -/

/-- A good section is applied, and after the last one the first commit is asked for. -/
theorem sectionApply_good (hm : s.mode = .load) (hstage : s.boot.stage = 2) (hready : s.boot.ready = true) (hrun : s.inReset = false)
    (hslot : s.slotIn kindCrest slotActive = some j) (hheader : crestHeaderGood (s.slotBytes j) = true)
    (hmore : s.boot.applied < ofLe (((s.slotBytes j).drop 20).take 4))
    (hgood : (sectionAt (s.slotBytes j) s.boot.next).good = true) :
    let b := s.slotBytes j
    let count := ofLe ((b.drop 20).take 4)
    let sec := sectionAt b s.boot.next
    let u := s.loadSection sec
    let v := u.setBoot { u.boot with applied := u.boot.applied + 1, next := u.boot.next + 16 + sec.body.length }
    s.sectionApply false = if count ≤ v.boot.applied then v.firstCommit b else v := by
  have hwait : ¬ (s.mode ≠ .load ∨ s.boot.stage ≠ 2 ∨ ¬ s.boot.ready = true ∨ s.inReset = true) := by
    simp [hm, hstage, hready, hrun]
  have hsound : ¬ (false = true ∨ ¬ crestHeaderGood (s.slotBytes j) = true) := by simp [hheader]
  simp only [sectionApply, if_neg hwait, hslot, if_neg hsound, if_neg (Nat.not_le.mpr hmore), hgood, not_true, if_false]

/-! ### GLB_TEST_CTL -/

theorem arrived_mode (s : State) (rq : Requester) (off code : Nat) : (s.arrived rq off code).mode = s.mode := by
  obtain ⟨r, p, h⟩ := arrived_only s rq off code
  rw [h]; rfl

theorem storing_mode (s : State) (off v : Nat) : (s.storing off v).mode = s.mode := by
  unfold storing
  split <;> rfl

/-- The host's write of GLB_TEST_CTL is its control of TEST. -/
theorem busWrite_testCtl (h : s.accepts .host GLB_TEST_CTL true) (v : Word) :
    s.busWrite .host GLB_TEST_CTL v =
      ((s.arrived .host GLB_TEST_CTL 2).storing GLB_TEST_CTL v.toNat).testControl v.toNat :=
  busWrite_plain_of_not_ignored h (b := .glb) (base := 0) (by decide +kernel) rfl v

/-- The management core's write of it is ignored (R365). -/
theorem busWrite_testCtl_mgmt (h : s.accepts .mgmt GLB_TEST_CTL true) (v : Word) :
    s.busWrite .mgmt GLB_TEST_CTL v = s.arrived .mgmt GLB_TEST_CTL 2 :=
  (busWrite_served h (by decide +kernel) v).trans (if_pos rfl)

/-- ENTER with the key from RUN wakes every domain and enters TEST (R31, R316). -/
theorem testControl_enter (hm : s.mode = .run) :
    s.testControl 0x7E570001 = (s.each (List.range 22) fun s d => s.wake d).setMode .test := by
  have hkey : ¬ bits 0x7E570001 16 16 ≠ keyTest := by decide
  have henter : bit 0x7E570001 0 = true ∧ s.mode = .run := ⟨by decide, hm⟩
  simp only [testControl, if_neg hkey, if_pos henter]

/-- EXIT with the key from TEST begins LOAD again (R31). -/
theorem testControl_exit (hm : s.mode = .test) : s.testControl 0x7E570002 = s.reload := by
  have hkey : ¬ bits 0x7E570002 16 16 ≠ keyTest := by decide
  have henter : ¬ (bit 0x7E570002 0 = true ∧ s.mode = .run) := by simp [hm]
  have hexit : bit 0x7E570002 1 = true ∧ s.mode = .test := ⟨by decide, hm⟩
  simp only [testControl, if_neg hkey, if_neg henter, if_pos hexit]

end Sys2Proof.Machine.State
end

section
/-! PROOFS. Fault occurrences, the express lookup, resets, and the steps of LOAD. -/

namespace Sys2Proof.Proofs

open Sys2Proof.Machine State

/-- Settles O42: the collector handles the cycle of the oldest occurrence; a grave one takes SAFE, and one alone that takes no
reaction beside its pin is handled in the fault registers, the records and the latch. -/
theorem faultOccurrence : Obligations.FaultOccurrence := by
  intro s o rest hocc htime u l masks safe taken t
  have htaken : u.reactions l = taken := reactions_eq u l
  refine ⟨?taken, fun x hx hc hm => ?grave, fun hl hk hs => ?alone⟩
  case taken =>
    show finish s.faultTake = finish t
    rw [faultTake_eq hocc htime]
    show finish ((u.each (u.reactions l) fun s x => s.logOcc x.1 x.2).react (u.reactions l)) = finish t
    rw [htaken]
  case grave =>
    obtain ⟨y, hy, rfl, hsafe⟩ := reactions_safe (s := u) hx hc hm
    rw [htaken] at hy
    have hlatch : (u.each taken fun s x => s.logOcc x.1 x.2).grave = true := logAll_grave taken u (.inr ⟨y, hy, hc⟩)
    have hstanding : t.standing = (.safe, true) := hlatch ▸ react_safe ⟨y, hy, hsafe⟩
    exact ⟨congrArg Prod.snd hstanding, congrArg Prod.fst hstanding⟩
  case alone =>
    have hsrc : o.src < 64 := by
      have ho : o ∈ l := hl ▸ List.mem_singleton_self o
      simpa using (List.mem_filter.mp (mem_of_mem_sortOcc ho)).2
    have ht : t = (u.logOcc o (u.takenOf o)).react [(o, u.takenOf o)] := by
      have hone : taken = [(o, u.takenOf o)] := by simp [taken, safe, masks, hl, hs]
      show (u.each taken fun s x => s.logOcc x.1 x.2).react taken = _
      rw [hone]; rfl
    obtain ⟨r, c, honly⟩ := react_logOcc_only (s := u) (o := o) hk hs
    rw [ht]
    refine ⟨react_logOcc_count hsrc hk hs, react_logOcc_pend hsrc hk hs, react_logOcc_pin hsrc hk hs, ?_,
      fun x hx => react_logOcc_reg hsrc hk hs hx, ?_⟩
    · rw [honly]
    · rw [honly]

/-- Settles O46: a pin's assertion is a reset of the domains, which keeps the entries of the stores that it names and nothing
else. -/
theorem resetLeaves : Obligations.ResetLeaves := by
  intro s hlatch
  have hr : ¬ (s.grave = true ∧ s.held.mainPor = false) := by simpa [imp_iff_not_or] using hlatch
  refine ⟨fun hfree => ⟨((s.setHeld { s.held with porN := true }).resetAll false).finished, ?porExec, ?porState⟩, fun hfree htime =>
    ⟨((s.setHeld { s.held with resetN := true }).resetAll true).finished, ?resetExec, ?resetState⟩⟩
  case porExec =>
    show finish s.porAssert = _
    rw [porAssert_eq hfree, if_neg hr, finish_next]
  case porState =>
    obtain ⟨i, l, h⟩ := finished_only ((s.setHeld { s.held with porN := true }).resetAll false)
    rw [h]
    have hreg := resetAll_reg (s.setHeld { s.held with porN := true }) false
    have hcfg := resetAll_cfg (s.setHeld { s.held with porN := true }) false
    simp only [Bool.false_and, Bool.or_false, Bool.false_eq_true, if_false] at hreg hcfg
    exact ⟨hreg, hcfg, fun b x e i => resetAll_tabBE s false b x e i, rfl, rfl, rfl, resetAll_count s,
      keeperSec_of_aoReg fun off hao => (hreg off).trans (if_pos hao), rfl, rfl, rfl, rfl, rfl⟩
  case resetExec =>
    show finish s.resetAssert = _
    rw [resetAssert_eq hfree, if_neg hr, finish_next, htime]
    rfl
  case resetState =>
    obtain ⟨i, l, h⟩ := finished_only ((s.setHeld { s.held with resetN := true }).resetAll true)
    rw [h]
    have hreg := resetAll_reg (s.setHeld { s.held with resetN := true }) true
    have hcfg := resetAll_cfg (s.setHeld { s.held with resetN := true }) true
    simp only [Bool.true_and] at hreg hcfg
    exact ⟨hreg, hcfg, rfl, rfl, fun _ => rfl, rfl, rfl, rfl, rfl, rfl⟩

/-- Settles O45: each command is a hold that begins or ends, `unhold` and `modeReported` being what the statement writes out. -/
theorem resetCommands : Obligations.ResetCommands := by
  intro s straps ticks sb ended reported
  have hended : ∀ u h, u.unhold h straps = ended u h := fun _ _ => rfl
  have hreported : ∀ u, u.modeReported = reported u := fun _ => rfl
  refine ⟨fun h => ?mainFall, fun h => ?mainRise, fun h => ?sramFall, fun h => ?sramRise, fun h => ?porAssert, fun h => ?porRelease,
    fun h => ?resetAssert, fun h hm => ?resetRelease, fun h hm => ?resetReleaseSafe⟩
  case mainFall => exact congrArg finish (mainPorFall_eq h)
  case mainRise => exact congrArg finish ((mainPorRise_eq h ticks straps sb).trans (hended _ _))
  case sramFall => exact congrArg finish (sramFall_eq h)
  case sramRise => exact congrArg finish ((sramRecover_eq h straps).trans (hended _ _))
  case porAssert => exact congrArg finish (porAssert_eq h)
  case porRelease => exact congrArg finish (by rw [porRelease_eq h, hended, hreported])
  case resetAssert => exact congrArg finish (resetAssert_eq h)
  case resetRelease => exact congrArg finish (by rw [resetRelease_eq h hm, hended, hreported])
  case resetReleaseSafe =>
    show finish (s.resetRelease straps) = _
    rw [resetRelease_of_safe h hm, hended, hreported]
    split <;> rfl

/-- Settles O23: without a key or a hit the frame waits for the parser; a hit is decided, and its decision stands at once or
goes through the parser. -/
theorem expressLookup : Obligations.ExpressLookup := by
  intro s id x f k hfwd hframe hwait hlook hreads hparses hawake e g
  have h : s.Expressing id f := ⟨hfwd, hframe, hwait, hlook, hreads, hparses, hawake⟩
  refine ⟨fun hkey => ?noKey, fun hkey hmiss => ?noHit, fun hkey hload hhit hfirst => ⟨fun htaken => ?decided,
    fun hd hp => ?general⟩⟩
  case noKey => exact congrArg finish (expressLookup_of_no_key h hkey)
  case noHit => exact congrArg finish (expressLookup_of_no_hit h hkey hmiss)
  case decided =>
    exact congrArg finish ((expressLookup_of_hit h hkey hload hhit hfirst).trans (expressTaken_decided htaken))
  case general =>
    exact congrArg finish ((expressLookup_of_hit h hkey hload hhit hfirst).trans (expressTaken_general hd hp))

/-- Settles O48: each step of LOAD, its conditions given, is one branch of the loader; the host's write of GLB_TEST_CTL is its
control of TEST, and the core's is ignored. -/
theorem loadCommands : Obligations.LoadCommands := by
  intro s part j copyB
  refine ⟨fun hm => ?ready, fun hm hstage hrun hsfdp hsize herr => ?header, fun hm hstage hrun hslot =>
    ⟨?firmware, fun hfirst => ?retry⟩, fun hm hstage hready hrun hslot => ?crest, fun h => ⟨fun hm => ?enter, fun hm => ?exit⟩,
    fun h => ⟨?enterMgmt, ?exitMgmt⟩⟩
  case ready => exact congrArg finish (if_pos hm)
  case header =>
    intro two u v hheader w
    show finish (s.headerRead part) = finish (v.useHeader copyB)
    rw [headerRead_of_header hm hstage hrun hsfdp hsize herr hheader]
  case firmware => exact congrArg finish (firmwareCheck_read hm hstage hrun hslot)
  case retry => exact congrArg finish (firmwareCheck_retried hm hstage hrun hslot hfirst)
  case crest =>
    intro b count sec hheader hmore hgood u v
    exact congrArg finish (sectionApply_good hm hstage hready hrun hslot hheader hmore hgood)
  case enter =>
    have hmode : ((s.arrived .host GLB_TEST_CTL 2).storing GLB_TEST_CTL 0x7E570001).mode = .run := by
      rw [storing_mode, arrived_mode, hm]
    exact congrArg finish ((busWrite_testCtl h 0x7E570001).trans (testControl_enter hmode))
  case exit =>
    have hmode : ((s.arrived .host GLB_TEST_CTL 2).storing GLB_TEST_CTL 0x7E570002).mode = .test := by
      rw [storing_mode, arrived_mode, hm]
    exact congrArg finish ((busWrite_testCtl h 0x7E570002).trans (testControl_exit hmode))
  case enterMgmt => exact congrArg finish (busWrite_testCtl_mgmt h 0x7E570001)
  case exitMgmt => exact congrArg finish (busWrite_testCtl_mgmt h 0x7E570002)

end Sys2Proof.Proofs
end

section
/-! SUPPORT. The time bases: what passing time, a new count, and the registers of a SET or STEP leave (R38, R39, R41, R44). -/

namespace Sys2Proof.Machine.State

variable (s : State)

/-! ### Writes of registers leave the time

The proofs are `(rfl)` so that `simp` rewrites with these and does not unfold the updates. -/

@[simp] theorem setFld_time (off lo w v : Nat) : (s.setFld off lo w v).time = s.time := (rfl)

@[simp] theorem setBit_time (off i : Nat) : (s.setBit off i).time = s.time := (rfl)

@[simp] theorem bump_time (off : Nat) : (s.bump off).time = s.time := by
  rw [bump_eq, setFld_time]

/-! ### Passing time leaves four counts -/

@[simp] theorem event_time (u code n : Nat) (a : Attr) : (s.event u code n a).time = s.time := by
  obtain ⟨r, h⟩ := event_only s u code n a
  rw [h]

@[simp] theorem monCycles_time (n : Nat) : (s.monCycles n).time = s.time := by
  unfold monCycles
  split
  · rfl
  · refine each_induct (P := fun t => t.time = s.time) (fun t e h => ?_) _ _ rfl
    dsimp only
    split
    · rw [event_time, event_time, h]
    · rw [event_time, h]

@[simp] theorem monStalls_time (n : Nat) : (s.monStalls n).time = s.time := by
  unfold monStalls
  split
  · rfl
  · exact s.event_time _ _ _ _

theorem aoCarry_time : s.aoCarry.time = s.time :=
  each_induct (P := fun t => t.time = s.time) (fun t x h => by split <;> exact h) s.ifc.aoWrites s rfl

theorem setKeeper_time (sec ticks : Nat) : (s.setKeeper sec ticks).time = s.time := by
  simp [setKeeper]

/-- The keeper's ticks are no count of a time base. -/
theorem keeperTicks_cnt (n : Nat) : (s.keeperTicks n).time.cnt = s.time.cnt := by
  unfold keeperTicks
  split
  · rfl
  · simp only [setKeeper_time]

theorem aoEdges_cnt (n : Nat) : (s.aoEdges n).time.cnt = s.time.cnt := by
  unfold aoEdges
  split
  · rfl
  · exact (keeperTicks_cnt _ n).trans (congrArg Time.cnt s.aoCarry_time)

theorem elapse_cnt_length {s : State} (h : s.time.cnt.length = 4) (n : Nat) : (s.elapse n).time.cnt.length = 4 := by
  unfold elapse
  split
  · exact h
  · simp only [monStalls_time, monCycles_time, aoEdges_cnt]
    split
    · exact h
    · simp

/-! ### A count replaced -/

variable {s}

theorem setCount_count_same {n : Nat} (h : n < s.time.cnt.length) (c : Nat) : (s.setCount n c).count n = wrapCount c := by
  simp [count, setCount, h]

theorem setCount_count_other {n m : Nat} (h : m ≠ n) (c : Nat) : (s.setCount n c).count m = s.count m := by
  simp [count, setCount, h.symm]

/-! ### What SET and STEP leave behind -/

theorem adjusted_lastAdj (n old : Nat) : (s.adjusted n old).reg (TMB_TB_LAST_ADJ n) = ns32 (s.count n) :=
  reg_setReg_same ((s.setFld (TMB_TB_STATUS n) 0 1 1).wrapFld (TMB_TB_STATUS n) 8 8) _ _

/-- TMB_TBn_STATUS has VALID set and STEP_COUNT one higher. -/
theorem adjusted_status (n old : Nat) : (s.adjusted n old).reg (TMB_TB_STATUS n) =
    setBits (setBits (s.reg (TMB_TB_STATUS n)) 0 1 1) 8 8 (s.rf (TMB_TB_STATUS n) 8 8 + 1) := by
  have hkept : (s.adjusted n old).reg (TMB_TB_STATUS n) =
      ((s.setFld (TMB_TB_STATUS n) 0 1 1).wrapFld (TMB_TB_STATUS n) 8 8).reg (TMB_TB_STATUS n) :=
    reg_setReg_other _ (by unfold TMB_TB_STATUS TMB_TB_LAST_ADJ; omega)
  rw [hkept, wrapFld_eq, setFld_eq, setFld_eq, reg_setReg_same, reg_setReg_same, rf, reg_setReg_same,
    bits_setBits_other (.inr (by decide)), rf]

/-- A new count taken: it is that count modulo its width, the status and LAST_ADJ tell of it, and the raw counts and the other
time bases stand. -/
theorem setCount_adjusted {n : Nat} (h : n < s.time.cnt.length) (c old : Nat) :
    let t := (s.setCount n c).adjusted n old
    t.count n = wrapCount c ∧ t.rbit (TMB_TB_STATUS n) 0 = true ∧
      t.rf (TMB_TB_STATUS n) 8 8 = (s.rf (TMB_TB_STATUS n) 8 8 + 1) % 256 ∧ t.reg (TMB_TB_LAST_ADJ n) = ns32 (t.count n) ∧
      ∀ m, t.rawCount m = s.rawCount m ∧ (m ≠ n → t.count m = s.count m) := by
  intro t
  have hstatus : t.reg (TMB_TB_STATUS n) =
      setBits (setBits (s.reg (TMB_TB_STATUS n)) 0 1 1) 8 8 (s.rf (TMB_TB_STATUS n) 8 8 + 1) := adjusted_status n old
  refine ⟨setCount_count_same h c, ?valid, ?steps, adjusted_lastAdj n old, fun m => ⟨rfl, fun hm => setCount_count_other hm c⟩⟩
  case valid =>
    rw [rbit, hstatus, bit, testBit_setBits, testBit_setBits]
    simp
  case steps => rw [rf, hstatus, bits_setBits_same]; rfl

end Sys2Proof.Machine.State
end

section
/-! SUPPORT. TIME_IO pins: captures, pulses and the sequence of edges (R58 to R60); the keeper (R61, R62). -/

namespace Sys2Proof.Machine.State

variable {s : State} {i : Nat}

/-! ### Captures -/

/-- The level of a pin is no part of how it is configured. -/
theorem putBit_level_reg (s : State) (i : Nat) (b : Bool) : (s.putBit (TMB_TIO_STATUS i) 2 b).reg (TMB_TIO i) = s.reg (TMB_TIO i) :=
  reg_setReg_other s (by unfold TMB_TIO_STATUS; omega)

/-- Nor of what the pin has captured. -/
theorem putBit_level_event (s : State) (i : Nat) (b : Bool) :
    (s.putBit (TMB_TIO_STATUS i) 2 b).rbit (TMB_TIO_STATUS i) 0 = s.rbit (TMB_TIO_STATUS i) 0 := by
  rw [putBit_eq, rbit, reg_setReg_same, bit, testBit_setBits]
  simp [rbit, bit]

theorem tioEdge_of_safe (h : s.mode = .safe) (rising : Bool) (dev : Int) : s.tioEdge i rising dev = s := if_pos (.inr h)

/-- A selected edge at a capture pin outside SAFE shows at LEVEL, and EVENT decides between a capture and an overrun. -/
theorem tioEdge_selected {rising : Bool} (hm : s.mode ≠ .safe) (hmode : s.tioMode i = 1) (hsel : s.tioSelects i rising = true)
    (dev : Int) :
    let l := s.putBit (TMB_TIO_STATUS i) 2 rising
    s.tioEdge i rising dev =
      if s.rbit (TMB_TIO_STATUS i) 0 then (l.setBit (TMB_TIO_STATUS i) 1).setBit TMB_IRQ_STATUS (5 + i)
      else ((l.tioCapture i (shiftCount (l.count (l.tioTb i)) (clampInt (-1024) 1024 dev * 2 ^ 32))).setBit (TMB_TIO_STATUS i) 0).setBit
        TMB_IRQ_STATUS (1 + i) := by
  intro l
  have hout : ¬ (s.tioMode i = 2 ∨ s.mode = .safe) := by simp [hmode, hm]
  have hcapture : l.tioMode i = 1 ∧ l.tioSelects i rising = true := by
    simp only [tioMode, tioSelects, rf, l, putBit_level_reg]
    exact ⟨hmode, hsel⟩
  rw [tioEdge, if_neg hout, if_pos hcapture, putBit_level_event]
  rfl

/-! ### Pulses -/

theorem edgeAfter_of_lt {start a : Nat} (h : a < start) (period : Nat) : edgeAfter start period a = start := if_pos h

theorem edgeAfter_of_le {start a : Nat} (h : start ≤ a) (period : Nat) :
    edgeAfter start period a = start + ((a - start) / period + 1) * period := if_neg (Nat.not_lt.mpr h)

theorem edgeAfter_mem (start period a : Nat) : ∃ k, edgeAfter start period a = start + k * period := by
  unfold edgeAfter
  split
  · exact ⟨0, by simp⟩
  · exact ⟨_, rfl⟩

theorem lt_edgeAfter {period : Nat} (hp : 0 < period) (start a : Nat) : a < edgeAfter start period a := by
  rcases Nat.lt_or_ge a start with h | h
  · rwa [edgeAfter_of_lt h]
  · have hnext : a - start < ((a - start) / period + 1) * period := by
      rw [Nat.mul_comm]; exact Nat.lt_mul_div_succ _ hp
    rw [edgeAfter_of_le h]
    omega

/-- An edge later than `a` is not before it. -/
theorem edgeAfter_le {start period a j : Nat} (hp : 0 < period) (hj : a < start + j * period) :
    edgeAfter start period a ≤ start + j * period := by
  rcases Nat.lt_or_ge a start with h | h
  · rw [edgeAfter_of_lt h]
    exact Nat.le_add_right _ _
  · have hquot : (a - start) / period + 1 ≤ j := (Nat.div_lt_iff_lt_mul hp).mpr (by omega)
    rw [edgeAfter_of_le h]
    exact Nat.add_le_add_left (Nat.mul_le_mul_right _ hquot) _

theorem setTio_tioDrive (s : State) (i : Nat) (t : Tio) (active : Bool) : (s.setTio i t).tioDrive i active =
    (s.setTio i t).putBit (TMB_TIO_STATUS i) 2 (active != s.rbit (TMB_TIO i) 6) := rfl

/-- A pulse drives the pin to its active level at its edge and keeps its end. -/
theorem tioPulse_output (hmode : s.tioMode i = 2) (hm : s.mode ≠ .safe) :
    let e := s.tioNext i
    let u := s.elapseTo (s.tioTb i) e
    s.tioPulse i = (u.setTio i { after := some e, pulseEnd := some (e + u.tioWidth i * nsUnit) }).putBit (TMB_TIO_STATUS i) 2
      (!u.rbit (TMB_TIO i) 6) := by
  intro e u
  have hout : ¬ (s.tioMode i ≠ 2 ∨ s.mode = .safe) := by simp [hmode, hm]
  simp only [tioPulse, if_neg hout, setTio_tioDrive, Bool.true_bne, u, e]

/-- Its end drives the pin back. -/
theorem tioEnd_output {e : Nat} (h : (s.tio i).pulseEnd = some e) :
    let u := s.elapseTo (s.tioTb i) e
    s.tioEnd i = (u.setTio i { u.tio i with pulseEnd := none }).putBit (TMB_TIO_STATUS i) 2 (u.rbit (TMB_TIO i) 6) := by
  intro u
  simp only [tioEnd, h, setTio_tioDrive, Bool.false_bne, u]

/-! ### The keeper (R61, R62) -/

theorem keeperRealign_atRollover (hmain : s.mainLost = false) (htime : s.timeHeld = false) (hroll : s.atRollover = true) (err : Int) :
    let u := s.setKeeper (s.count 0 / secUnit) 0
    let w := { u with time := { u.time with phase := 0 } }
    s.keeperRealign err = ((w.putBit TMB_KEEPER_STATUS 2 (w.rbit (TMB_TB_STATUS 0) 0)).setBit TMB_KEEPER_STATUS 0).setReg
      TMB_KEEPER_ERR (unsigned 32 err) := by
  have hruns : ¬ (s.mainLost = true ∨ s.timeHeld = true) := by simp [hmain, htime]
  rw [keeperRealign, if_neg hruns, toRollover, if_pos hroll]

/-- With the accumulator outside its 24 bits the tick is due at once. -/
theorem keeperCorrect_due (h : s.time.acc < 0 ∨ (2 ^ 24 : Int) ≤ s.time.acc) : s.keeperCorrect = s.keeperCarry := by
  have hdue : s.ticksToCarry = some 0 := if_pos h
  simp only [keeperCorrect, hdue, if_true]

end Sys2Proof.Machine.State
end

section
/-! SUPPORT. Transmit timestamp queues: what a read of their registers shows and removes, and what an arrival leaves (R56, R57). -/

namespace Sys2Proof.Machine.State

variable {s : State} {rq : Requester} {p : Nat}

/-! ### The queue of a port -/

theorem setTxts_txtsQueue {q : List TxtsEntry} (h : p < s.time.txts.length) : (s.setTxts p q).txtsQueue p = q := by
  simp [txtsQueue, h]

/-- A port with an entry queued has a queue. -/
theorem lt_length_of_txtsQueue_ne_nil (h : s.txtsQueue p ≠ []) : p < s.time.txts.length := by
  by_contra hp
  exact h (by simp [txtsQueue, Nat.le_of_not_lt hp])

theorem txtsPop_txtsQueue (s : State) (p : Nat) : (s.txtsPop p).txtsQueue p = (s.txtsQueue p).tail := by
  rcases Nat.lt_or_ge p s.time.txts.length with h | h
  · exact setTxts_txtsQueue h
  · simp [txtsPop, txtsQueue, h]

/-- An arrival joins the queue behind what waits there, or is not queued. -/
theorem txtsWrite_txtsQueue (h : s.txtsQueue p ≠ []) (x : TxtsEntry) :
    ∃ l, (s.txtsWrite p x).txtsQueue p = s.txtsQueue p ++ l := by
  unfold txtsWrite
  split
  · exact ⟨[], (List.append_nil _).symm⟩
  · split
    · refine ⟨[], (congrArg (fun t : Time => t.txts.getD p []) ?_).trans (List.append_nil _).symm⟩
      rw [raise_time, setBit_time, bump_time, setBit_time]
    · exact ⟨[x], setTxts_txtsQueue (lt_length_of_txtsQueue_ne_nil h)⟩

theorem txtsLo_of_cons {e : TxtsEntry} {q : List TxtsEntry} (h : s.txtsQueue p = e :: q) : s.txtsLo p = e.ns32 := by
  simp only [txtsLo, h]

theorem txtsHi_of_cons {e : TxtsEntry} {q : List TxtsEntry} (h : s.txtsQueue p = e :: q) :
    s.txtsHi p = e.frac + e.tb * 2 ^ 8 + b2n e.dropped * 2 ^ 10 + 2 ^ 11 + e.id * 2 ^ 16 := by
  simp only [txtsHi, h]

theorem txtsHi_of_nil (h : s.txtsQueue p = []) : s.txtsHi p = 0 := by
  simp only [txtsHi, h]

/-! ### The two registers -/

/-- A register of TMB in the normal view with these fields, all read-only. -/
def TmbRead (off : Nat) (fields : List Fld) : Prop :=
  inMirror off = false ∧ blockOf off = some (.tmb, 0x20000) ∧ (findReg off).map (fun x => x.1.fields) = some fields ∧
    allRo fields = true

/-- The fields of TMB_TXTS_HI: fraction, time base, dropped, VALID, identifier. -/
def txtsHiFields : List Fld := [ro 0 8 0, ro 8 2 0, ro 10 1 0, ro 11 1 0, ro 16 16 0]

theorem tmbRead_txtsLo : ∀ p < 64, TmbRead (TMB_TXTS_LO p) [ro 0 32 0] := by
  unfold TmbRead; decide +kernel

theorem tmbRead_txtsHi : ∀ p < 64, TmbRead (TMB_TXTS_HI p) txtsHiFields := by
  unfold TmbRead; decide +kernel

/-- A read of such a register clears no field: it has its effect and returns the word that the block shows. -/
theorem busRead_tmb {off : Nat} {fields : List Fld} (hread : TmbRead off fields) (h : s.accepts rq off false) :
    let u := s.arrived rq off 1
    ∃ v, s.busRead rq off = (u.readEffect rq off).readDone rq off true (readValue fields (u.showTmb (off - 0x20000) v) % 2 ^ 32) := by
  intro u
  obtain ⟨hnormal, hblock, hrow, hreadOnly⟩ := hread
  obtain ⟨⟨r, i⟩, hr, hfields⟩ := Option.map_eq_some_iff.mp hrow
  obtain rfl : r.fields = fields := hfields
  have hstays : r.fields.any (fun f => f.acc == .rc) = false := by
    rw [List.any_eq_false]
    intro f hf
    have hro : f.acc = .ro := by simpa using List.all_eq_true.mp hreadOnly f hf
    simp [hro]
  have hview : viewOff off = off := by simp [viewOff, hnormal]
  refine ⟨u.readStored r off false, ?_⟩
  rw [busRead_served h, hview, hnormal]
  simp only [registerRead, hr, hblock, hstays, showWord, Bool.false_eq_true, if_false, u]

/-- A word of a port's registers in TMB, by its place among them. -/
theorem portWord {k : Nat} (hp : p < 64) (hk : k < 0x20) : let o := 0x1000 + p * 0x20 + k
    ¬ (o < 0x1000 ∨ 0x1800 ≤ o) ∧ o % 0x20 = k ∧ (o - 0x1000) / 0x20 = p := by omega

/-- Both registers show the head of the queue whatever is stored there. -/
theorem showTmb_txtsLo (h : p < 64) (s : State) (v : Nat) : s.showTmb (TMB_TXTS_LO p - 0x20000) v = s.txtsLo p := by
  have hoff : TMB_TXTS_LO p - 0x20000 = 0x1000 + p * 0x20 + 0x18 := by unfold TMB_TXTS_LO; omega
  obtain ⟨hin, hword, hport⟩ := portWord (k := 0x18) h (by decide)
  rw [hoff, showTmb.eq_3 _ _ _ (by omega) (by omega)]
  simp only [if_neg hin, hword, hport]

@[inherit_doc showTmb_txtsLo]
theorem showTmb_txtsHi (h : p < 64) (s : State) (v : Nat) : s.showTmb (TMB_TXTS_HI p - 0x20000) v = s.txtsHi p := by
  have hoff : TMB_TXTS_HI p - 0x20000 = 0x1000 + p * 0x20 + 0x1C := by unfold TMB_TXTS_HI; omega
  obtain ⟨hin, hword, hport⟩ := portWord (k := 0x1C) h (by decide)
  rw [hoff, showTmb.eq_3 _ _ _ (by omega) (by omega)]
  simp only [if_neg hin, hword, hport]

/-- A read of the low word removes nothing. -/
theorem readEffect_txtsLo (h : p < 64) (s : State) (rq : Requester) : s.readEffect rq (TMB_TXTS_LO p) = s := by
  have hword : ¬ (0x21000 ≤ TMB_TXTS_LO p ∧ TMB_TXTS_LO p < 0x21800 ∧ TMB_TXTS_LO p % 0x20 = 0x1C) := by
    unfold TMB_TXTS_LO; omega
  have halloc : TMB_TXTS_LO p ≠ OAS_ALLOC_RESULT := by unfold TMB_TXTS_LO OAS_ALLOC_RESULT; omega
  have hdump : TMB_TXTS_LO p ≠ MON 0x044 := by unfold TMB_TXTS_LO MON; omega
  rw [readEffect, if_neg hword, if_neg halloc, if_neg hdump]

/-- A read of the high word removes the head. -/
theorem readEffect_txtsHi (h : p < 64) (s : State) (rq : Requester) : s.readEffect rq (TMB_TXTS_HI p) = s.txtsPop p := by
  have hword : 0x21000 ≤ TMB_TXTS_HI p ∧ TMB_TXTS_HI p < 0x21800 ∧ TMB_TXTS_HI p % 0x20 = 0x1C := by
    unfold TMB_TXTS_HI; omega
  have hport : (TMB_TXTS_HI p - 0x21000) / 0x20 = p := by unfold TMB_TXTS_HI; omega
  rw [readEffect, if_pos hword, hport]

/-! ### The words that they return -/

theorem readValue_txtsLo {v : Nat} (h : v < 2 ^ 32) : readValue [ro 0 32 0] v % 2 ^ 32 = v := by
  simp only [readValue, ro, bits, List.foldl_cons, List.foldl_nil, reduceCtorEq, if_false, Nat.shiftRight_eq_div_pow,
    Nat.shiftLeft_eq]
  omega

theorem readValue_txtsHi {frac tb id : Nat} (hfrac : frac < 256) (htb : tb < 4) (hid : id < 65536) (dropped : Bool) :
    readValue txtsHiFields (frac + tb * 2 ^ 8 + b2n dropped * 2 ^ 10 + 2 ^ 11 + id * 2 ^ 16) % 2 ^ 32 =
      frac + tb * 2 ^ 8 + b2n dropped * 2 ^ 10 + 2 ^ 11 + id * 2 ^ 16 := by
  have hdropped : b2n dropped < 2 := by cases dropped <;> decide
  simp only [readValue, txtsHiFields, ro, bits, List.foldl_cons, List.foldl_nil, reduceCtorEq, if_false,
    Nat.shiftRight_eq_div_pow, Nat.shiftLeft_eq]
  omega

/-! ### The reads -/

theorem arrived_txtsQueue (s : State) (rq : Requester) (off code p : Nat) :
    (s.arrived rq off code).txtsQueue p = s.txtsQueue p := by
  obtain ⟨r, w, h⟩ := arrived_only s rq off code
  rw [h]; rfl

theorem arrived_reads (s : State) (rq : Requester) (off code : Nat) : (s.arrived rq off code).ifc.reads = [] := by
  obtain ⟨r, w, h⟩ := arrived_only s rq off code
  rw [h]; rfl

/-- The low word is returned and the queue stays. -/
theorem busRead_txtsLo (hp : p < 64) (h : s.accepts rq (TMB_TXTS_LO p) false) :
    s.busRead rq (TMB_TXTS_LO p) = (s.arrived rq (TMB_TXTS_LO p) 1).readDone rq (TMB_TXTS_LO p) true
      (readValue [ro 0 32 0] ((s.arrived rq (TMB_TXTS_LO p) 1).txtsLo p) % 2 ^ 32) := by
  obtain ⟨v, hv⟩ := busRead_tmb (tmbRead_txtsLo p hp) h
  rw [hv, readEffect_txtsLo hp, showTmb_txtsLo hp]

/-- The high word is returned and the head goes. -/
theorem busRead_txtsHi (hp : p < 64) (h : s.accepts rq (TMB_TXTS_HI p) false) :
    s.busRead rq (TMB_TXTS_HI p) = ((s.arrived rq (TMB_TXTS_HI p) 1).txtsPop p).readDone rq (TMB_TXTS_HI p) true
      (readValue txtsHiFields ((s.arrived rq (TMB_TXTS_HI p) 1).txtsHi p) % 2 ^ 32) := by
  obtain ⟨v, hv⟩ := busRead_tmb (tmbRead_txtsHi p hp) h
  rw [hv, readEffect_txtsHi hp, showTmb_txtsHi hp]

/-- What a command that ends in a completed read shows: that read after the reads before it, and the queues as they are. -/
theorem readDone_finished_reads (s : State) (rq : Requester) (addr : Nat) (ok : Bool) (v : Nat) :
    (s.readDone rq addr ok v).finished.ifc.reads = s.ifc.reads ++ [{ rq, addr, ok, value := v }] := rfl

theorem readDone_finished_txtsQueue (s : State) (rq : Requester) (addr : Nat) (ok : Bool) (v p : Nat) :
    (s.readDone rq addr ok v).finished.txtsQueue p = s.txtsQueue p := rfl

/-- TXTS_POP completes one read, of the high word, and leaves the queue without its head. -/
theorem txtsPop_served (hp : p < 64) (h : s.accepts rq (TMB_TXTS_HI p) false) {v : Nat}
    (hv : readValue txtsHiFields (s.txtsHi p) % 2 ^ 32 = v) : ∃ t, exec (.txtsPop rq p) s = .next t ∧
      t.ifc.reads = [{ rq, addr := TMB_TXTS_HI p, ok := true, value := v }] ∧ t.txtsQueue p = (s.txtsQueue p).tail := by
  have hhi : (s.arrived rq (TMB_TXTS_HI p) 1).txtsHi p = s.txtsHi p := by simp only [txtsHi, arrived_txtsQueue]
  refine ⟨_, congrArg finish ((if_pos hp).trans (busRead_txtsHi hp h)), ?_, ?_⟩
  · have hreads : ((s.arrived rq (TMB_TXTS_HI p) 1).txtsPop p).ifc.reads = [] := arrived_reads s rq _ 1
    rw [readDone_finished_reads, hreads, hhi, hv]; rfl
  · rw [readDone_finished_txtsQueue, txtsPop_txtsQueue, arrived_txtsQueue]

end Sys2Proof.Machine.State
end

section
/-! SUPPORT. The write of TRIM (R40, R42), and a TRIM word of more than 32 bits. -/

namespace Sys2Proof.Machine

/-- A write of a register that is one RW field stores what is legal of the field's bits. -/
theorem storeWrite_rw {f : Fld} (h : f.acc = .rw) (old v : Nat) :
    storeWrite [f] old v = setBits old f.lo f.w (f.clamp.apply f.w (bits v f.lo f.w)) := by
  simp only [storeWrite, List.foldl_cons, List.foldl_nil, h]

theorem srange_apply (w v : Nat) (lo hi : Int) : (Clamp.srange lo hi).apply w v = unsigned w (clampInt lo hi (signed w v)) := rfl

namespace State

variable {s : State} {rq : Requester} {n : Nat}

/-- Storing TRIM replaces its 32 bits by the clamped value and keeps what the word holds above them. -/
theorem storing_trim (hn : n < 4) (s : State) (v : Nat) : s.storing (TMB_TB_TRIM n) v =
    s.setReg (TMB_TB_TRIM n) (setBits (s.reg (TMB_TB_TRIM n)) 0 32
      (unsigned 32 (clampInt (-1099511628) 1099511628 (signed 32 (bits v 0 32))))) := by
  have hrows : ∀ n < 4, (findReg (TMB_TB_TRIM n)).map (fun x => x.1.fields) =
      some [⟨0, 32, .rw, 0, .srange (-1099511628) 1099511628⟩] := by decide +kernel
  obtain ⟨⟨r, i⟩, hr, hfields⟩ := Option.map_eq_some_iff.mp (hrows n hn)
  simp only [storing, hr]
  rw [show r.fields = _ from hfields, storeWrite_rw rfl, srange_apply]

/-- Either requester writes the registers of TMB. -/
theorem ignoresWrite_tmb {off : Nat} (hlo : 0x20000 ≤ off) (hhi : off < 0x30000) : s.ignoresWrite rq off = false := by
  have hchannel : channelOf off = none := if_neg (by omega)
  simp only [ignoresWrite, hchannel, GLB_FW_VERSION, NVM, FLT, HST, GLB_TEST_CTL]
  iterate 5 rw [if_neg (by omega)]

/-- A write of TRIM that the bus serves at once stores it and does nothing else. -/
theorem busWrite_trim (hn : n < 4) (h : s.accepts rq (TMB_TB_TRIM n) true) (v : Word) :
    s.busWrite rq (TMB_TB_TRIM n) v = (s.arrived rq (TMB_TB_TRIM n) 2).storing (TMB_TB_TRIM n) v.toNat := by
  have hplain : ∀ n < 4, plainReg (TMB_TB_TRIM n) = some (.tmb, 0x20000) := by decide +kernel
  have hnotIgnored : s.ignoresWrite rq (TMB_TB_TRIM n) = false :=
    ignoresWrite_tmb (by unfold TMB_TB_TRIM TMB_TB; omega) (by unfold TMB_TB_TRIM TMB_TB; omega)
  rw [busWrite_plain_of_not_ignored h (hplain n hn) hnotIgnored, written, tmbWritten, if_neg (by unfold TMB_TB_TRIM TMB_TB; omega),
    if_neg (by unfold TMB_TB_TRIM TMB_TB; omega), if_neg (by unfold TMB_TB_TRIM TMB_TB; omega)]

theorem exec_tbTrimWrite (hn : n < 4) (rq : Requester) (v : Word) (s : State) :
    exec (.tbTrimWrite rq n v) s = .next (s.busWrite rq (TMB_TB_TRIM n) v).finished := congrArg finish (if_pos hn)

theorem finished_reg (s : State) (off : Nat) : s.finished.reg off = s.reg off := rfl

/-- The device in RUN with bit 32 of the word of TMB_TB0_TRIM set. The model holds a register as a natural number, so that the type
of states has such a word, which no register of 32 bits (R350) can hold. -/
def wideTrim : State := { State.reset with mode := .run, regs := [(TMB_TB_TRIM 0, 2 ^ 32)] }

theorem wideTrim_accepts : wideTrim.accepts .host (TMB_TB_TRIM 0) true := by
  unfold State.accepts; decide +kernel

theorem wideTrim_arrived_reg : (wideTrim.arrived .host (TMB_TB_TRIM 0) 2).reg (TMB_TB_TRIM 0) = 2 ^ 32 := by decide +kernel

/-- A write of 0 leaves the bit in the word. -/
theorem wideTrim_written : (wideTrim.busWrite .host (TMB_TB_TRIM 0) 0).reg (TMB_TB_TRIM 0) = 2 ^ 32 := by
  rw [busWrite_trim (by decide) wideTrim_accepts, storing_trim (by decide), reg_setReg_same, wideTrim_arrived_reg]
  decide +kernel

end State

end Sys2Proof.Machine
end

section
/-! PROOFS. The time bases, their pins, queues and keeper, and the step. -/

namespace Sys2Proof.Proofs

open Sys2Proof.Machine State

/-- Settles O2: both commands take a new count in the state one cycle later. -/
theorem setAndStep : Obligations.SetAndStep := by
  intro s n m hn _ hlen _ u a b
  have hcnt : n < u.time.cnt.length := (elapse_cnt_length hlen 1).symm ▸ hn
  obtain ⟨hset, aValid, aSteps, aLast, aRest⟩ := setCount_adjusted hcnt (u.loadValue n) (u.count n)
  obtain ⟨hstep, bValid, bSteps, bLast, bRest⟩ := setCount_adjusted hcnt (shiftCount (u.count n) (u.stepValue n)) (u.count n)
  refine ⟨hset, hstep, List.forall_mem_cons.mpr ⟨?_, List.forall_mem_singleton.mpr ?_⟩⟩
  · exact ⟨aValid, aSteps, aLast, aRest m⟩
  · exact ⟨bValid, bSteps, bLast, bRest m⟩

/-- Settles O3: outside SAFE a selected edge at a capture pin is a capture or an overrun, as EVENT is. -/
theorem captureEdge : Obligations.CaptureEdge := by
  intro s i w rising dev hi u l c
  have hexec : exec (.tioCaptureEdge i rising w dev) s = .next (u.tioEdge i rising dev).finished := congrArg finish (if_pos hi)
  refine ⟨fun hm => ?safe, fun hm hmode hsel => ⟨fun hevent => ?captured, fun hevent => ?overrun⟩⟩
  case safe => rw [hexec, tioEdge_of_safe hm]
  case captured => rw [hexec, tioEdge_selected hm hmode hsel, hevent]; rfl
  case overrun => rw [hexec, tioEdge_selected hm hmode hsel, hevent]; rfl

/-- Settles O4: k is 0 before START, and beyond it one more than the periods that have passed. -/
theorem nextPulseEdge : Obligations.NextPulseEdge :=
  fun start period a hp => ⟨edgeAfter_mem start period a, lt_edgeAfter hp start a, fun _ => edgeAfter_le hp⟩

/-- Settles O57: LO reads the head and leaves it, HI reads it and removes it, and an arrival joins behind it. -/
theorem timestampQueue : Obligations.TimestampQueue := by
  intro s rq p hp
  refine ⟨fun e q hq hid htb hns hfrac => ⟨fun h => ?low, fun h => ?high, fun x => ?arrival⟩, fun hq h => ?empty⟩
  case low =>
    have hlo : (s.arrived rq (TMB_TXTS_LO p) 1).txtsLo p = e.ns32 := txtsLo_of_cons ((arrived_txtsQueue s rq _ 1 p).trans hq)
    refine ⟨_, congrArg finish (busRead_txtsLo hp h), ?_, ?_⟩
    · rw [readDone_finished_reads, arrived_reads, hlo, readValue_txtsLo hns]; rfl
    · rw [readDone_finished_txtsQueue, arrived_txtsQueue, hq]
  case high =>
    rw [show q = (s.txtsQueue p).tail from hq ▸ rfl]
    refine txtsPop_served hp h ?_
    rw [txtsHi_of_cons hq, readValue_txtsHi hfrac htb hid]
  case arrival =>
    obtain ⟨l, hl⟩ := txtsWrite_txtsQueue (p := p) (hq ▸ List.cons_ne_nil e q) x
    exact ⟨q ++ l, hl.trans (hq ▸ rfl)⟩
  case empty =>
    rw [show ([] : List TxtsEntry) = (s.txtsQueue p).tail by rw [hq, List.tail_nil]]
    refine txtsPop_served hp h ?_
    rw [txtsHi_of_nil hq]; rfl

/-- Refutes O1, in its clause on TB_TRIM_WRITE: the write replaces the 32 bits of the field, so where the word before it has a bit
above them, as `wideTrim` has, the word is not the clamped value after it. The clause lacks the premise that TRIM is a word of 32
bits. -/
theorem not_timeBaseCommands : ¬ Obligations.TimeBaseCommands := by
  intro h
  obtain ⟨_, _, htrim, _⟩ := h wideTrim .host 0 0 0 (by decide) (by decide)
  have hstate := Host.Outcome.next.inj ((exec_tbTrimWrite (by decide) _ _ _).symm.trans (htrim wideTrim_accepts))
  have hreg := congrArg (State.reg · (TMB_TB_TRIM 0)) hstate
  simp only [finished_reg, reg_setReg_same, wideTrim_written] at hreg
  exact absurd hreg (by decide +kernel)

/-- Settles O5: in the conditions of each clause the command is one branch of the pin's sequencer or of the keeper. -/
theorem pulseAndKeeper : Obligations.PulseAndKeeper := by
  refine ⟨fun s i hi => ⟨fun hmode hm => ?edge, fun e he => ?pulseEnd⟩, fun s err =>
    ⟨fun hmain htime hroll => ?realign, fun hover => ?inserted, fun hunder => ?omitted⟩⟩
  case edge => exact congrArg finish ((if_pos hi).trans (tioPulse_output hmode hm))
  case pulseEnd => exact congrArg finish ((if_pos hi).trans (tioEnd_output he))
  case realign => exact congrArg finish (keeperRealign_atRollover hmain htime hroll err)
  case inserted =>
    have hnotUnder : ¬ s.time.acc < 0 := by omega
    refine congrArg finish ((keeperCorrect_due (.inr hover)).trans ?_)
    simp only [keeperCarry, if_neg hnotUnder, if_pos hover, setKeeper_time]
  case omitted =>
    refine congrArg finish ((keeperCorrect_due (.inl hunder)).trans ?_)
    simp only [keeperCarry, if_pos hunder, setKeeper_time]

/-- Settles O58: the queue decides the step. -/
theorem stepRunsFront : Obligations.StepRunsFront := by
  intro s c rest
  refine ⟨fun h => ?front, rfl, rfl, fun h => ?idle⟩
  case front => simp only [step, h]
  case idle => simp only [step, h, finish_next]

end Sys2Proof.Proofs
end

section
/-! SUPPORT. What the arrival of an access leaves of the crest, the counts and the staged registers, and the write of CRS_COMMIT
(R73, R77, R89). -/

namespace Sys2Proof.Machine.State

variable {s : State} {rq : Requester} {v : Nat}

/-! ### Where an access finds the crest -/

theorem arrived_crest (s : State) (rq : Requester) (off code : Nat) : (s.arrived rq off code).crest = s.crest := by
  obtain ⟨_, _, h⟩ := arrived_only s rq off code
  rw [h]; rfl

theorem arrived_count (s : State) (rq : Requester) (off code n : Nat) : (s.arrived rq off code).count n = s.count n := by
  obtain ⟨_, _, h⟩ := arrived_only s rq off code
  rw [h]; rfl

theorem arrived_cfg (s : State) (rq : Requester) (off code : Nat) (b : Bool) (x : Nat) :
    (s.arrived rq off code).cfg b x = s.cfg b x := by
  obtain ⟨_, _, h⟩ := arrived_only s rq off code
  rw [h]; rfl

theorem arrived_commitMode (s : State) (rq : Requester) (off code : Nat) :
    (s.arrived rq off code).commitMode = s.commitMode := by
  obtain ⟨_, _, h⟩ := arrived_only s rq off code
  rw [h]; rfl

/-! ### The write of CRS_COMMIT -/

/-- CRS_COMMIT is an immediate register that either requester writes, and a write of it follows its own rule. -/
theorem busWrite_commit (h : s.accepts rq CRS_COMMIT true) (v : Word) :
    s.busWrite rq CRS_COMMIT v = (s.arrived rq CRS_COMMIT 2).commitControl v.toNat := by
  have hfind : (findReg CRS_COMMIT).any (fun x => !x.1.staged) = true := by decide +kernel
  obtain ⟨⟨r, i⟩, hr, hstaged⟩ := (Option.any_eq_true _ _).mp hfind
  have hblock : blockOf CRS_COMMIT = some (.crs, 0x10000) := rfl
  have himm : r.staged = false := by simpa using hstaged
  have hignored : (s.arrived rq CRS_COMMIT 2).ignoresWrite rq CRS_COMMIT = false := rfl
  have hao : aoServed CRS_COMMIT = false := rfl
  rw [busWrite_served h rfl, show viewOff CRS_COMMIT = CRS_COMMIT from rfl]
  simp [registerWrite, hignored, portWrite, hr, hblock, himm, immediateWrite, hao]

theorem commitControl_go (hgo : bit v 0 = true) (habort : bit v 1 = false) (s : State) : s.commitControl v = s.crestGo v := by
  simp [commitControl, hgo, habort]

theorem commitControl_abort (habort : bit v 1 = true) (s : State) :
    s.commitControl v = (s.setReg CRS_COMMIT (v % 32 / 4 * 4)).crestAbort := if_pos habort

/-! ### What a word keeps when GO or ABORT joins it -/

theorem or_low_div_four {k : Nat} (hk : k < 4) (v : Nat) : (v ||| k) / 4 = v / 4 := by
  have hshift : (v ||| k) >>> 2 = v >>> 2 ||| k >>> 2 := Nat.shiftRight_or_distrib
  have hzero : k >>> 2 = 0 := by rw [Nat.shiftRight_eq_div_pow]; omega
  rwa [hzero, Nat.or_zero, Nat.shiftRight_eq_div_pow, Nat.shiftRight_eq_div_pow] at hshift

/-- MODE and TB as CRS_COMMIT stores them. -/
theorem or_low_stored {k : Nat} (hk : k < 4) (v : Nat) : (v ||| k) % 32 / 4 * 4 = v % 32 / 4 * 4 := by
  have h := or_low_div_four hk v
  omega

theorem bits_or_low {k : Nat} (hk : k < 4) (v : Nat) : bits (v ||| k) 3 2 = bits v 3 2 := by
  have h := or_low_div_four hk v
  simp only [bits, Nat.shiftRight_eq_div_pow]
  omega

theorem bit_or_low {k : Nat} (hk : k < 4) (v : Nat) : bit (v ||| k) 2 = bit v 2 := by
  have hzero : k.testBit 2 = false := Nat.testBit_lt_two_pow hk
  simp [bit, Nat.testBit_or, hzero]

theorem crestGo_or_low {k : Nat} (hk : k < 4) (s : State) (v : Nat) : s.crestGo (v ||| k) = s.crestGo v := by
  simp only [crestGo, or_low_stored hk, bits_or_low hk, bit_or_low hk]

/-- CRS_GO without ABORT. -/
theorem exec_crsGo (h : s.accepts rq CRS_COMMIT true) {v : Word} (habort : bit v.toNat 1 = false) :
    exec (.crsGo rq v) s = .next ((s.arrived rq CRS_COMMIT 2).crestGo v.toNat).finished := by
  have hword : (v ||| 1).toNat = v.toNat ||| 1 := BitVec.toNat_or v _
  have hgo : bit (v.toNat ||| 1) 0 = true := by simp [bit]
  have hsame : bit (v.toNat ||| 1) 1 = false := by
    rw [bit, Nat.testBit_or, show v.toNat.testBit 1 = false from habort]; rfl
  refine congrArg finish ((busWrite_commit h _).trans ?_)
  rw [hword, commitControl_go hgo hsame, crestGo_or_low (by decide)]

/-- A write with ABORT, whatever joins it below MODE. -/
theorem busWrite_abort (h : s.accepts rq CRS_COMMIT true) {v w : Word} {k : Nat} (hk : k < 4) (hword : w.toNat = v.toNat ||| k)
    (habort : bit w.toNat 1 = true) : s.busWrite rq CRS_COMMIT w =
      ((s.arrived rq CRS_COMMIT 2).setReg CRS_COMMIT (v.toNat % 32 / 4 * 4)).crestAbort := by
  rw [busWrite_commit h, commitControl_abort habort, hword, or_low_stored hk]

theorem exec_crsAbort (h : s.accepts rq CRS_COMMIT true) (v : Word) : exec (.crsAbort rq v) s =
    .next ((s.arrived rq CRS_COMMIT 2).setReg CRS_COMMIT (v.toNat % 32 / 4 * 4)).crestAbort.finished := by
  have hword : (v ||| 2).toNat = v.toNat ||| 2 := BitVec.toNat_or v _
  have hset : Nat.testBit 2 1 = true := rfl
  exact congrArg finish (busWrite_abort h (by decide) hword (by rw [hword, bit, Nat.testBit_or, hset, Bool.or_true]))

/-- CRS_GO with ABORT is CRS_ABORT. -/
theorem exec_crsGo_abort (h : s.accepts rq CRS_COMMIT true) {v : Word} (habort : bit v.toNat 1 = true) :
    exec (.crsGo rq v) s = exec (.crsAbort rq v) s := by
  have hword : (v ||| 1).toNat = v.toNat ||| 1 := BitVec.toNat_or v _
  have hset : v.toNat.testBit 1 = true := habort
  rw [exec_crsAbort h]
  exact congrArg finish (busWrite_abort h (by decide) hword (by rw [hword, bit, Nat.testBit_or, hset, Bool.true_or]))

/-! ### GO and ABORT -/

theorem crestGo_refused (h : s.crest.phase ≠ .opened ∨ s.commitMode = false) (v : Nat) :
    s.crestGo v = (s.bump CRS_COMMIT_REFUSED).setBit CRS_STATUS 5 :=
  if_pos (h.imp_right fun hmode => by simp [hmode])

/-- The programmed time, rounded up, lies less than 1,024 ns ahead of the time base that a word names (R74). -/
def commitLate (s : State) (v : Nat) : Bool :=
  bit v 2 && decide (boundary s.commitTime < totalNs (s.count (bits v 3 2)) + 1024)

/-- The commit instant that GO arms: the programmed time where WHEN asks for it in time, else the next boundary (R74). -/
def commitInstant (s : State) (v : Nat) : Nat :=
  if bit v 2 && !s.commitLate v then boundary s.commitTime else boundary (totalNs (s.count (bits v 3 2)) + 1024)

theorem crestGo_armed (hopen : s.crest.phase = .opened) (hmode : s.commitMode = true) (v : Nat) :
    let g := s.setReg CRS_COMMIT (v % 32 / 4 * 4)
    s.crestGo v = (if g.commitLate v then (g.setBit CRS_STATUS 4).bump CRS_LATE_COMMITS else g).setCrest { s.crest with
      phase := .armed, tb := bits v 3 2, tstar := g.commitInstant v } := by
  intro g
  have hgo : ¬ (s.crest.phase ≠ .opened ∨ ¬ s.commitMode = true) := by simp [hopen, hmode]
  have hblt : ∀ a b : Nat, Nat.blt a b = decide (a < b) := fun a b => by rw [Bool.eq_iff_iff, Nat.blt_eq, decide_eq_true_iff]
  have hlate : (bit v 2 && Nat.blt (boundary g.commitTime) (totalNs (g.count (bits v 3 2)) + 1024)) = g.commitLate v := by
    rw [hblt, commitLate]
  rw [crestGo, if_neg hgo]
  dsimp only
  rw [hlate, commitInstant]
  cases g.commitLate v <;> simp [when, g]

theorem crestAbort_idle (h : s.crest.phase ≠ .armed) : s.crestAbort = s := if_pos h

theorem crestAbort_early (harmed : s.crest.phase = .armed) (hearly : ¬ s.crest.tstar ≤ totalNs (s.count s.crest.tb)) :
    s.crestAbort = ((s.setCrest { s.crest with phase := .opened }).setBit CRS_STATUS 7).commitLost := by
  simp [crestAbort, harmed, hearly]

/-- A commit may be made in ARMED outside SAFE (R77). -/
theorem commitDue_of_armed (harmed : s.crest.phase = .armed) (hmode : s.mode ≠ .safe) : s.commitDue = true := by
  simp [commitDue, harmed, hmode]

theorem crestAbort_due (harmed : s.crest.phase = .armed) (hmode : s.mode ≠ .safe)
    (hdue : s.crest.tstar ≤ totalNs (s.count s.crest.tb)) : s.crestAbort = s.commitAt := by
  simp [crestAbort, harmed, commitDue_of_armed harmed hmode, hdue]

theorem commitAt_armed (harmed : s.crest.phase = .armed) (hmode : s.mode ≠ .safe) :
    s.commitAt = (s.elapseTo s.crest.tb (s.crest.tstar * nsUnit)).commitMake s.crest.tstar :=
  if_pos (commitDue_of_armed harmed hmode)

end Sys2Proof.Machine.State
end

section
/-! SUPPORT. What the reconcile leaves (R72), and the write of a staged register (R69, R70). -/

namespace Sys2Proof.Machine.State

variable {s : State} {rq : Requester} {off : Nat}

/-! ### The reconcile (R72) -/

/-- Both banks hold what the active one held, crested entries are made equal, and the state is OPEN. -/
theorem reconcileDone_cfg (h : s.crest.phase = .reconciling) (b : Bool) (x : Nat) :
    s.reconcileDone.cfg b x = s.cfg s.crest.bank x := by
  simp only [reconcileDone, h, not_true, ne_eq, if_false, setBit_eq, cfg_setReg]
  cases hb : s.crest.bank <;> cases b <;> rfl

theorem reconcileDone_tabBE (h : s.crest.phase = .reconciling) (b : Bool) (x e i : Nat) :
    s.reconcileDone.tabBE b x e i = s.tabBE s.crest.bank x e i := by
  simp only [reconcileDone, h, not_true, ne_eq, if_false]
  cases hb : s.crest.bank <;> cases b <;> rfl

/-- Beside the banks and the tables the reconcile changes the crest and the interrupt. -/
theorem reconcileDone_only (h : s.crest.phase = .reconciling) : ∃ b0 b1 t0 t1 l,
    s.reconcileDone = ({ s with bank0 := b0, bank1 := b1, tbank0 := t0, tbank1 := t1, tabs := l }.setCrest
      { s.crest with phase := .opened, passing := true }).setBit CRS_IRQ_STATUS 1 :=
  ⟨_, _, _, _, _, if_neg (not_not_intro h)⟩

theorem rbit_setBit_same (s : State) (off i : Nat) : (s.setBit off i).rbit off i = true := by
  simp [rbit, setBit_eq]

theorem finished_tabBE (s : State) (b : Bool) (x e i : Nat) : s.finished.tabBE b x e i = s.tabBE b x e i := rfl

theorem finished_cfg (s : State) (b : Bool) (off : Nat) : s.finished.cfg b off = s.cfg b off := rfl

/-! ### Staged writes (R69, R70) -/

/-- A listed offset lies in a block. -/
theorem blockOf_of_findReg {x : RegRow × Nat} (h : findReg off = some x) : ∃ b base, blockOf off = some (b, base) := by
  unfold findReg at h
  split at h
  · cases h
  · split at h
    · cases h
    · exact ⟨_, _, ‹_›⟩

/-- The registers that the count of their own write can change are immediate. -/
theorem not_selfCounted_of_staged {r : RegRow} {i : Nat} (hr : findReg off = some (r, i)) (hstaged : r.staged = true) :
    selfCounted off = false := by
  have himm : ∀ x ∈ (List.range 8).map (MON_U_COUNT 6) ++ [MON_U_STATUS 6, MON_IRQ_STATUS], regStaged x = false := by
    decide +kernel
  refine Bool.eq_false_iff.mpr fun hself => ?_
  have hmem : off ∈ (List.range 8).map (MON_U_COUNT 6) ++ [MON_U_STATUS 6, MON_IRQ_STATUS] := by
    simp only [selfCounted, ownCount, Bool.or_eq_true, List.any_eq_true, beq_iff_eq] at hself
    rcases hself with (⟨k, hk, rfl⟩ | rfl) | rfl
    · exact List.mem_append_left _ (List.mem_map_of_mem hk)
    · exact List.mem_append_right _ List.mem_cons_self
    · exact List.mem_append_right _ (List.mem_cons_of_mem _ List.mem_cons_self)
  exact absurd (himm off hmem) (by simp [regStaged, hr, hstaged])

theorem registerWrite_staged {r : RegRow} {i : Nat} (hr : findReg off = some (r, i)) (hstaged : r.staged = true)
    (hi : s.ignoresWrite rq off = false) (v : Nat) : s.registerWrite rq off v = s.stagedWrite r off v := by
  obtain ⟨b, base, hb⟩ := blockOf_of_findReg hr
  simp [registerWrite, hi, portWrite, hr, hb, hstaged]

/-- A write of a listed staged register that the bus serves at once. -/
theorem busWrite_staged {r : RegRow} {i : Nat} (h : s.accepts rq off true) (hview : inMirror off = false)
    (hr : findReg off = some (r, i)) (hstaged : r.staged = true) (hi : s.ignoresWrite rq off = false) (v : Word) :
    s.busWrite rq off v = (s.arrived rq off 2).stagedWrite r off v.toNat := by
  have hoff : viewOff off = off := by simp [viewOff, hview]
  rw [busWrite_served h (hoff.symm ▸ not_selfCounted_of_staged hr hstaged), hoff,
    registerWrite_staged hr hstaged ((arrived_ignoresWrite s rq off 2).trans hi)]

theorem stagedWrite_open (h : s.crest.phase = .opened) (r : RegRow) (off v : Nat) :
    s.stagedWrite r off v = s.setCfg (!s.crest.bank) off (storeWrite r.fields (s.cfg (!s.crest.bank) off) v) := if_pos h

theorem stagedWrite_frozen (h : s.crest.phase ≠ .opened) (r : RegRow) (off v : Nat) :
    s.stagedWrite r off v = (s.bump CRS_FROZEN_WRITES).setBit CRS_STATUS 6 := if_neg h

end Sys2Proof.Machine.State
end

section
/-! SUPPORT. A frame with its FCS (R5), and the records of a READ (R186). -/

namespace Sys2Proof.Machine

/-! ### Bytes and cyclic redundancy checks -/

theorem leBytes_length (n v : Nat) : (leBytes n v).length = n := by
  induction n generalizing v with
  | zero => rfl
  | succ n ih => rw [leBytes, List.length_cons, ih]

theorem ofLe_leBytes (n v : Nat) : ofLe (leBytes n v) = v % 256 ^ n := by
  induction n generalizing v with
  | zero => rw [Nat.pow_zero, Nat.mod_one]; rfl
  | succ n ih =>
    have hcons : ofLe (leBytes (n + 1) v) = v % 256 + ofLe (leBytes n (v / 256)) * 256 := by
      rw [leBytes, ofLe, List.foldr_cons, BitVec.toNat_ofNat]; rfl
    rw [hcons, ih, Nat.pow_succ', Nat.mod_mul, Nat.mul_comm]

theorem crcBit_lt {poly c : Nat} (hp : poly < 2 ^ 32) (hc : c < 2 ^ 32) : crcBit poly c < 2 ^ 32 := by
  have hhalf : c / 2 < 2 ^ 32 := by omega
  unfold crcBit
  split
  · exact Nat.xor_lt_two_pow hhalf hp
  · exact hhalf

theorem crcBits_lt {poly : Nat} (hp : poly < 2 ^ 32) (n : Nat) {c : Nat} (hc : c < 2 ^ 32) : crcBits poly n c < 2 ^ 32 := by
  induction n generalizing c with
  | zero => exact hc
  | succ n ih => exact ih (crcBit_lt hp hc)

theorem crcRun_lt {poly init : Nat} (hp : poly < 2 ^ 32) (hi : init < 2 ^ 32) (l : Bytes) : crcRun poly init l < 2 ^ 32 := by
  unfold crcRun
  induction l generalizing init with
  | nil => exact hi
  | cons b l ih =>
    have hb : b.toNat < 2 ^ 32 := lt_trans b.isLt (by decide)
    exact ih (crcBits_lt hp 8 (Nat.xor_lt_two_pow hi hb))

theorem fcs32_lt (l : Bytes) : fcs32 l < 2 ^ 32 :=
  Nat.xor_lt_two_pow (crcRun_lt (by decide) (by decide) l) (by decide)

/-! ### A frame with its FCS -/

theorem withFcs_length (l : Bytes) : (withFcs l).length = l.length + 4 := by
  rw [withFcs, List.length_append, leBytes_length]

theorem withFcs_body (l : Bytes) : (withFcs l).take ((withFcs l).length - 4) = l := by
  rw [withFcs_length, Nat.add_sub_cancel, withFcs, List.take_left]

theorem fcsOf_withFcs (l : Bytes) : fcsOf (withFcs l) = fcs32 l := by
  rw [fcsOf, withFcs_length, Nat.add_sub_cancel, withFcs, List.drop_left, ofLe_leBytes]
  exact Nat.mod_eq_of_lt (fcs32_lt l)

theorem fcsGood_withFcs (l : Bytes) : fcsGood (withFcs l) = true := by
  rw [fcsGood, fcsOf_withFcs, withFcs_body, beq_self_eq_true]

namespace State

/-! ### Records that change nothing -/

/-- A step that leaves the state as it is gives one outcome per record, each in the state before. -/
theorem eachRecord_of_unchanged (s : State) (o : Nat → Outcome) (l : List Nat) {f : State → Nat → State × Outcome}
    (hf : ∀ i, f s i = (s, o i)) : s.eachRecord l f = (s, l.map o) := by
  have hfold : ∀ (l : List Nat) (done : List Outcome),
      l.foldl (fun a i => match f a.1 i with | (s, o) => (s, a.2 ++ [o])) (s, done) = (s, done ++ l.map o) := by
    intro l
    induction l with
    | nil => intro done; rw [List.map_nil, List.append_nil]; rfl
    | cons i l ih => intro done; rw [List.foldl_cons, hf, ih, List.map_cons, List.append_assoc]; rfl
  exact hfold l []

end State

end Sys2Proof.Machine
end

section
/-! SUPPORT. A scrub pass, a reload limit and a beacon where they take place (R85 to R88). -/

namespace Sys2Proof.Machine.State

variable {s : State}

theorem scrubPass_passing (h : s.crest.passing = true) (us : Nat) :
    let u := s.each (List.range 17) scrubRegion
    let half := fun (reg : Nat → Nat) => crc32c ((List.range 17).flatMap fun r => leBytes 4 (u.reg (reg r)))
    let w := (u.setReg CRS_DIGEST_LO (half CRS_REGION_REG)).setReg CRS_DIGEST_HI (half CRS_REGION_TAB)
    s.scrubPass us = (((w.setBit CRS_DIGEST_STATUS 0).wrapFld CRS_DIGEST_STATUS 16 16).setReg CRS_SCRUB_LAST
      (min 65535 us)).checkDigest :=
  if_neg (not_not_intro h)

theorem reloadLimit_waiting {r : Nat} (h : s.rbit CRS_RELOAD r = true) : s.reloadLimit r =
    ((s.elapseFrom (s.crest.reloadAt.getD r 0) (s.rf CRS_RELOAD_LIMIT 0 10 * 250000)).clrBit CRS_RELOAD r).raise 6 r :=
  if_neg (not_not_intro h)

/-- The state at the instant of a beacon: one PERIOD after the beacon before it, or at once (log entry 149). -/
def atBeacon (s : State) : State :=
  match s.crest.beaconAt with
  | some a => s.elapseFrom a s.beaconCycles
  | none => s

/-- The groups of CRS_CAIRN_GROUPk as one address, of IPv6 or of IPv4. -/
def cairnGroup (s : State) : Nat :=
  if s.rbit CRS_CAIRN_CTL 1 then
    ((s.reg (CRS_CAIRN_GROUP 0) * 2 ^ 32 + s.reg (CRS_CAIRN_GROUP 1)) * 2 ^ 32 + s.reg (CRS_CAIRN_GROUP 2)) * 2 ^ 32 +
      s.reg (CRS_CAIRN_GROUP 3)
  else s.reg (CRS_CAIRN_GROUP 0)

theorem cairnBeacon_running (hon : s.rbit CRS_CAIRN_CTL 0 = true) (hrun : s.servicesRun = true) :
    let w := s.atBeacon.setCrest { s.atBeacon.crest with beaconAt := some s.atBeacon.time.clk }
    let f := w.udpFrame (w.rbit CRS_CAIRN_CTL 1) w.cairnGroup (w.reg CRS_CAIRN_PORT) w.cairnPayload
    s.cairnBeacon = (f.1.injectFrame f.2 6).1 :=
  if_neg (by simp [hon, hrun])

end Sys2Proof.Machine.State
end

section
/-! SUPPORT. Reception on a port that may receive (R75, R115, R131), and the wadi's read of the queue it chooses (R82, R156,
R283). -/

namespace Sys2Proof.Machine.State

variable {s : State} {p : Nat} {f : Frame}

/-! ### Reception -/

theorem rxStart_received {rx : RxStart} (h : (s.elapse rx.wait).mayReceive rx.port = true) :
    s.rxStart rx = (s.elapse rx.wait).newFrame rx.port rx.dev rx.bytes := if_pos h

/-- The end of a frame that no reassembly holds and that has not ended before. -/
theorem rxEnd_ended {id : Nat} {rx : RxEnd} (hframe : (s.elapse rx.wait).frame id = some f) (hlast : f.lastIn = false)
    (hport : f.port < 64) (hwhole : (s.elapse rx.wait).reassembling f = false) : s.rxEnd id rx =
      ((s.elapse rx.wait).countFec f.port rx.fecCorr rx.fecUncorr rx.fecSym).rxFinish f (rx.codeErr || rx.fecUncorr != 0)
        rx.overrun false := by
  have hends : ¬ (f.lastIn = true ∨ 64 ≤ f.port ∨ (s.elapse rx.wait).reassembling f = true) := by
    simp [hlast, hport, hwhole]
  simp only [rxEnd, hframe, if_neg hends]

section
variable {fr : Fragment} {code : Bool}

theorem fragmentRx_start (hrx : (s.elapse fr.wait).mayReceive p = true) (hstart : fr.start = true) : s.fragmentRx p fr =
    ((s.elapse fr.wait).countFec p fr.fecCorr fr.fecUncorr fr.fecSym).startRx p fr (fr.codeErr || fr.fecUncorr != 0) := by
  simp only [fragmentRx, hrx, not_true, if_false, hstart, if_true]

theorem fragmentRx_more (hrx : (s.elapse fr.wait).mayReceive p = true) (hmore : fr.start = false) : s.fragmentRx p fr =
    ((s.elapse fr.wait).countFec p fr.fecCorr fr.fecUncorr fr.fecSym).moreRx p fr (fr.codeErr || fr.fecUncorr != 0) := by
  simp only [fragmentRx, hrx, not_true, if_false, hmore, Bool.false_eq_true]

/-- A start mPacket with no frame before it, of a frame in whose bank preemption is on, begins a reassembly. -/
theorem startRx_begins (hfree : (s.mac p).reasm = none) (hfinal : fr.final = false) :
    let w := s.newFrame p fr.dev (reasmBytes fr.bytes fr.total)
    w.frame (w.nextId - 1) = some f → w.cbit f.bank (MAC_PREEMPT_CFG p) 0 = true →
      s.startRx p fr code = w.setReasm p (some { bytes := fr.bytes, next := 0, frame := w.nextId - 1, code }) := by
  intro w hframe hon
  simp only [w] at hframe hon
  simp only [startRx, hfree, Option.isSome_none, Bool.false_eq_true, if_false, hfinal, hframe, hon, not_true, w]

/-- A continuation with the count awaited that is not the last. -/
theorem moreRx_joins {r : Reasm} (hr : (s.mac p).reasm = some r) (hcount : fr.count % 4 = r.next) (hfinal : fr.final = false) :
    s.moreRx p fr code = (s.stat p 27 1).reasmMore p { r with
      bytes := r.bytes ++ fr.bytes, next := (r.next + 1) % 4, code := r.code || code } := by
  simp only [moreRx, hr, hcount, ne_eq, not_true, if_false, hfinal, Bool.false_eq_true]

/-- The last continuation, with the count awaited. -/
theorem moreRx_last {r : Reasm} (hr : (s.mac p).reasm = some r) (hcount : fr.count % 4 = r.next) (hfinal : fr.final = true) :
    s.moreRx p fr code = (s.stat p 27 1).reassembled p r.frame (r.bytes ++ fr.bytes) fr.mcrcOk (r.code || code) := by
  simp only [moreRx, hr, hcount, ne_eq, not_true, if_false, hfinal, if_true]

theorem reasmMore_frame {r : Reasm} (hframe : (s.setReasm p (some r)).frame r.frame = some f) :
    s.reasmMore p r = (s.setReasm p (some r)).setFrame { f with bytes := reasmBytes r.bytes f.bytes.length } := by
  simp only [reasmMore, hframe]

end

/-! ### The wadi -/

/-- The copy at the head of the queue that port 65 + e chooses, and its frame: what WADI_RETURN reads. -/
structure WadiHead (s : State) (e : Nat) (c : Copy) (f : Frame) (o : Offer) : Prop where
  forwarding : s.forwarding = true
  oasis : s.awake domOasis = true
  sched : s.awake domSched = true
  choice : s.portChoice (65 + e) (s.backlog (65 + e)) = some o
  head : s.headCopy o.queue = some c
  frame : s.frame c.frame = some f

section
variable {e : Nat} {c : Copy} {o : Offer}

theorem WadiHead.runs (h : s.WadiHead e c f o) :
    ¬ (¬ s.forwarding = true ∨ ¬ s.awake domOasis = true ∨ ¬ s.awake domSched = true) := by
  simp [h.forwarding, h.oasis, h.sched]

/-- A correctable error or none: the copy is sent. -/
theorem wadiReturn_sends {b : State} {ecc : Ecc} {word : Nat} (h : s.WadiHead e c f o)
    (hecc : ecc = .good ∧ b = s ∨ ecc = .corrected word ∧ b = s.eccCorrected word) :
    s.wadiReturn e ecc = b.wadiSend e c f := by
  rcases hecc with ⟨rfl, rfl⟩ | ⟨rfl, rfl⟩ <;> simp only [wadiReturn, if_neg h.runs, h.choice, h.head, h.frame]

theorem wadiReturn_structural (h : s.WadiHead e c f o) (word : Nat) :
    s.wadiReturn e (.structural word) = (s.eccStructure f c.queue word).checkHead c.queue := by
  simp only [wadiReturn, if_neg h.runs, h.choice, h.head, h.frame]

theorem wadiReturn_data (h : s.WadiHead e c f o) (place : Nat) : s.wadiReturn e (.data place) = s.eccData f place none := by
  simp only [wadiReturn, if_neg h.runs, h.choice, h.head, h.frame]

end

end Sys2Proof.Machine.State
end

section
/-! PROOFS. The crest: arming, commit, reconcile, staged writes and the scrubber; reads of tables; reception; the second pass. -/

namespace Sys2Proof.Proofs

open Sys2Proof.Machine State

/-- Settles O6: GO and ABORT both write CRS_COMMIT, whose ABORT bit decides between them; what they do then is a matter of the
phase, the mode and T*. -/
theorem crestArming : Obligations.CrestArming := by
  intro s rq v h u g tb soon want late atTstar
  have hcrest : u.crest = s.crest := arrived_crest s rq CRS_COMMIT 2
  have hmode : u.commitMode = s.commitMode := arrived_commitMode s rq CRS_COMMIT 2
  have hcount : ∀ n, g.count n = s.count n := arrived_count s rq CRS_COMMIT 2
  have hgcrest : g.crest = s.crest := hcrest
  have hgmode : g.mode = s.mode := arrived_mode s rq CRS_COMMIT 2
  have hlate : g.commitLate v.toNat = late := by rw [commitLate, hcount]
  have hinstant : g.commitInstant v.toNat = if bit v.toNat 2 && !late then want else boundary soon := by
    rw [commitInstant, hlate, hcount]
  have habort : exec (.crsAbort rq v) s = .next g.crestAbort.finished := exec_crsAbort h v
  have hdue : atTstar = decide (g.crest.tstar ≤ totalNs (g.count g.crest.tb)) := by rw [hgcrest, hcount]
  refine ⟨fun hopen hcommit hno => ?armed, fun hnot hno => ?refused, exec_crsGo_abort h, fun harmed hearly => ?early,
    fun harmed hsafe hpast => ?due, fun hidle => ?idle⟩
  case armed =>
    rw [exec_crsGo h hno, crestGo_armed (hcrest ▸ hopen) (hmode ▸ hcommit), hcrest, hlate, hinstant]
  case refused => rw [exec_crsGo h hno, crestGo_refused (hcrest.symm ▸ hmode.symm ▸ hnot)]
  case early => rw [habort, crestAbort_early (hgcrest ▸ harmed) (by simpa [hdue] using hearly), hgcrest]
  case due => rw [habort, crestAbort_due (hgcrest ▸ harmed) (hgmode ▸ hsafe) (by simpa [hdue] using hpast)]
  case idle => rw [habort, crestAbort_idle (hgcrest ▸ hidle)]

/-- Settles O9: the active bank is copied to both, and beside the crest and its interrupt nothing else changes. -/
theorem reconcile : Obligations.Reconcile := by
  intro s h
  obtain ⟨b0, b1, t0, t1, l, honly⟩ := reconcileDone_only h
  obtain ⟨idle, service, hfinished⟩ := s.reconcileDone.finished_only
  refine ⟨s.reconcileDone.finished, finish_next _, fun b off => ?registers, fun b x e i => ?tables, ?rest⟩
  case registers => rw [finished_cfg, reconcileDone_cfg h]
  case tables => rw [finished_tabBE, reconcileDone_tabBE h]
  case rest =>
    rw [hfinished, honly]
    exact ⟨rfl, rbit_setBit_same _ _ _, fun off hoff => reg_setReg_other _ hoff, rfl, rfl, rfl, rfl, rfl⟩

/-- Settles O11: in OPEN the write is a write of the pending bank, and else it is counted. -/
theorem stagedWrites : Obligations.StagedWrites := by
  intro s rq off x v r i h hview hr hstaged hi u
  have hcrest : u.crest = s.crest := arrived_crest s rq off 2
  have hcfg : ∀ b x, u.cfg b x = s.cfg b x := arrived_cfg s rq off 2
  have hexec : exec (.registerWrite rq off v true) s = .next (u.stagedWrite r off v.toNat).finished :=
    congrArg finish (busWrite_staged h hview hr hstaged hi v)
  refine ⟨fun hopen => ⟨_, hexec, ?pending, ?active, ?others⟩, fun hnot => ?frozen⟩
  case frozen => rw [hexec, stagedWrite_frozen (hcrest ▸ hnot)]
  all_goals rw [finished_cfg, stagedWrite_open (hcrest ▸ hopen), hcrest]
  case pending => rw [cfg_setCfg, if_pos ⟨rfl, rfl⟩, hcfg]
  case active => rw [cfg_setCfg, if_neg (by simp), hcfg]
  case others => exact fun hx => by rw [cfg_setCfg, if_neg (fun he => hx he.2), hcfg]

/-- Settles O24: what is stripped is given a new FCS. -/
theorem wadiFrame : Obligations.WadiFrame := by
  rintro f a _ rfl ha
  refine ⟨withFcs_body _, fcsGood_withFcs _, ?_⟩
  rw [State.stripped, withFcs_length, List.length_drop, List.length_take]
  omega

/-- Settles O29: a READ's step is one that leaves the state as it is. -/
theorem tableReads : Obligations.TableReads := by
  intro s r x e n ents hop
  simp only [runOp, hop]
  rw [eachRecord_of_unchanged s _ _ fun _ => rfl]

/-- Settles O7: a commit that is armed outside SAFE is due, and the statement writes out how it is made. -/
theorem crestCommit : Obligations.CrestCommit := by
  intro s harmed hsafe
  exact congrArg finish (commitAt_armed harmed hsafe)

/-- Settles O10: a pass in progress, a reload bit that is set, and cairns with the services running are what each command asks for. -/
theorem scrubAndReload : Obligations.ScrubAndReload := by
  intro s us r
  refine ⟨fun hpass => congrArg finish (scrubPass_passing hpass us), fun hr hbit => ?reload, fun hon hrun => ?beacon⟩
  case reload => exact congrArg finish ((if_pos hr).trans (reloadLimit_waiting hbit))
  case beacon => exact congrArg finish (cairnBeacon_running hon hrun)

/-- Settles O15: on a port that may receive, what has come and what is awaited decide between the ways of a frame and of an
mPacket. -/
theorem frameArrives : Obligations.FrameArrives := by
  intro s rx id p re fr f
  have hexec : p < 32 → exec (.preemptFragmentRx p fr) s = .next (s.fragmentRx p fr).finished := fun hp =>
    congrArg finish (if_pos hp)
  refine ⟨fun hrx => congrArg finish (rxStart_received hrx), fun hframe hlast hport hwhole =>
    congrArg finish (rxEnd_ended hframe hlast hport hwhole), fun hp hrx => ⟨fun g hstart hfinal hfree => ?begins,
      fun r hmore hr hcount => ⟨fun g hfinal => ?joins, fun hfinal => ?last⟩⟩⟩
  case begins =>
    intro w hframe hon
    rw [hexec hp, fragmentRx_start hrx hstart, startRx_begins hfree hfinal hframe hon]
  case joins =>
    intro x hframe
    rw [hexec hp, fragmentRx_more hrx hmore, moreRx_joins hr hcount hfinal, reasmMore_frame hframe]
  case last => rw [hexec hp, fragmentRx_more hrx hmore, moreRx_last hr hcount hfinal]

/-- Settles O22: the error of the read decides whether the head is sent, and a strip anchor whether the copy sent returns. -/
theorem secondPass : Obligations.SecondPass := by
  intro s b e word place ecc o c f hforward he hoasis hsched hchoice hhead hframe
  have head : s.WadiHead e c f o := ⟨hforward, hoasis, hsched, hchoice, hhead, hframe⟩
  have hexec : ∀ ecc, exec (.wadiReturn ⟨e, ecc⟩) s = .next (s.wadiReturn e ecc).finished := fun _ =>
    congrArg finish (if_pos he)
  refine ⟨fun hecc => ⟨fun hstays => ?stays, fun hown hstrip => ?returns⟩, ?structural, ?data⟩
  case stays =>
    have hstop : c.own.isSome = true ∨ f.dec.strip.isNone = true := hstays.imp_right Option.isNone_iff_eq_none.mpr
    rw [hexec, wadiReturn_sends head hecc, wadiSend, if_pos hstop]
  case returns =>
    have hgo : ¬ (c.own.isSome = true ∨ f.dec.strip.isNone = true) := by simp [hown, Option.isSome_iff_ne_none.mp hstrip]
    rw [hexec, wadiReturn_sends head hecc, wadiSend, if_neg hgo]
  case structural => rw [hexec, wadiReturn_structural head]
  case data => rw [hexec, wadiReturn_data head]

end Sys2Proof.Proofs
end

section
/-! SUPPORT. What a lane's transmitter sends (R90, R94, R96, R99, R107), and the checker of its test pattern (R108). -/

namespace Sys2Proof.Machine.State

variable {s : State} {l p : Nat}

/-! ### The transmitter -/

theorem laneDark_iff : s.laneDark l = true ↔ s.lanesRun (s.laneOf l) = false ∨ s.laneOn l = false ∨
    s.awake (domQuad (l / 4)) = false ∨ s.quadReady l = false := by
  simp [laneDark, or_assoc]

theorem txSignal_of_dark (h : s.laneDark l = true) : s.txSignal l = .electricalIdle := if_pos h

theorem txSignal_of_not_dark (h : ¬ s.laneDark l = true) : s.txSignal l = (s.testSignal l).getD (s.stateSignal l) := if_neg h

/-! What the test controls put on a lane. -/

theorem testSignal_of_ne_test (h : s.mode ≠ .test) : s.testSignal l = none := if_pos h

theorem testSignal_nearEnd (hm : s.mode = .test) (hc : s.rf (LNE_L_TEST l) 6 2 = 1) :
    s.testSignal l = some .electricalIdle := by
  simp [testSignal, hm, hc]

theorem testSignal_farEnd (hm : s.mode = .test) (hc : s.rf (LNE_L_TEST l) 6 2 = 2) : s.testSignal l = some .retimed := by
  simp [testSignal, hm, hc]

/-- Without a loopback a lane sends the pattern of its generator, where one is on. -/
theorem testSignal_generator (hm : s.mode = .test) (h1 : s.rf (LNE_L_TEST l) 6 2 ≠ 1) (h2 : s.rf (LNE_L_TEST l) 6 2 ≠ 2) :
    s.testSignal l = if s.rf (LNE_L_TEST l) 0 3 = 0 then none else some (.prbs (s.rf (LNE_L_TEST l) 0 3)) := by
  unfold testSignal
  rw [if_neg (not_not_intro hm)]
  split
  · exact absurd ‹_› h1
  · exact absurd ‹_› h2
  · rw [if_pos ‹_›]
  · rw [if_neg ‹_›]

/-! What a lane sends in each of its states. -/

theorem stateSignal_detect (h : s.laneState l = 0) :
    s.stateSignal l = if s.anEn (s.laneOf l) then .electricalIdle else .pcsIdle := by
  simp only [stateSignal, h]

theorem stateSignal_exchange (h : s.laneState l = 1) (hl : l = s.laneOf l) :
    s.stateSignal l = if s.is1000 l then .configuration else .dmePages := by
  simp [stateSignal, h, ← hl]

theorem stateSignal_train (h : s.laneState l = 2) : s.stateSignal l =
    if s.trains (s.laneOf l) then .training (s.laneCfg (s.laneOf l) 6 1 == 1) else .pcsIdle := by
  simp only [stateSignal, h]

theorem stateSignal_lock (h : s.laneState l = 3) : s.stateSignal l = .pcsIdle := by simp only [stateSignal, h]

theorem stateSignal_active (h : s.laneState l = 4) : s.stateSignal l = .frames := by simp only [stateSignal, h]

theorem stateSignal_nap (h : s.laneState l = 5) : s.stateSignal l = .quiet := by simp only [stateSignal, h]

theorem stateSignal_deep (h : s.laneState l = 6) : s.stateSignal l = .electricalIdle := by simp only [stateSignal, h]

/-! ### The checker (R108) -/

section
variable {n : Nat}

theorem prbsLock_on (h : s.prbsOn p = true) : s.prbsLock p = s.setBit (LNE_L_PRBS_STATUS p) 0 := if_pos h

/-- Up to 512 errors in a window count and leave a checker locked. -/
theorem prbsLoss_keeps (hon : s.prbsOn p = true) (hlock : s.rbit (LNE_L_PRBS_STATUS p) 0 = true) (hn : n ≤ 512) :
    s.prbsLoss p n = s.bumpBy (LNE_L_PRBS_ERR p) n := by
  have hcheck : ¬ (¬ s.prbsOn p = true ∨ ¬ s.rbit (LNE_L_PRBS_STATUS p) 0 = true) := by simp [hon, hlock]
  rw [prbsLoss, if_neg hcheck, if_pos hn, Nat.min_eq_left (by omega)]

/-- More of them count too, and drop the lock. -/
theorem prbsLoss_drops (hon : s.prbsOn p = true) (hlock : s.rbit (LNE_L_PRBS_STATUS p) 0 = true) (hn : 512 < n)
    (hw : n ≤ 1024) : s.prbsLoss p n =
      (((s.bumpBy (LNE_L_PRBS_ERR p) n).clrBit (LNE_L_PRBS_STATUS p) 0).wrapFld (LNE_L_PRBS_STATUS p) 8 8).setBit
        (LNE_IRQ_STATUS (p / 4)) (8 + p % 4) := by
  have hcheck : ¬ (¬ s.prbsOn p = true ∨ ¬ s.rbit (LNE_L_PRBS_STATUS p) 0 = true) := by simp [hon, hlock]
  rw [prbsLoss, if_neg hcheck, if_neg (Nat.not_le.mpr hn), Nat.min_eq_left hw]

theorem prbsStatus_ne_prbsErr : LNE_L_PRBS_STATUS p ≠ LNE_L_PRBS_ERR p := by
  unfold LNE_L_PRBS_STATUS LNE_L_PRBS_ERR; omega

theorem irqStatus_ne_prbsErr : LNE_IRQ_STATUS (p / 4) ≠ LNE_L_PRBS_ERR p := by
  unfold LNE_IRQ_STATUS LNE_L_PRBS_ERR LNE_L; omega

theorem irqStatus_ne_prbsStatus : LNE_IRQ_STATUS (p / 4) ≠ LNE_L_PRBS_STATUS p := by
  unfold LNE_IRQ_STATUS LNE_L_PRBS_STATUS LNE_L; omega

theorem reg_setFld (s : State) (off lo w v x : Nat) :
    (s.setFld off lo w v).reg x = if x = off then setBits (s.reg off) lo w v else s.reg x := by
  rw [setFld_eq, reg_setReg]

/-- A saturated sum fits its field. -/
theorem satAdd_mod (w v n : Nat) : satAdd w v n % 2 ^ w = satAdd w v n := by
  have hpos := Nat.two_pow_pos w
  exact Nat.mod_eq_of_lt (by unfold satAdd; omega)

/-! The registers when a lock is dropped. -/

section
variable (hon : s.prbsOn p = true) (hlock : s.rbit (LNE_L_PRBS_STATUS p) 0 = true) (hn : 512 < n) (hw : n ≤ 1024)
include hon hlock hn hw

theorem prbsLoss_drops_err :
    (s.prbsLoss p n).rf (LNE_L_PRBS_ERR p) 0 32 = satAdd 32 (s.rf (LNE_L_PRBS_ERR p) 0 32) n := by
  rw [prbsLoss_drops hon hlock hn hw, bumpBy_eq]
  simp only [rf, setBit, clrBit, wrapFld, reg_setFld, irqStatus_ne_prbsErr.symm, prbsStatus_ne_prbsErr.symm, if_true, if_false,
    bits_setBits_same, satAdd_mod]

theorem prbsLoss_drops_status : (s.prbsLoss p n).reg (LNE_L_PRBS_STATUS p) =
    setBits (setBits (s.reg (LNE_L_PRBS_STATUS p)) 0 1 0) 8 8 (s.rf (LNE_L_PRBS_STATUS p) 8 8 + 1) := by
  have hcount : bits (setBits (s.reg (LNE_L_PRBS_STATUS p)) 0 1 0) 8 8 = bits (s.reg (LNE_L_PRBS_STATUS p)) 8 8 :=
    bits_setBits_other (.inr (by decide))
  rw [prbsLoss_drops hon hlock hn hw, bumpBy_eq]
  simp only [rf, setBit, clrBit, wrapFld, reg_setFld, irqStatus_ne_prbsStatus.symm, prbsStatus_ne_prbsErr, if_true, if_false,
    hcount]

theorem prbsLoss_drops_irq : (s.prbsLoss p n).rbit (LNE_IRQ_STATUS (p / 4)) (8 + p % 4) = true := by
  rw [prbsLoss_drops hon hlock hn hw, rbit_setBit_same]

theorem prbsLoss_drops_other {off : Nat} (herr : off ≠ LNE_L_PRBS_ERR p) (hstatus : off ≠ LNE_L_PRBS_STATUS p)
    (hirq : off ≠ LNE_IRQ_STATUS (p / 4)) : (s.prbsLoss p n).reg off = s.reg off := by
  rw [prbsLoss_drops hon hlock hn hw, bumpBy_eq]
  simp only [setBit, clrBit, wrapFld, reg_setFld, herr, hstatus, hirq, if_false]

end
end

end Sys2Proof.Machine.State
end

section
/-! SUPPORT. The movements of a lane port where they take place (R96, R98, R101, R103, R104), its low-power states (R109, R318,
R320), and what a quad's reference, its PLL and the writes of its registers do (R94, R98, R107, R110). -/

namespace Sys2Proof.Machine.State

variable {s : State} {l p : Nat}

/-! ### Up to TRAIN -/

/-- What a movement of a port from state `k` asks for. -/
theorem laneMoves_guard {k : Nat} (hm : s.laneMoves p = true) (hk : s.laneState p = k) :
    ¬ (¬ s.laneMoves p = true ∨ s.laneState p ≠ k) := by
  simp [hm, hk]

theorem signalDetect_ready (hl : s.laneOf l = p) (hm : s.laneMoves p = true) (hon : s.laneOn p = true) (hk : s.laneState p = 0)
    (hq : s.quadReady p = true) :
    let ls := s.lanesOf s.crest.bank p
    let u := s.setLanes [l] 3 1 1
    s.signalDetect l = if s.anEn p then s.laneTo ls p 1
      else if ls.all fun l => u.rbit (LNE_L_STATE l) 3 then (u.setLanes ls 9 2 (u.effectiveFec p none)).laneTo ls p 2
      else u := by
  subst hl
  exact if_neg (by simp [hm, hon, hk, hq])

theorem anFail_exchange (hm : s.laneMoves p = true) (hk : s.laneState p = 1) : s.anFail p =
    ((s.setBit (LNE_L_STATE p) 11).satFld (LNE_L_FAIL_CNT p) 0 16 1).toDetect (s.lanesOf s.crest.bank p) p :=
  if_neg (laneMoves_guard hm hk)

section
variable {a : Partner}

theorem anComplete_common (hm : s.laneMoves p = true) (hk : s.laneState p = 1) (ha : s.common p a = true) :
    let ls := s.lanesOf s.crest.bank p
    s.anComplete p a = (((s.setLanes [p] 3 1 1).setLanes ls 9 2 (s.effectiveFec p (some a))).setFld (MAC_FC_STATUS p) 2 2
      a.pause).laneTo ls p 2 :=
  (if_neg (laneMoves_guard hm hk)).trans (if_neg (not_not_intro ha))

theorem anComplete_not_common (hm : s.laneMoves p = true) (hk : s.laneState p = 1) (ha : s.common p a = false) :
    s.anComplete p a = s.anFail p :=
  (if_neg (laneMoves_guard hm hk)).trans (if_pos (by simp [ha]))
end

/-! ### TRAIN and the receivers -/

section
variable {train : Bool} {eqs : List Equaliser}

/-- TRAIN ends where the port trains as the end says, with the coefficients of that end. -/
theorem trained_ends (hm : s.laneMoves p = true) (hk : s.laneState p = 2) (ht : s.trains p = train) :
    let ls := s.lanesOf s.crest.bank p
    s.trained p train eqs = ((s.each ls fun s l =>
      (if train then s.trainedTxEq l (s.eqOf eqs l) else s.storedTxEq [l]).applyRxEq l (s.eqOf eqs l)).setLanes ls 3 1 1).laneTo
        ls p 3 :=
  if_neg (by simp [hm, hk, ht])

theorem eqSettle_train (hk : s.laneState p = 2) : s.eqSettle p eqs = s.trained p false eqs :=
  if_neg (by simp [hk])

theorem eqSettle_tracks (hm : s.laneMoves p = true) (h3 : 3 ≤ s.laneState p) (h5 : s.laneState p ≤ 5) : s.eqSettle p eqs =
    s.each (s.lanesOf s.crest.bank p) fun s l => s.applyRxEq l (s.eqOf eqs l) :=
  if_pos ⟨hm, h3, h5⟩
end

theorem trainTimeout_trains (hm : s.laneMoves p = true) (hk : s.laneState p = 2) (ht : s.trains p = true) : s.trainTimeout p =
    (((s.elapseLane p 125000000).setBit (LNE_L_STATE p) 12).satFld (LNE_L_FAIL_CNT p) 16 16 1).toDetect
      (s.lanesOf s.crest.bank p) p :=
  if_neg (by simp [hm, hk, ht])

/-! ### LOCK -/

section
variable {skews : List Nat} {rx tx : Nat}

/-- The port with the skews that lock shows: those of a 100GBASE-R port. -/
def skewed (s : State) (p : Nat) (skews : List Nat) : State := if s.quad100 s.crest.bank p then s.setSkews p skews else s

/-- The port with its lock bits and its delays of R106 reported, where `wide` says that it is a 100GBASE-R port. -/
def lockReported (s : State) (p : Nat) (wide : Bool) (rx tx : Nat) : State :=
  let fec := s.rf (LNE_L_STATE p) 9 2
  let v := s.setLanes (s.lanesOf s.crest.bank p) 3 6 (7 + b2n wide * 8 + b2n (fec != 0) * 16)
  let f := stageDelay (v.portType v.crest.bank p)
  let g := fecDelay (v.portType v.crest.bank p) fec
  let deskew := if wide then v.rf (LNE_QUAD_STATUS (p / 4)) 8 8 * 256 else 0
  let w := v.setFld (LNE_L_TS_RX_DLY p) 0 20 (min (2 ^ 20 - 1) ((f.1 + g.1) * 256 / 10 + (deskew + rx)))
  w.setFld (LNE_L_TS_TX_DLY p) 0 20 (min (2 ^ 20 - 1) ((f.2.2 + g.2) * 256 / 10 + tx))

theorem lockAchieved_within (hm : s.laneMoves p = true) (hk : s.laneState p = 3)
    (hskew : ¬ (s.quad100 s.crest.bank p = true ∧ 180 < skews.foldl max 0)) :
    let u := s.skewed p skews
    s.lockAchieved p skews rx tx =
      (u.lockReported p (s.quad100 s.crest.bank p) rx tx).laneTo (u.lanesOf u.crest.bank p) p 4 :=
  (if_neg (laneMoves_guard hm hk)).trans (if_neg hskew)

theorem lockAchieved_beyond (hm : s.laneMoves p = true) (hk : s.laneState p = 3)
    (hskew : s.quad100 s.crest.bank p = true ∧ 180 < skews.foldl max 0) :
    let u := s.skewed p skews
    s.lockAchieved p skews rx tx = u.setMac p { u.mac p with skewBad := true } :=
  (if_neg (laneMoves_guard hm hk)).trans (if_pos hskew)

/-- Of skews beyond the bound there is at least one. -/
theorem ne_nil_of_skew (h : 180 < skews.foldl max 0) : skews ≠ [] := by
  rintro rfl
  exact absurd h (by decide)

theorem lockTimeout_lock (hm : s.laneMoves p = true) (hk : s.laneState p = 3) :
    let u := s.elapseLane p (s.rf (LNE_QUAD (p / 4) + 0x00C) 0 10 * 250000)
    let v := if u.quad100 u.crest.bank p = true ∧ skews ≠ [] then u.setSkews p skews else u
    let w := if (v.mac p).skewBad = true ∨ u.quad100 u.crest.bank p = true ∧ 180 < skews.foldl max 0
      then (v.setBit (LNE_QUAD_STATUS (p / 4)) 2).setBit (LNE_IRQ_STATUS (p / 4)) 13 else v
    s.lockTimeout p skews = w.toDetect (w.lanesOf w.crest.bank p) p := by
  intro u
  have hnew : (u.quad100 u.crest.bank p && !skews.isEmpty) = true ↔ u.quad100 u.crest.bank p = true ∧ skews ≠ [] := by simp
  have hbad : (u.quad100 u.crest.bank p && !skews.isEmpty && Nat.blt 180 (skews.foldl max 0)) = true ↔
      u.quad100 u.crest.bank p = true ∧ 180 < skews.foldl max 0 := by
    rw [Bool.and_eq_true, hnew, Nat.blt_eq]
    exact ⟨fun h => ⟨h.1.1, h.2⟩, fun h => ⟨⟨h.1, ne_nil_of_skew h.2⟩, h.2⟩⟩
  rw [lockTimeout, if_neg (laneMoves_guard hm hk)]
  simp only [when, Bool.or_eq_true, hbad, hnew, u]
end

/-! ### What takes a lane back from ACTIVE and NAP -/

theorem laneLockLoss_active (hl : s.laneOf l = p) (hm : s.laneMoves p = true) (hk : s.laneState p = 4) (what : LockKind) :
    s.laneLockLoss l what = (s.loseLock l what).laneTo (s.lanesOf s.crest.bank p) p 3 := by
  subst hl
  exact if_neg (laneMoves_guard hm hk)

theorem laneSignalLoss_up (hl : s.laneOf l = p) (hm : s.laneMoves p = true) (hk : s.laneState p = 4 ∨ s.laneState p = 5) :
    s.laneSignalLoss l = (s.setLanes [l] 3 1 0).toDetect (s.lanesOf s.crest.bank p) p := by
  subst hl
  exact if_neg (by simp [hm, hk])

/-! ### Low-power states -/

section
variable {e : Nat}

theorem quadIdle_some {q : Nat} (hrun : s.powerRuns = true) (hwant : s.want (domQuad q) ≠ 2)
    (hend : s.idleEnd (domQuad q) = some e) : s.quadIdle q = some (s.elapse (e - s.time.clk)) := by
  simp [quadIdle, hrun, hwant, hend]

theorem napEnter_idle {u : State} (hm : s.laneMoves p = true) (hk : s.laneState p = 4) (hlow : s.rf (LNE_L_LOW p) 0 2 = 1)
    (hlpi : s.rbit (MAC_EEE_STATUS p) 0 = true) (hidle : s.quadIdle (p / 4) = some u) :
    s.napEnter p = u.laneTo (u.lanesOf u.crest.bank p) p 5 := by
  rw [napEnter, if_neg (by simp [hm, hk, hlow, hlpi]), hidle]

theorem deepEnter_idle {u : State} (hm : s.laneMoves p = true) (hk : s.laneState p ≠ 6) (hlow : s.rf (LNE_L_LOW p) 0 2 = 2)
    (hidle : s.quadIdle (p / 4) = some u) :
    let ls := u.lanesOf u.crest.bank p
    let v := (u.unlock ls).laneTo ls p 6
    s.deepEnter p =
      (v.setMac p { v.mac p with deepUp := u.laneState p == 4 || u.laneState p == 5 }).pllSettle (p / 4) := by
  rw [deepEnter, if_neg (by simp [hm, hk, hlow]), hidle]

theorem napExit_nap (hm : s.laneMoves p = true) (hk : s.laneState p = 5) :
    s.napExit p = (s.elapse 125).laneTo (s.lanesOf s.crest.bank p) p 4 := if_neg (laneMoves_guard hm hk)

theorem napTimeout_nap (hm : s.laneMoves p = true) (hk : s.laneState p = 5) :
    s.napTimeout p = s.laneTo (s.lanesOf s.crest.bank p) p 3 := if_neg (laneMoves_guard hm hk)

theorem deepExit_deep (hm : s.laneMoves p = true) (hk : s.laneState p = 6) : s.deepExit p =
    ((s.elapse 5000).laneTo (s.lanesOf s.crest.bank p) p (if (s.mac p).deepUp then 3 else 0)).pllSettle (p / 4) :=
  if_neg (laneMoves_guard hm hk)

theorem signalWake_retention (hp : p < 32) (hd : s.domState (domQuad (p / 4)) = 1)
    (hnew : s.pow.signal.contains (p / 4) = false) : s.signalWake p =
      (s.setPow { s.pow with signal := s.pow.signal ++ [p / 4] }).revote (domQuad (p / 4)) :=
  if_neg (by simp only [hp, hd, hnew]; decide)
end

/-! ### The reference and the PLL of a quad -/

section
variable {q : Nat} {pll : Bool}

theorem quadRefLoss_off (hpll : pll = true) (hdeep : s.allDeep q = true) : s.quadRefLoss q pll = s := if_pos ⟨hpll, hdeep⟩

theorem quadRefLoss_lost (h : pll = false ∨ s.allDeep q = false) :
    let u := ((s.clrBit (LNE_QUAD_STATUS q) (b2n pll)).setBit (LNE_IRQ_STATUS q) 12).raise 31 q
    let w := if pll then { u with lns := { u.lns with pllLost := (u.lns.pllLost ++ [q]).eraseDups } } else u
    s.quadRefLoss q pll = w.each (w.quadPorts w.crest.bank q) fun s p =>
      if s.laneState p = 6 ∧ ¬ pll then s.setMac p { s.mac p with deepUp := false }
      else s.toDetect (s.lanesOf s.crest.bank p) p :=
  if_neg (by rcases h with h | h <;> simp [h])
end

/-! ### Writes of the registers of a quad -/

section
variable {rq : Requester} {q : Nat}

/-- Either requester writes the registers of the lanes. -/
theorem ignoresWrite_lne {off : Nat} (hlo : 0x100000 ≤ off) : s.ignoresWrite rq off = false := by
  have hchannel : channelOf off = none := if_neg (by omega)
  simp only [ignoresWrite, hchannel, GLB_FW_VERSION, NVM, FLT, HST, GLB_TEST_CTL]
  iterate 5 rw [if_neg (by omega)]

theorem plainReg_quadCtl : ∀ q < 8, plainReg (LNE_QUAD_CTL q) = some (.lne q, LNE_QUAD q) := by decide +kernel

theorem plainReg_laneTest : ∀ p < 32, plainReg (LNE_L_TEST p) = some (.lne (p / 4), LNE_QUAD (p / 4)) := by decide +kernel

/-- A write of LNE_QUAD_CTL that the bus serves at once restarts the lanes that it names. -/
theorem busWrite_quadCtl (hq : q < 8) (h : s.accepts rq (LNE_QUAD_CTL q) true) {mask : Nat} (hmask : mask < 16) :
    s.busWrite rq (LNE_QUAD_CTL q) (BitVec.ofNat 32 (mask % 16)) =
      ((s.arrived rq (LNE_QUAD_CTL q) 2).storing (LNE_QUAD_CTL q) mask).laneRestart q mask := by
  have hword : (BitVec.ofNat 32 (mask % 16)).toNat = mask := by rw [BitVec.toNat_ofNat]; omega
  have hoff : LNE_QUAD_CTL q - LNE_QUAD q = 0x008 := Nat.add_sub_cancel_left _ _
  rw [busWrite_plain_of_not_ignored h (plainReg_quadCtl q hq) (ignoresWrite_lne (by unfold LNE_QUAD_CTL LNE_QUAD; omega)), hword,
    hoff, written, lneWritten, if_pos rfl, Nat.mod_eq_of_lt hmask]

/-- A write of LNE_Ll_TEST that the bus serves at once. -/
theorem busWrite_laneTest (hp : p < 32) (h : s.accepts rq (LNE_L_TEST p) true) (v : Word) :
    s.busWrite rq (LNE_L_TEST p) v =
      ((s.arrived rq (LNE_L_TEST p) 2).storing (LNE_L_TEST p) v.toNat).written rq (.lne (p / 4)) (0x124 + p % 4 * 0x100)
        ((s.arrived rq (LNE_L_TEST p) 2).reg (LNE_L_TEST p)) v.toNat (s.arrived rq (LNE_L_TEST p) 2).coupleMode := by
  have hoff : LNE_L_TEST p - LNE_QUAD (p / 4) = 0x124 + p % 4 * 0x100 := by unfold LNE_L_TEST LNE_L; omega
  rw [busWrite_plain_of_not_ignored h (plainReg_laneTest p hp)
    (ignoresWrite_lne (by unfold LNE_L_TEST LNE_L LNE_QUAD; omega)), hoff]

/-- The word of LNE_Ll_TEST with INJECT set. -/
theorem injectWord_toNat (x : Nat) : (BitVec.ofNat 32 (x % 512 + 512)).toNat = x % 512 + 512 := by
  rw [BitVec.toNat_ofNat]; omega
end

end Sys2Proof.Machine.State
end

section
/-! PROOFS. The lanes: their movements, what takes them back, and their signals and test patterns. -/

namespace Sys2Proof.Proofs

open Sys2Proof.Machine State

/-- Settles O12: each clause gives what its command asks for, and the statement writes out the movement that follows. -/
theorem laneCommands : Obligations.LaneCommands := by
  refine ⟨?moves, ?power⟩
  case moves =>
    intro s p l a eqs sk rx tx hm hl ls wide
    refine ⟨fun hon hk hq => ?detect, fun hk ha => ?agreed, fun hk ha => ?disagreed, fun hk ht => ?trained, fun hk ht => ?settled,
      fun h3 h5 => ?tracks, fun hk => ⟨fun hskew => ?locked, fun hskew => ?skewed⟩⟩
    case detect => exact congrArg finish (signalDetect_ready hl hm hon hk hq)
    case agreed => exact congrArg finish (anComplete_common hm hk ha)
    case disagreed => exact congrArg finish (anComplete_not_common hm hk ha)
    case trained => exact congrArg finish (trained_ends hm hk ht)
    case settled => exact congrArg finish ((eqSettle_train hk).trans (trained_ends hm hk ht))
    case tracks => exact congrArg finish (eqSettle_tracks hm h3 h5)
    case locked => exact congrArg finish (lockAchieved_within hm hk hskew)
    case skewed => exact congrArg finish (lockAchieved_beyond hm hk hskew)
  case power =>
    intro s p e
    refine ⟨fun hm => ⟨fun hrun hwant hend => ?idle, fun hk => ?napEnds, fun hk => ?notResumed, fun hk => ?deepEnds⟩,
      fun hp hd hnew => ?signal⟩
    case idle =>
      have hidle := quadIdle_some hrun hwant hend
      exact ⟨fun hk hlow hlpi => congrArg finish (napEnter_idle hm hk hlow hlpi hidle),
        fun hk hlow => congrArg finish (deepEnter_idle hm hk hlow hidle)⟩
    case napEnds => exact congrArg finish (napExit_nap hm hk)
    case notResumed => exact congrArg finish (napTimeout_nap hm hk)
    case deepEnds => exact congrArg finish (deepExit_deep hm hk)
    case signal => exact congrArg finish (signalWake_retention hp hd hnew)

/-- Settles O13: each clause gives what its command asks for; a command of a quad names one that exists. -/
theorem laneFailures : Obligations.LaneFailures := by
  intro s rq p l q mask skews pll what
  refine ⟨fun hm hl => ⟨fun hk => ?exchange, fun hk ht => ?train, fun hk => ?lock, fun hk => ?lockLost, fun hk => ?signalLost⟩,
    fun hq => ⟨fun h => ?lost, fun hpll hdeep => ?off, ?recovered, fun h hmask => ?restart⟩⟩
  case exchange => exact congrArg finish (anFail_exchange hm hk)
  case train => exact congrArg finish (trainTimeout_trains hm hk ht)
  case lock => exact congrArg finish (lockTimeout_lock hm hk)
  case lockLost => exact congrArg finish (laneLockLoss_active hl hm hk what)
  case signalLost => exact congrArg finish (laneSignalLoss_up hl hm hk)
  case lost => exact congrArg finish ((if_pos hq).trans (quadRefLoss_lost h))
  case off => exact congrArg finish ((if_pos hq).trans (quadRefLoss_off hpll hdeep))
  case recovered => exact congrArg finish (if_pos hq)
  case restart => exact congrArg finish ((if_pos hq).trans (busWrite_quadCtl hq h hmask))

/-- Settles O14: the signal of a lane by its test controls and its state, and of a window's errors what each register holds. -/
theorem prbsCommands : Obligations.PrbsCommands := by
  intro s rq p n off hp
  refine ⟨⟨fun h => ?dark, fun hrun hon hawake hready => ?lit, stateSignal_detect, stateSignal_exchange, fun hk ht => ?untrained,
    fun hk ht => ?trains, stateSignal_lock, stateSignal_active, stateSignal_nap, stateSignal_deep⟩,
    fun hon => ?locks, fun hon hlock hn => ?keeps, fun hon hlock hn hw => ?drops, fun h => ?inject⟩
  case dark => exact txSignal_of_dark (laneDark_iff.mpr h)
  case lit =>
    have hlit : ¬ s.laneDark p = true := by simp [laneDark_iff, hrun, hon, hawake, hready]
    rw [txSignal_of_not_dark hlit]
    refine ⟨fun hm c g hc hg => ?test, fun hm => by rw [testSignal_of_ne_test hm, Option.getD_none]⟩
    subst hc hg
    refine ⟨fun h1 => ?near, fun h2 => ?far, fun h1 h2 hg => ?generator, fun h1 h2 hg => ?state⟩
    case near => rw [testSignal_nearEnd hm h1, Option.getD_some]
    case far => rw [testSignal_farEnd hm h2, Option.getD_some]
    case generator => rw [testSignal_generator hm h1 h2, if_neg hg, Option.getD_some]
    case state => rw [testSignal_generator hm h1 h2, if_pos hg, Option.getD_none]
  case untrained => rw [stateSignal_train hk, if_neg (by simp [ht])]
  case trains => rw [stateSignal_train hk, if_pos ht]
  case locks => exact congrArg finish (prbsLock_on hon)
  case keeps => exact congrArg finish (prbsLoss_keeps hon hlock hn)
  case drops =>
    have hstatus := prbsLoss_drops_status hon hlock hn hw
    refine ⟨(s.prbsLoss p n).finished, rfl, prbsLoss_drops_err hon hlock hn hw, ?unlocked, ?losses,
      prbsLoss_drops_irq hon hlock hn hw, fun hoff => ?others⟩
    case unlocked => simp [rbit, finished_reg, hstatus]
    case losses => exact (congrArg (bits · 8 8) hstatus).trans (bits_setBits_same _ _ _ _)
    case others =>
      obtain ⟨herr, hstatus, hirq⟩ : off ≠ LNE_L_PRBS_ERR p ∧ off ≠ LNE_L_PRBS_STATUS p ∧ off ≠ LNE_IRQ_STATUS (p / 4) := by
        simpa using hoff
      rw [finished_reg, prbsLoss_drops_other hon hlock hn hw herr hstatus hirq]
  case inject =>
    have hexec : exec (.prbsInject rq p) s = finish (s.busWrite rq (LNE_L_TEST p) _) := congrArg finish (if_pos hp)
    rw [hexec, busWrite_laneTest hp h, injectWord_toNat, finish_next]

end Sys2Proof.Proofs
end

section
/-! SUPPORT. The acceptance of a received frame (R115, R116), the flow control, low-power idle and preemption verification of a
lane port (R121 to R129), and the starts and ends of transmissions (R120, R290), each where it takes place. -/

namespace Sys2Proof.Machine.State

variable {s : State} {p : Nat}

/-! ### The discard table (R116) -/

/-- A row of the table that discards comes to acceptance just where it does not apply and the rows after it accept. -/
theorem row_accepts_iff {a : Prop} [Decidable a] {r rest : RxReason} (hr : r ≠ .ok) :
    (if a then r else rest) = .ok ↔ ¬ a ∧ rest = .ok := by
  by_cases ha : a
  · simp [ha, hr]
  · simp [ha]

/-- A row that names its reason by the FCS discards either way. -/
theorem reasonByFcs_ne_ok {good : Bool} {a b : RxReason} (ha : a ≠ .ok) (hb : b ≠ .ok) :
    (if good = true then a else b) ≠ .ok := by
  cases good <;> assumption

/-- A frame is accepted where every row of the table lets it past. -/
theorem rxReason_ok_iff (s : State) (f : Frame) (code ovf pre : Bool) : s.rxReason f code ovf pre = .ok ↔
    s.cbit f.bank (MAC_CFG f.port) 0 = true ∧ ¬ ovf = true ∧ ¬ code = true ∧ ¬ f.bytes.length < 64 ∧
      ¬ s.maxFrame f.bank f.port < f.bytes.length ∧ fcsGood f.bytes = true ∧ ¬ be16 f.bytes 12 = 0x8808 ∧ ¬ pre = true := by
  unfold rxReason
  rw [row_accepts_iff (by decide), row_accepts_iff (by decide), row_accepts_iff (by decide),
    row_accepts_iff (reasonByFcs_ne_ok (by decide) (by decide)), row_accepts_iff (reasonByFcs_ne_ok (by decide) (by decide)),
    row_accepts_iff (by decide), row_accepts_iff (by decide), row_accepts_iff (by decide)]
  simp only [and_true, not_not]

/-! ### Flow control (R121 to R124) -/

section
variable {k t vec : Nat} {times : List Nat}

theorem pauseApply_pause (h : (s.mac p).pause = some (some t, vec, times)) :
    s.pauseApply p = (s.setMac p { s.mac p with pause := none }).pauseFor p 8 t := by
  rw [pauseApply, h]

theorem pauseApply_pfc (h : (s.mac p).pause = some (none, vec, times)) : s.pauseApply p =
    (s.setMac p { s.mac p with pause := none }).each ((List.range 8).filter fun k => bit vec k)
      fun s k => s.pauseFor p k (times.getD k 0) := by
  rw [pauseApply, h]

theorem pauseExpire_paused (h : s.rbit (MAC_FC_STATUS p) (pauseBit k) = true) : s.pauseExpire p k =
    (s.elapse ((s.mac p).ends.getD k 0 - s.time.clk)).clrBit (MAC_FC_STATUS p) (pauseBit k) :=
  if_neg (not_not_intro h)

theorem pauseWatchdog_fires (h : (s.longPauses p).min? = some t) :
    let u := s.elapse (t + s.rf (MAC_PAUSE_WDOG p) 0 10 * 250000 + 1 - s.time.clk)
    let w := ((u.setFld (MAC_FC_STATUS p) 0 1 0).setFld (MAC_FC_STATUS p) 8 8 0).setBit (MAC_FC_STATUS p) 1
    let x := w.setMac p { w.mac p with pause := none, holdoffAt := w.time.clk }
    s.pauseWatchdog p = ((x.stat p stPauseWdog 1).setBit (MAC_IRQ_STATUS p) 1).raise 32 p := by
  rw [pauseWatchdog, h]

theorem holdoffEnd_held (h : s.rbit (MAC_FC_STATUS p) 1 = true) : s.holdoffEnd p =
    (s.elapse ((s.mac p).holdoffAt + s.rf (MAC_PAUSE_WDOG p) 16 16 * 250000 - s.time.clk)).clrBit (MAC_FC_STATUS p) 1 :=
  if_neg (not_not_intro h)
end

/-! ### Low-power idle (R127) -/

theorem lpiEnter_idle (hon : s.eeeOn p = true) (hk : s.laneState p = 4) (hlpi : s.rbit (MAC_EEE_STATUS p) 0 = false)
    (hwaking : (s.mac p).waking = false) (htx : (s.mac p).tx = none) (hheld : (s.mac p).held = none)
    (hvote : s.quadVoted p = false) (hq : s.nextQueue p = none) : s.lpiEnter p =
      (((s.elapse ((s.mac p).busy + s.cf s.crest.bank (MAC_EEE_CFG p) 8 8 * 250 - s.time.clk)).setBit
        (MAC_EEE_STATUS p) 0).stat p stTxLpi 1).rawCtr p 15 :=
  if_neg (by simp [hon, hk, hlpi, hwaking, htx, hheld, hvote, hq])

theorem lpiExit_wanted (h : (s.nextQueue p).isSome = true ∨ s.quadVoted p = true) : s.lpiExit p = s.lpiLeave p := if_pos h

theorem wakeDone_waking (h : (s.mac p).waking = true) :
    let u := s.elapse ((s.mac p).busy + ceilDiv (s.cf s.crest.bank (MAC_EEE_CFG p) 16 16) 4 - s.time.clk)
    s.wakeDone p = u.setMac p { u.mac p with waking := false } :=
  if_neg (not_not_intro h)

theorem rxLpi_on (h : s.eeeOn p = true) :
    s.rxLpi p = ((s.setBit (MAC_EEE_STATUS p) 1).stat p stRxLpi 1).rawCtr p 15 := if_pos h

/-! ### Transmissions (R120, R290) -/

section
variable {q w : Nat} {tx : TxStart} {t : Tx} {c : Copy} {f : Frame}

/-- An idle port sends the head of the queue that it chooses. -/
theorem startOn_idle (hmay : (s.elapse tx.wait).mayTransmit p = true)
    (htx : (((s.elapse tx.wait).noteWithheld p).mac p).tx = none)
    (hq : ((s.elapse tx.wait).noteWithheld p).nextQueue p = some q) :
    s.startOn p tx = ((s.elapse tx.wait).noteWithheld p).sendHead q tx.dev tx.ecc := by
  simp only [startOn, hmay, not_true_eq_false, if_false, htx, hq]

/-- A transmission whose copy is whole, or ends stomped, ends with its last byte. -/
theorem endOn_ends (htx : ((s.elapse w).mac p).tx = some t) (hc : (s.elapse w).txCopy t = some c)
    (hf : (s.elapse w).frame c.frame = some f) (hwhole : c.cut = true → f.lastIn = true ∨ t.stomp = true) :
    s.endOn p w = ((s.elapse w).elapseSent p t t.bytes.length).txDone p t c f := by
  have hends : ¬ (c.cut = true ∧ ¬ f.lastIn = true ∧ ¬ t.stomp = true) := fun ⟨hcut, hlast, hstomp⟩ =>
    (hwhole hcut).elim hlast hstomp
  simp only [endOn, htx, hc, hf, if_neg hends]
end

/-! ### Verification (R129) -/

theorem verifying_iff : s.verifying p = true ↔ s.rf (MAC_PREEMPT_STATUS p) 0 3 = 2 := beq_iff_eq

theorem verifySend_attempt (h : s.rf (MAC_PREEMPT_STATUS p) 0 3 = 2) (hk : s.laneState p = 4) (hn : (s.mac p).verifies < 3) :
    s.verifySend p = (s.elapseVerify p).setMac p
      { (s.elapseVerify p).mac p with verifies := ((s.elapseVerify p).mac p).verifies + 1, verifyAt := (s.elapseVerify p).time.clk } :=
  if_pos ⟨verifying_iff.mpr h, hk, hn⟩

theorem verifyAnswered_verifying (h : s.rf (MAC_PREEMPT_STATUS p) 0 3 = 2) : s.verifyAnswered p = s.setVerify p 3 :=
  if_pos (verifying_iff.mpr h)

theorem verifyFail_unanswered (h : s.rf (MAC_PREEMPT_STATUS p) 0 3 = 2) (hn : 3 ≤ (s.mac p).verifies) :
    s.verifyFail p = (s.elapseVerify p).setVerify p 4 :=
  if_pos ⟨verifying_iff.mpr h, hn⟩

end Sys2Proof.Machine.State
end

section
/-! SUPPORT. The medium of a field port, its modes and its beacons where each is in force (R132 to R136), and the writes of the
registers of a MAC that clear (R135, R139). -/

namespace Sys2Proof.Machine.State

variable {s : State} {p : Nat}

/-! ### Collisions, backoff and jabber (R132) -/

section
variable {n : Nat} {t : Tx} {c : Copy}

/-- A collision on an attempt counts; how far the attempt and its copy have come decides the rest. -/
theorem collision_attempt (htx : (s.mac p).tx = some t) (hc : s.txCopy t = some c) (n : Nat) :
    let u := (s.stormEvent p).rawCtr p 12
    s.collision p n = if 64 < n then ((u.stat p stTxLateColl 1).rawCtr p 13).dropAttempt p t c n
      else if 16 ≤ c.coll + 1 then ((u.stat p stTxExcessColl 1).rawCtr p 13).dropAttempt p t c n
      else ((u.stat p stTxOctets n).bwTx p n).backOff p c := by
  simp only [collision, htx, hc]

theorem collision_late (htx : (s.mac p).tx = some t) (hc : s.txCopy t = some c) (hn : 64 < n) : s.collision p n =
    ((((s.stormEvent p).rawCtr p 12).stat p stTxLateColl 1).rawCtr p 13).dropAttempt p t c n :=
  (collision_attempt htx hc n).trans (if_pos hn)

theorem collision_excess (htx : (s.mac p).tx = some t) (hc : s.txCopy t = some c) (hn : n ≤ 64) (hcoll : 15 ≤ c.coll) :
    s.collision p n = ((((s.stormEvent p).rawCtr p 12).stat p stTxExcessColl 1).rawCtr p 13).dropAttempt p t c n :=
  (collision_attempt htx hc n).trans ((if_neg (by omega)).trans (if_pos (by omega)))

theorem collision_backsOff (htx : (s.mac p).tx = some t) (hc : s.txCopy t = some c) (hn : n ≤ 64) (hcoll : c.coll < 15) :
    s.collision p n = ((((s.stormEvent p).rawCtr p 12).stat p stTxOctets n).bwTx p n).backOff p c :=
  (collision_attempt htx hc n).trans ((if_neg (by omega)).trans (if_neg (by omega)))
end

section
variable {tx : TxStart} {c : Copy}

/-- The port when its backoff, if it has one, has ended. -/
def atBackoffEnd (s : State) (p : Nat) : State :=
  if (s.mac p).backoff.isSome then s.elapse ((s.mac p).backoffAt - s.time.clk) else s

/-- The attempt after backoff, of a copy that still heads its queue and fits. -/
theorem backoffEnd_attempts {v w : State} (hv : (s.elapse tx.wait).atBackoffEnd p = v)
    (hw : v.setMac p { v.mac p with backoff := none } = w)
    (hc : ((v.mac p).backoff.bind fun id => v.oas.copies.find? fun c => c.id == id) = some c)
    (hmay : v.mayTransmit p = true) (htx : (v.mac p).tx = none) (hready : w.queueReady p c.queue = true)
    (hhead : w.headCopy c.queue = some c) : s.backoffEnd p tx = w.sendHead c.queue tx.dev tx.ecc := by
  subst hv hw
  have hbusy : ¬ (¬ ((s.elapse tx.wait).atBackoffEnd p).mayTransmit p = true ∨
      (((s.elapse tx.wait).atBackoffEnd p).mac p).tx.isSome = true) := by simp [hmay, htx]
  simp only [atBackoffEnd] at hc hbusy hready hhead ⊢
  simp only [backoffEnd, hc, if_neg hbusy, if_pos (And.intro hready hhead)]

theorem opportunity_of_backoff (h : (s.mac p).backoff.isSome = true) (d : Bool) :
    s.opportunity p d tx = s.backoffEnd p tx := if_pos h

/-- With no backoff the port begins what it chooses; of an idle port a first attempt that was deferred counts. -/
theorem opportunity_of_no_backoff (h : (s.mac p).backoff = none) (d : Bool) : s.opportunity p d tx =
    if d && (s.mac p).tx.isNone && (s.startOn p tx).firstAttempt p then (s.startOn p tx).stat p stTxDeferred 1
    else s.startOn p tx :=
  if_neg (by simp [h])
end

theorem jabber_enabled (h : s.rbit (MAC_FLD_STATUS p) 3 = false) : s.jabber p =
    ((((s.stat p stFldJabber 1).setBit (MAC_IRQ_STATUS p) 5).abortTx p).setBit (MAC_FLD_STATUS p) 3).flushPort p :=
  if_neg (by simp [h])

/-! ### Storm windows, fallback and beacons (R133 to R136) -/

theorem stormWindowEnd_open {t : Nat} (h : (s.mac p).window = some t) :
    let u := s.elapse (t + s.cf s.crest.bank (MAC_FLD_STORM p) 16 16 * 250 - s.time.clk)
    s.stormWindowEnd p = (u.setMac p { u.mac p with window := none }).setFld (MAC_FLD_STATUS p) 8 8 0 := by
  rw [stormWindowEnd, h]

theorem dwellEnd_fallback (hmode : s.fieldMode p = 2) (hd : s.cf s.crest.bank (MAC_FLD_DWELL p) 0 16 ≠ 0) : s.dwellEnd p =
    (s.elapse ((s.mac p).dwellAt + s.cf s.crest.bank (MAC_FLD_DWELL p) 0 16 * 250000000 - s.time.clk)).fallbackLeave p 0 :=
  if_neg (by simp [hmode, hd])

theorem beaconConflict_fallback (hmode : s.fieldMode p = 2) :
    let u := (s.stat p stFldConflict 1).fallbackLeave p 0
    s.beaconConflict p = u.setMac p { u.mac p with barred := some u.time.clk } :=
  if_neg (not_not_intro hmode)

/-- The port is to show a beacon: its own, in fallback or as node 0 of PLCA, or one that it follows. -/
def showsBeacon (s : State) (p : Nat) (own : Bool) : Prop :=
  own = true ∧ s.fieldMode p = 2 ∨ s.fieldMode p = 1 ∧ (own = true → s.cf s.crest.bank (MAC_FLD_PLCA p) 0 3 = 0)

theorem plcaBeacon_shown {own : Bool} (h : s.showsBeacon p own) : s.plcaBeacon p own =
    (s.setBit (MAC_FLD_STATUS p) 2).setMac p { s.mac p with beaconAt := s.time.clk } := by
  refine if_pos ?_
  rcases h with ⟨rfl, hmode⟩ | ⟨hmode, hnode⟩
  · simp [hmode]
  · cases own
    · simp [hmode]
    · simp [hmode, hnode rfl]

/-! ### Writes of the registers of a MAC -/

section
variable {rq : Requester} {m : Nat}

theorem plainReg_fldCtl : ∀ p < 64, 32 ≤ p → plainReg (MAC_FLD_CTL p) = some (.mac p, MAC p) := by decide +kernel

theorem plainReg_statCtl : ∀ m < 69, plainReg (MAC_STAT_CTL m) = some (.mac m, MAC m) := by decide +kernel

theorem isField_iff : isField p = true ↔ 32 ≤ p ∧ p < 64 := by simp [isField, Nat.ble_eq, Nat.blt_eq]

/-- A write of CLEAR_FALLBACK that the bus serves at once. -/
theorem busWrite_clearFallback (hp : isField p = true) (h : s.accepts rq (MAC_FLD_CTL p) true) :
    s.busWrite rq (MAC_FLD_CTL p) 1 =
      ((s.arrived rq (MAC_FLD_CTL p) 2).storing (MAC_FLD_CTL p) 1).clearFallback p := by
  obtain ⟨hlo, hhi⟩ := isField_iff.mp hp
  have hoff : MAC_FLD_CTL p - MAC p = 0x040 := Nat.add_sub_cancel_left _ _
  rw [busWrite_plain_of_not_ignored h (plainReg_fldCtl p hhi hlo) (ignoresWrite_lne (by unfold MAC_FLD_CTL MAC; omega)), hoff]
  rfl

/-- A write of MAC_STAT_CTL.CLEAR that the bus serves at once. -/
theorem busWrite_statClear (hm : m < 69) (h : s.accepts rq (MAC_STAT_CTL m) true) :
    s.busWrite rq (MAC_STAT_CTL m) 1 = ((s.arrived rq (MAC_STAT_CTL m) 2).storing (MAC_STAT_CTL m) 1).statClear m := by
  have hoff : MAC_STAT_CTL m - MAC m = 0x058 := Nat.add_sub_cancel_left _ _
  rw [busWrite_plain_of_not_ignored h (plainReg_statCtl m hm) (ignoresWrite_lne (by unfold MAC_STAT_CTL MAC; omega)), hoff]
  rfl
end

end Sys2Proof.Machine.State
end

section
/-! PROOFS. The ports: what they accept and send, their flow control and low-power idle, and the medium of a field port. -/

namespace Sys2Proof.Proofs

open Sys2Proof.Machine State

/-- Settles O16: a frame is accepted where no row of the table applies, and the statement says of each row that it does not. -/
theorem acceptedFrame : Obligations.AcceptedFrame := by
  intro s f code ovf pre
  rw [rxReason_ok_iff]
  simp only [not_lt, Bool.not_eq_true, ne_eq]

/-- Settles O17: each clause gives what its command asks for, and the statement writes out what follows. -/
theorem pauseAndLowPower : Obligations.PauseAndLowPower := by
  refine ⟨fun s p k t vec times hp => ⟨⟨fun h => ?pause, fun h => ?pfc⟩, fun hk h => ?expires, fun h => ?watchdog,
    fun h => ?holdoff⟩, fun s p => ⟨fun hon hk hlpi hwaking htx hheld hvote hq => ?enters, fun h => ?leaves, fun hp h => ?woken,
    fun h => ?partner⟩⟩
  case pause => exact congrArg finish ((if_pos hp).trans (pauseApply_pause h))
  case pfc => exact congrArg finish ((if_pos hp).trans (pauseApply_pfc h))
  case expires => exact congrArg finish ((if_pos ⟨hp, hk⟩).trans (pauseExpire_paused h))
  case watchdog => exact congrArg finish ((if_pos hp).trans (pauseWatchdog_fires h))
  case holdoff => exact congrArg finish ((if_pos hp).trans (holdoffEnd_held h))
  case enters => exact congrArg finish (lpiEnter_idle hon hk hlpi hwaking htx hheld hvote hq)
  case leaves => exact congrArg finish (lpiExit_wanted h)
  case woken => exact congrArg finish ((if_pos hp).trans (wakeDone_waking h))
  case partner => exact congrArg finish (rxLpi_on h)

/-- Settles O18: the transmitter starts where it is idle and ends where its copy is whole or stomped; verification goes by its
status and the number of attempts. -/
theorem transmitAndVerify : Obligations.TransmitAndVerify := by
  refine ⟨fun s p q w tx t c f => ⟨fun hback hmay htx hq => ?starts, fun htx hc hf hwhole => ?ends⟩,
    fun s p hp h => ⟨fun hk hn => ?attempt, ?answered, fun hn => ?fails⟩⟩
  case starts => exact congrArg finish ((if_neg (by simp [hback])).trans (startOn_idle hmay htx hq))
  case ends => exact congrArg finish (endOn_ends htx hc hf hwhole)
  case attempt => exact congrArg finish ((if_pos hp).trans (verifySend_attempt h hk hn))
  case answered => exact congrArg finish ((if_pos hp).trans (verifyAnswered_verifying h))
  case fails => exact congrArg finish ((if_pos hp).trans (verifyFail_unanswered h hn))

/-- Settles O19: each command names a field port, and what it finds there decides which way it goes. -/
theorem fieldCommands : Obligations.FieldCommands := by
  refine ⟨fun s p n d tx t c hp => ⟨fun htx hc => ⟨fun hn => ?late, fun hn hcoll => ?excess, fun hn hcoll => ?backsOff⟩,
    fun hc hmay htx hready hhead => ?attempts, fun hback => ?opportunity, fun h => ?jabber, ?release⟩,
    fun s rq p t m own hp => ⟨fun h => ?window, fun hmode => ⟨fun hd => ?dwell, ?conflict, ?ownBeacon⟩,
    fun hmode hnode => ?beacon, fun h => ?clear, fun hm h => ?statClear⟩⟩
  case late => exact congrArg finish ((if_pos hp).trans (collision_late htx hc hn))
  case excess => exact congrArg finish ((if_pos hp).trans (collision_excess htx hc hn hcoll))
  case backsOff => exact congrArg finish ((if_pos hp).trans (collision_backsOff htx hc hn hcoll))
  case attempts =>
    have hsends := backoffEnd_attempts (s := s) (p := p) (tx := tx) rfl rfl hc hmay htx hready hhead
    exact ⟨congrArg finish ((if_pos hp).trans hsends),
      fun hback => congrArg finish ((if_pos hp).trans ((opportunity_of_backoff hback d).trans hsends))⟩
  case opportunity => exact congrArg finish ((if_pos hp).trans (opportunity_of_no_backoff hback d))
  case jabber => exact congrArg finish ((if_pos hp).trans (jabber_enabled h))
  case release => exact congrArg finish (if_pos hp)
  case window => exact congrArg finish ((if_pos hp).trans (stormWindowEnd_open h))
  case dwell => exact congrArg finish ((if_pos hp).trans (dwellEnd_fallback hmode hd))
  case conflict => exact congrArg finish ((if_pos hp).trans (beaconConflict_fallback hmode))
  case ownBeacon => exact congrArg finish ((if_pos hp).trans (plcaBeacon_shown (.inl ⟨rfl, hmode⟩)))
  case beacon => exact congrArg finish ((if_pos hp).trans (plcaBeacon_shown (.inr ⟨hmode, hnode⟩)))
  case clear => exact congrArg finish ((if_pos (isField_iff.mp hp)).trans (busWrite_clearFallback hp h))
  case statClear => exact congrArg finish ((if_pos hm).trans (busWrite_statClear hm h))

end Sys2Proof.Proofs
end

section
/-! SUPPORT. The order in which an erg takes its frames (R143), and the parse commands where each takes place: dispatch (R141,
R145), the end of a parse (R144, R145, R147) and release (R143). -/

namespace Sys2Proof.Machine.State

/-! ### The order of release (R143)

The three ranks of the order are one key under the lexicographic order, so `earliest` is the library's `List.argmin`. -/

/-- What the order of R143 goes by: order stamp, then kind of pass, then ingress port. -/
def releaseKey (f : Frame) : ℕ ×ₗ Bool ×ₗ ℕ := toLex (f.order, toLex (f.second, f.port))

theorem releaseKey_lt_iff {a b : Frame} : releaseKey a < releaseKey b ↔
    a.order < b.order ∨ a.order = b.order ∧ (a.second < b.second ∨ a.second = b.second ∧ a.port < b.port) := by
  simp only [releaseKey, Prod.Lex.toLex_lt_toLex]

theorem releaseKey_le_iff {a b : Frame} : releaseKey a ≤ releaseKey b ↔
    a.order < b.order ∨ a.order = b.order ∧ (a.second < b.second ∨ a.second = b.second ∧ a.port ≤ b.port) := by
  simp only [releaseKey, Prod.Lex.toLex_le_toLex]

/-- A frame goes before another where its key is the lower one. -/
theorem earlier_iff_releaseKey_lt {a b : Frame} : earlier a b = true ↔ releaseKey a < releaseKey b := by
  simp [earlier, releaseKey_lt_iff, Nat.blt_eq, Bool.lt_iff]

/-- Of the frames with the least key, `earliest` takes the first in the list. -/
theorem earliest_eq_argmin (l : List Frame) : earliest l = l.argmin releaseKey := by
  induction l with
  | nil => rfl
  | cons f r ih =>
    rw [earliest, List.argmin_cons, ih]
    cases r.argmin releaseKey with
    | none => rfl
    | some g => simp only [earlier_iff_releaseKey_lt]

theorem mem_of_earliest {l : List Frame} {f : Frame} (h : earliest l = some f) : f ∈ l :=
  List.argmin_mem (earliest_eq_argmin l ▸ h)

theorem releaseKey_le_of_earliest {l : List Frame} {f g : Frame} (h : earliest l = some f) (hg : g ∈ l) :
    releaseKey f ≤ releaseKey g :=
  List.le_of_mem_argmin hg (earliest_eq_argmin l ▸ h)

section
variable {s : State} {e k : Nat} {f : Frame}

/-! ### Dispatch (R141, R145) -/

theorem ble_eq_false_iff {m n : Nat} : Nat.ble m n = false ↔ n < m := by
  rw [Bool.eq_false_iff, ne_eq, Nat.ble_eq, Nat.not_le]

theorem dispatchPaused_eq_false_iff :
    s.dispatchPaused e = false ↔ ((s.prs e).paused = true → s.reorderFill e < 64) := by
  rw [dispatchPaused, Bool.and_eq_false_imp, ble_eq_false_iff]

/-- The next frame goes to the engine in turn: dispatch is not paused, the erg is on and the engine free. -/
theorem dispatch_next (hfwd : s.forwarding = true) (hroom : (s.prs e).paused = true → s.reorderFill e < 64)
    (hon : s.awake (domErg e) = true) (hfree : ((s.ergFrames e).any fun f => f.stage == .engine (s.prs e).turn) = false)
    (hf : earliest ((s.ergFrames e).filter s.dispatchable) = some f) : s.dispatch e =
      (s.setFrame { f with stage := .engine (s.prs e).turn, dispatched := some s.rawNs }).setPrs e
        { s.prs e with turn := ((s.prs e).turn + 1) % 8 } := by
  have hruns : ¬ (¬ s.forwarding = true ∨ s.dispatchPaused e = true) := by
    simp [hfwd, dispatchPaused_eq_false_iff.mpr hroom]
  simp only [dispatch, if_neg hruns, if_neg (not_not_intro hon), hfree, Bool.false_eq_true, if_false, hf]

/-! ### The end of a parse (R144, R145, R147) -/

/-- A frame as its parse leaves it. -/
def parseResultOf (s : State) (f : Frame) (e : Nat) : Frame :=
  { f with parse := (s.reorderCheck e).parseFrame f e, stage := .reorder }

/-- A parse has ended: its frame is stored with the result, which is counted and captured. -/
def parseEnds (s : State) (f : Frame) (e : Nat) : State :=
  let g := s.parseResultOf f e
  (((s.reorderCheck e).setFrame g).countParse g e g.parse).capture g e g.parse

/-- The frame of the engine finds a place or leaves at once where it is late, the stage has room or it is next released. -/
theorem parsed_of_engine (hfwd : s.forwarding = true)
    (hf : ((s.ergFrames e).find? fun f => f.stage == .engine k) = some f) :
    let late := (s.prs e).released.any (Nat.blt f.order)
    let full := Nat.ble 64 (s.reorderFill e)
    let next := (s.nextRelease e).any fun g => g.id == f.id
    let v := s.parseEnds f e
    let g := s.parseResultOf f e
    s.parsed e k =
      if full && !late && !next then s
      else if late then (((v.bump (ERG_PRS_LATE e)).setBit (ERG_PRS_IRQ_STATUS e) 0).raise 34 e f.port).release g e
      else if full then v.releaseAt g e []
      else v.reorderCheck e := by
  simp only [parsed, if_neg (not_not_intro hfwd), hf]
  rfl

section
variable (hfwd : s.forwarding = true) (hf : ((s.ergFrames e).find? fun f => f.stage == .engine k) = some f)
include hfwd hf

/-- A late frame is released at once, whether or not the stage is full. -/
theorem parsed_late (hlate : (s.prs e).released.any (Nat.blt f.order) = true) : s.parsed e k =
    ((((s.parseEnds f e).bump (ERG_PRS_LATE e)).setBit (ERG_PRS_IRQ_STATUS e) 0).raise 34 e f.port).release
      (s.parseResultOf f e) e := by
  simp [parsed_of_engine hfwd hf, hlate]

theorem parsed_enters_stage (hlate : (s.prs e).released.any (Nat.blt f.order) = false) (hroom : s.reorderFill e < 64) :
    s.parsed e k = (s.parseEnds f e).reorderCheck e := by
  have hfull : Nat.ble 64 (s.reorderFill e) = false := ble_eq_false_iff.mpr hroom
  simp [parsed_of_engine hfwd hf, hlate, hfull]

/-- With the stage full, the frame next released leaves as from the stage, and any other stays in its engine. -/
theorem parsed_stage_full (hlate : (s.prs e).released.any (Nat.blt f.order) = false) (hfull : 64 ≤ s.reorderFill e) :
    s.parsed e k =
      if (s.nextRelease e).any fun g => g.id == f.id then (s.parseEnds f e).releaseAt (s.parseResultOf f e) e [] else s := by
  have hfull : Nat.ble 64 (s.reorderFill e) = true := Nat.ble_eq_true_of_le hfull
  cases hnext : (s.nextRelease e).any fun g => g.id == f.id <;>
    simp [parsed_of_engine hfwd hf, hlate, hfull, hnext]
end

/-! ### Release (R143) -/

/-- The earliest frame of the erg stands parsed and is still the earliest at its order stamp: it leaves the stage then. -/
theorem reorderRelease_next {g : Frame} {ecc : List TableErr} (hfwd : s.forwarding = true) (hf : s.nextRelease e = some f)
    (hparsed : f.stage = .reorder) (hg : (s.elapseToRaw (f.order * nsUnit)).nextRelease e = some g) (hid : g.id = f.id) :
    s.reorderRelease e ecc =
      ((s.elapseToRaw (f.order * nsUnit)).each ecc fun s x => s.tableError x).release f e := by
  have hstill : (((s.elapseToRaw (f.order * nsUnit)).nextRelease e).any fun g => g.id == f.id) = true := by simp [hg, hid]
  simp only [reorderRelease, if_neg (not_not_intro hfwd), hf, if_neg (not_not_intro hparsed), releaseAt, if_pos hstill]
end

end Sys2Proof.Machine.State
end

section
/-! PROOFS. The parse graph: the order of release, and the commands of the parse and reorder stages. -/

namespace Sys2Proof.Proofs

open Sys2Proof.Machine State

/-- Settles O21: the frame chosen has the least key of those there, and keys are compared rank by rank. -/
theorem earliestFrame : Obligations.EarliestFrame := by
  intro l f hf
  refine ⟨mem_of_earliest hf, fun g hg => ?_⟩
  obtain hlower | ⟨hstamp, hrank⟩ := releaseKey_le_iff.mp (releaseKey_le_of_earliest hf hg)
  · exact ⟨hlower.le, fun h => absurd h hlower.ne'⟩
  refine ⟨hstamp.le, fun _ => ?_⟩
  obtain hpass | ⟨hpass, hport⟩ := hrank
  · obtain ⟨hfirst, hsecond⟩ := Bool.lt_iff.mp hpass
    exact ⟨fun _ => hsecond, fun h => absurd h hpass.ne'⟩
  · exact ⟨fun h => hpass ▸ h, fun _ => hport⟩

/-- Settles O20: the command names an erg, and an engine of it, and what stands there decides which way it goes. -/
theorem parserCommands : Obligations.ParserCommands := by
  intro s e k f ecc he hfwd
  refine ⟨fun hroom hon hfree hf => ?dispatch, fun hk hf => ⟨fun hlate => ?late, fun hlate hroom => ?enters,
    fun hlate hfull => ?full⟩, fun g hf hparsed hg hid => ?release⟩
  case dispatch => exact congrArg finish ((if_pos he).trans (dispatch_next hfwd hroom hon hfree hf))
  case late => exact congrArg finish ((if_pos ⟨he, hk⟩).trans (parsed_late hfwd hf hlate))
  case enters => exact congrArg finish ((if_pos ⟨he, hk⟩).trans (parsed_enters_stage hfwd hf hlate hroom))
  case full => exact congrArg finish ((if_pos ⟨he, hk⟩).trans (parsed_stage_full hfwd hf hlate hfull))
  case release => exact congrArg finish ((if_pos he).trans (reorderRelease_next hfwd hf hparsed hg hid))

end Sys2Proof.Proofs
end

section
/-! SUPPORT. The learn bus, the head event of an inbound queue and the age scan (R171 to R176, R187). -/

namespace Sys2Proof.Machine

/-- One erg's learning state with an event at the end of its inbound queue, or as it was where the queue is full (R173). -/
def ErgFwd.received (f : ErgFwd) (ev : LearnEvent) : ErgFwd :=
  if 256 ≤ f.inbound.length then f else { f with inbound := f.inbound ++ [ev] }

theorem ErgFwd.received_source (f : ErgFwd) (ev : LearnEvent) : (f.received ev).source = f.source := by
  unfold received
  split <;> rfl

theorem ErgFwd.received_inbound (f : ErgFwd) (ev : LearnEvent) :
    (f.received ev).inbound = if 256 ≤ f.inbound.length then f.inbound else f.inbound ++ [ev] := by
  unfold received
  split <;> rfl

namespace State

variable {s : State} {e i j : Nat} {ev : LearnEvent} {r : List LearnEvent}

theorem setFw_fw_same (h : e < s.fwd.length) (f : ErgFwd) : (s.setFw e f).fw e = f := by simp [fw, h]

theorem setFw_fw_other (h : i ≠ e) (f : ErgFwd) : (s.setFw e f).fw i = s.fw i := by simp [fw, h.symm]

theorem fwd_set_fw (s : State) (i : Nat) : s.fwd.set i (s.fw i) = s.fwd := by
  obtain hi | hi := lt_or_ge i s.fwd.length
  · simp [fw, hi]
  · exact List.set_eq_of_length_le hi

@[simp] theorem bump_fwd (s : State) (off : Nat) : (s.bump off).fwd = s.fwd := by rw [bump_eq, setFld_eq, setReg_fwd]

@[simp] theorem bump_busTurn (s : State) (off : Nat) : (s.bump off).busTurn = s.busTurn := by
  rw [bump_eq, setFld_eq, setReg_busTurn]

@[simp] theorem bump_fw (s : State) (off i : Nat) : (s.bump off).fw i = s.fw i := by simp only [fw, bump_fwd]

/-! ### An event reaches the inbound queues -/

theorem receiveEvent_full (h : 256 ≤ (s.fw i).inbound.length) :
    s.receiveEvent ev i = (s.bump (ERG_FWD_LEARN_QUEUE_DROPS i)).setBit (ERG_FWD_IRQ_STATUS i) 1 := if_pos h

theorem receiveEvent_room (h : ¬ 256 ≤ (s.fw i).inbound.length) :
    s.receiveEvent ev i = s.setFw i { s.fw i with inbound := (s.fw i).inbound ++ [ev] } := if_neg h

theorem receiveEvent_busTurn (s : State) (ev : LearnEvent) (i : Nat) : (s.receiveEvent ev i).busTurn = s.busTurn := by
  by_cases h : 256 ≤ (s.fw i).inbound.length
  · rw [receiveEvent_full h, setBit_eq, setReg_busTurn, bump_busTurn]
  · rw [receiveEvent_room h, setFw_busTurn]

/-- The queue of an erg that takes no event is left, as is every other erg's. -/
theorem receiveEvent_fwd (s : State) (ev : LearnEvent) (i : Nat) :
    (s.receiveEvent ev i).fwd = s.fwd.set i ((s.fw i).received ev) := by
  by_cases h : 256 ≤ (s.fw i).inbound.length
  · rw [receiveEvent_full h, setBit_eq, setReg_fwd, bump_fwd, ErgFwd.received, if_pos h, fwd_set_fw]
  · rw [receiveEvent_room h, setFw_fwd, ErgFwd.received, if_neg h]

theorem receiveEvent_fw_same (h : i < s.fwd.length) : (s.receiveEvent ev i).fw i = (s.fw i).received ev := by
  rw [fw, receiveEvent_fwd]
  exact setFw_fw_same h _

theorem receiveEvent_fw_other (h : j ≠ i) : (s.receiveEvent ev i).fw j = s.fw j := by
  rw [fw, receiveEvent_fwd]
  exact setFw_fw_other h _

theorem each_receiveEvent_busTurn (s : State) (ev : LearnEvent) (l : List Nat) :
    (s.each l fun s i => s.receiveEvent ev i).busTurn = s.busTurn :=
  each_induct (P := fun t => t.busTurn = s.busTurn) (fun t i h => (t.receiveEvent_busTurn ev i).trans h) l s rfl

theorem each_receiveEvent_fwd_length (s : State) (ev : LearnEvent) (l : List Nat) :
    (s.each l fun s i => s.receiveEvent ev i).fwd.length = s.fwd.length :=
  each_induct (P := fun t => t.fwd.length = s.fwd.length) (fun t i h => by
    rw [receiveEvent_fwd, List.length_set, h]) l s rfl

/-- An event sent to the first `n` ergs reaches each of them once, and no other. -/
theorem each_receiveEvent_fw {n : Nat} (hn : n ≤ s.fwd.length) (ev : LearnEvent) (j : Nat) :
    (s.each (List.range n) fun s i => s.receiveEvent ev i).fw j = if j < n then (s.fw j).received ev else s.fw j := by
  induction n with
  | zero => rfl
  | succ n ih =>
    have hsplit : (s.each (List.range (n + 1)) fun s i => s.receiveEvent ev i) =
        (s.each (List.range n) fun s i => s.receiveEvent ev i).receiveEvent ev n := by
      simp [each, List.range_succ]
    have ih := ih (by omega)
    rw [hsplit]
    obtain rfl | hj := eq_or_ne j n
    · rw [receiveEvent_fw_same (by rw [each_receiveEvent_fwd_length]; omega), ih, if_neg (lt_irrefl j), if_pos j.lt_succ_self]
    · rw [receiveEvent_fw_other hj, ih]
      simp only [Nat.lt_succ_iff_lt_or_eq, hj, or_false]

/-! ### The learn bus (R172) -/

/-- The head event has left the source queue of erg `e` for the bus, which then turns to the next erg. -/
def learnTaken (s : State) (e : Nat) (r : List LearnEvent) : State :=
  { s.setFw e { s.fw e with
      source := r
      deficit := if s.rf (ERG_FWD_LEARN_RATE e) 0 16 = 0 then 0 else s.learnDeficit e + 250000
      deficitAt := s.time.clk } with busTurn := (e + 1) % 4 }

theorem learnBus_of_no_turn (h : ((List.range 4).map fun i => (s.busTurn + i) % 4).find? s.mayLearn = none) : s.learnBus = s := by
  simp only [learnBus, h]

theorem learnBus_of_turn (h : ((List.range 4).map fun i => (s.busTurn + i) % 4).find? s.mayLearn = some e)
    (hsource : (s.fw e).source = ev :: r) : s.learnBus =
      ((s.learnTaken e r).bump (ERG_FWD_LEARN_SENT e)).each (List.range 4) fun s i => s.receiveEvent ev i := by
  simp only [learnBus, h, hsource]
  rfl

/-- The erg in turn is one of the four. -/
theorem turn_lt (h : ((List.range 4).map fun i => (s.busTurn + i) % 4).find? s.mayLearn = some e) : e < 4 := by
  obtain ⟨i, -, rfl⟩ := List.mem_map.mp (List.mem_of_find?_eq_some h)
  exact Nat.mod_lt _ (by decide)

theorem learnTaken_source_same (h : e < s.fwd.length) : ((s.learnTaken e r).fw e).source = r :=
  congrArg ErgFwd.source (setFw_fw_same h _)

theorem learnTaken_source_other (h : i ≠ e) : ((s.learnTaken e r).fw i).source = (s.fw i).source :=
  congrArg ErgFwd.source (setFw_fw_other h _)

/-- Taking an event from a source queue leaves the inbound queues. -/
theorem learnTaken_inbound (h : e < s.fwd.length) : ((s.learnTaken e r).fw i).inbound = (s.fw i).inbound := by
  obtain rfl | hi := eq_or_ne i e
  · exact (congrArg ErgFwd.inbound (setFw_fw_same h _) :)
  · exact congrArg ErgFwd.inbound (setFw_fw_other hi _)

theorem learnTaken_fwd_length : (s.learnTaken e r).fwd.length = s.fwd.length := List.length_set

theorem finished_fw (s : State) (i : Nat) : s.finished.fw i = s.fw i := rfl

theorem finished_busTurn (s : State) : s.finished.busTurn = s.busTurn := rfl

/-! ### The head event of an inbound queue (R173) -/

theorem applyHead_unlocked (h : (s.fw e).inbound = ev :: r) (hfree : (s.eventWrites e ev).any (s.locked e) = false) :
    s.applyHead e = (s.setFw e { s.fw e with inbound := r, headHeld := false }).applyEvent e ev := by
  simp [applyHead, h, hfree]

theorem applyHead_locked (h : (s.fw e).inbound = ev :: r) (hlocked : (s.eventWrites e ev).any (s.locked e) = true)
    (hnew : (s.fw e).headHeld = false) :
    s.applyHead e = (s.bump (ERG_FWD_LOCK_HELD_EVENTS e)).setFw e { s.fw e with headHeld := true } := by
  simp [applyHead, h, hlocked, hnew]

/-! ### The age scan (R175, R176) -/

/-- The state in which the slot that the scan of erg `e` stands at is due. -/
def scanDue (s : State) (e : Nat) : State :=
  s.elapse (ceilDiv ((s.fw e).scanAt + s.rf (ERG_FWD_AGE e) 0 16 * 25000000) fdbSlots - s.time.clk)

theorem scanStep_locked (hage : s.rbit (ERG_FWD_AGE e) 20 = true) (h : (s.scanDue e).locked e (s.fw e).scan = true) :
    s.scanStep e = ((s.scanDue e).bump (ERG_FWD_SCAN_SKIPPED e)).setFw e
      { ((s.scanDue e).bump (ERG_FWD_SCAN_SKIPPED e)).fw e with
        scan := granuleEnd (s.fw e).scan % fdbSlots
        scanAt := (s.fw e).scanAt + (granuleEnd (s.fw e).scan - (s.fw e).scan) * (s.rf (ERG_FWD_AGE e) 0 16 * 25000000) } := by
  unfold scanDue at *
  simp only [scanStep, if_neg (not_not_intro hage), h, if_true]

theorem scanStep_unlocked (hage : s.rbit (ERG_FWD_AGE e) 20 = true) (h : (s.scanDue e).locked e (s.fw e).scan = false) :
    s.scanStep e = ((s.scanDue e).ageSlot e (s.fw e).scan).setFw e
      { ((s.scanDue e).ageSlot e (s.fw e).scan).fw e with
        scan := ((s.fw e).scan + 1) % fdbSlots
        scanAt := (s.fw e).scanAt + s.rf (ERG_FWD_AGE e) 0 16 * 25000000 } := by
  unfold scanDue at *
  simp only [scanStep, if_neg (not_not_intro hage), h, Bool.false_eq_true, if_false, Nat.add_sub_cancel_left, one_mul]

end State

end Sys2Proof.Machine
end

section
/-! SUPPORT. A table request whose channel lets it run (R323, R360, R361), a lock at its limit (R188) and the mirage check
(R190 to R193). -/

namespace Sys2Proof.Machine.State

variable {s : State} {e : Nat}

/-! ### A table request -/

/-- The request stands at the head of its channel, which lets it run now, and its descriptor can be read. -/
structure RequestHead (s : State) (t : TableReq) : Prop where
  chan : t.chan < 4
  mode : s.mode ≠ .safe
  first : (s.pow.waiting.any fun w => w.req.chan == t.chan) = false
  on : s.chanOn (32 + t.chan) = true
  posted : s.chanPosted (32 + t.chan) = true
  reach : (s.chanSram (32 + t.chan) = true ∧ (decodeRequest t.desc).sram = true) ∨ s.bme = true
  read : t.lost = false
  inside : sramBeyond (s.chanSram (32 + t.chan)) (s.chanDesc (32 + t.chan) 64) 64 = false

/-- The demand of a request on the domains that it needs. -/
def requestDemand (s : State) (t : TableReq) : State := s.each (requestDomains (decodeRequest t.desc)) fun s d => s.demand d

section
variable {t : TableReq} {op : Nat}

theorem RequestHead.not_refused (h : s.RequestHead t) : ¬ (4 ≤ t.chan ∨ s.mode = .safe ∨
    (s.pow.waiting.any fun w => w.req.chan == t.chan) = true ∨ ¬ s.chanOn (32 + t.chan) = true ∨
    ¬ s.chanPosted (32 + t.chan) = true ∨
    ((¬ s.chanSram (32 + t.chan) = true ∨ ¬ (decodeRequest t.desc).sram = true) ∧ ¬ s.bme = true)) := by
  have hreach : ¬ ((¬ s.chanSram (32 + t.chan) = true ∨ ¬ (decodeRequest t.desc).sram = true) ∧ ¬ s.bme = true) := by
    rintro ⟨hsram, hbme⟩
    exact h.reach.elim (fun hboth => hsram.elim (· hboth.1) (· hboth.2)) hbme
  simp only [Nat.not_le.mpr h.chan, h.mode, h.first, h.on, h.posted, hreach, Bool.false_eq_true, not_true, or_self,
    not_false_iff]

/-- A request that stands at the head runs or waits as the domains that it needs are ON. -/
theorem tableRequest_of_head (h : s.RequestHead t) (hop : (decodeRequest t.desc).op = op) : s.tableRequest op t =
    if ¬ (requestDomains (decodeRequest t.desc)).all (s.requestDemand t).awake = true then
      (s.requestDemand t).setPow { (s.requestDemand t).pow with
        waiting := (s.requestDemand t).pow.waiting ++ [{ op, req := t, doms := requestDomains (decodeRequest t.desc) }] }
    else
      let r := decodeRequest t.desc
      let n := recordsGood r t.fail
      let x := (s.requestDemand t).requestRun r (chanRequester t.chan) n t.records
      x.1.requestDone (32 + t.chan) r (Nat.blt n r.count && Nat.blt x.2.1 4) x.2.1 x.2.2.1 x.2.2.2 := by
  have hread : ¬ (t.lost = true ∨ sramBeyond (s.chanSram (32 + t.chan)) (s.chanDesc (32 + t.chan) 64) 64 = true) := by
    simp [h.read, h.inside]
  simp only [tableRequest, if_neg h.not_refused, if_neg hread, if_neg (not_not_intro hop)]
  rfl

theorem tableRequest_runs (h : s.RequestHead t) (hop : (decodeRequest t.desc).op = op)
    (hon : (requestDomains (decodeRequest t.desc)).all (s.requestDemand t).awake = true) : s.tableRequest op t =
      let r := decodeRequest t.desc
      let n := recordsGood r t.fail
      let x := (s.requestDemand t).requestRun r (chanRequester t.chan) n t.records
      x.1.requestDone (32 + t.chan) r (Nat.blt n r.count && Nat.blt x.2.1 4) x.2.1 x.2.2.1 x.2.2.2 :=
  (tableRequest_of_head h hop).trans (if_neg (not_not_intro hon))

theorem tableRequest_waits (h : s.RequestHead t) (hop : (decodeRequest t.desc).op = op)
    (hoff : (requestDomains (decodeRequest t.desc)).all (s.requestDemand t).awake = false) : s.tableRequest op t =
      (s.requestDemand t).setPow { (s.requestDemand t).pow with
        waiting := (s.requestDemand t).pow.waiting ++ [{ op, req := t, doms := requestDomains (decodeRequest t.desc) }] } :=
  (tableRequest_of_head h hop).trans (if_pos (by simp [hoff]))
end

/-! ### A lock at its limit -/

/-- The lock `l` of erg `e` has reached its limit, which is counted and told. -/
def lockExpired (s : State) (e : Nat) (l : TableLock) : State :=
  (((s.elapseFrom l.since (s.rf (ERG_FWD_LOCK_LIMIT e) 0 7 * 250000)).bump (ERG_FWD_LOCK_BROKEN e)).setBit
    (ERG_FWD_IRQ_STATUS e) 2).raise 36 e (requesterNum l.holder)

theorem lockBreak_locked {l : TableLock} (h : (s.fw e).lock = some l) : s.lockBreak e =
    (s.lockExpired e l).setFw e { (s.lockExpired e l).fw e with
      lock := none
      lostHost := ((s.lockExpired e l).fw e).lostHost || l.holder == .host
      lostMgmt := ((s.lockExpired e l).fw e).lostMgmt || l.holder == .mgmt } := by
  simp only [lockBreak, h]
  cases hl : l.holder <;> simp only [lockExpired, hl, requesterNum]

/-! ### The mirage check -/

section
variable {m : Shadow}

/-- In a pass the record is compared when the rate lets it be read. -/
theorem mirageCompare_running (hrun : ((s.mirageBegin e m.header).fw e).mir.running = true)
    (hon : (s.mirageBegin e m.header).mirageOn e = true) :
    s.mirageCompare e m = ((s.mirageBegin e m.header).mirageWait e).mirageRecord e m := if_pos ⟨hrun, hon⟩

theorem mirageRecord_bad (h : s.mirageBad e m = true) :
    s.mirageRecord e m = s.mirageDiff e (shadowDesc m.desc).table (bits m.record 0 32) 3 := if_pos h

theorem mirageRecord_absent (h : s.mirageBad e m = false) (hfound : s.mirageFinds e (shadowDesc m.desc).table
    (bits m.record 0 32) (bits m.record 32 (8 * (shadowDesc m.desc).size)) = []) :
    s.mirageRecord e m = s.mirageDiff e (shadowDesc m.desc).table (bits m.record 0 32) 1 := by
  simp [mirageRecord, h, hfound]

theorem mirageRecord_found {y : Nat × Nat} {r : List (Nat × Nat)} (h : s.mirageBad e m = false)
    (hfound : s.mirageFinds e (shadowDesc m.desc).table
      (bits m.record 0 32) (bits m.record 32 (8 * (shadowDesc m.desc).size)) = y :: r) :
    s.mirageRecord e m =
      if (y :: r).any fun z => tableContent (shadowDesc m.desc).table (8 * (shadowDesc m.desc).size) z.2 ==
        bits m.record 32 (8 * (shadowDesc m.desc).size) then s
      else s.mirageDiff e (shadowDesc m.desc).table y.1 0 := by
  simp only [mirageRecord, h, hfound, Bool.false_eq_true, if_false]
end

/-- The state in which the tables that the descriptors of a pass name have been counted. -/
def mirageCounted (s : State) (e : Nat) (descs : List Nat) : State := s.each descs fun s d => s.mirageCount e (shadowDesc d)

theorem miragePassEnd_running {descs : List Nat} {header : Nat} (hrun : (s.fw e).mir.running = true)
    (hon : s.mirageOn e = true) : s.miragePassEnd e descs header =
      (((((s.mirageCounted e descs).wrapFld (ERG_MIR_STATUS e) 16 16).setReg (ERG_MIR_PASS_MS e)
        (min 65535 (((s.mirageCounted e descs).time.clk - (s.fw e).mir.since) / 250000))).setBit
          (ERG_FWD_IRQ_STATUS e) 4).setMirage e {}).mirageBegin e header :=
  if_neg (by simp [hrun, hon])

end Sys2Proof.Machine.State
end

section
/-! PROOFS. The forwarding tables: learning and aging, the requests on tables, locks, and the mirage check. -/

namespace Sys2Proof.Proofs

open Sys2Proof.Machine State

/-- Settles O25: the event leaves one source queue, and the four ergs receive it in turn, each in its own queue. -/
theorem learnBus : Obligations.LearnBus := by
  intro s hon turn
  have hexec : exec .learnBusDeliver s = .next s.learnBus.finished := congrArg finish (if_pos hon)
  refine ⟨fun hturn => ?idle, fun e ev r hturn hsource => ?event⟩
  case idle => rw [hexec, learnBus_of_no_turn hturn]
  intro u w t
  refine ⟨?sent, fun hlen => ?queues⟩
  case sent => rw [hexec, learnBus_of_turn hturn hsource]; rfl
  have he : e < s.fwd.length := hlen ▸ turn_lt hturn
  have hfour : 4 ≤ (w.bump (ERG_FWD_LEARN_SENT e)).fwd.length := by
    rw [bump_fwd]
    exact (learnTaken_fwd_length.trans hlen).ge
  have hfw : ∀ i < 4, t.fw i = ((s.learnTaken e r).fw i).received ev := fun i hi => by
    rw [finished_fw, each_receiveEvent_fw hfour, if_pos hi, bump_fw]
    rfl
  refine ⟨?turn, ?taken, fun i hi hother => ?kept, fun i hi => ?inbound⟩
  case turn => rw [finished_busTurn, each_receiveEvent_busTurn, bump_busTurn]
  case taken => rw [hfw e (turn_lt hturn), ErgFwd.received_source, learnTaken_source_same he]
  case kept => rw [hfw i hi, ErgFwd.received_source, learnTaken_source_other hother]
  case inbound => rw [hfw i hi, ErgFwd.received_inbound, learnTaken_inbound he]

/-- Settles O26: a lock on what would be written decides for the event as for the slot of the scan. -/
theorem learnAndAge : Obligations.LearnAndAge := by
  intro s e ev r hon
  refine ⟨fun hhead => ⟨fun hfree => ?applied, fun hlocked hnew => ?held⟩, fun hage =>
    ⟨fun hlocked => ?skipped, fun hfree => ?aged⟩⟩
  case applied => exact congrArg finish ((if_pos hon).trans (applyHead_unlocked hhead hfree))
  case held => exact congrArg finish ((if_pos hon).trans (applyHead_locked hhead hlocked hnew))
  case skipped => exact congrArg finish ((if_pos hon).trans (scanStep_locked hage hlocked))
  case aged => exact congrArg finish ((if_pos hon).trans (scanStep_unlocked hage hfree))

/-- Settles O27: the nine commands are one request with nine operations. -/
theorem tableRequests : Obligations.TableRequests := by
  intro s t c r n u x hchan hmode hfirst hon hposted hreach hread hinside y hy hop
  have head : s.RequestHead t := ⟨hchan, hmode, hfirst, hon, hposted, hreach, hread, hinside⟩
  have hexec : exec y.2 s = .next (s.tableRequest y.1 t).finished := by
    simp only [List.mem_cons, List.not_mem_nil, or_false] at hy
    rcases hy with rfl | rfl | rfl | rfl | rfl | rfl | rfl | rfl | rfl <;> rfl
  refine ⟨fun hall => ?runs, fun hsome => ?waits⟩
  case runs => exact hexec.trans (congrArg finish (tableRequest_runs head hop hall))
  case waits => exact hexec.trans (congrArg finish (tableRequest_waits head hop hsome))

/-- Settles O30: a lock there is, and a pass that runs, are what the commands ask for; what the record is decides its KIND. -/
theorem lockAndMirage : Obligations.LockAndMirage := by
  intro s e header l m descs he
  refine ⟨fun hlock => ?broken, fun hrun hon => ?compared, fun hrun hon => ?ended⟩
  case broken => exact congrArg finish ((if_pos he).trans (lockBreak_locked hlock))
  case compared =>
    have hexec : exec (.mirageCompare e m) s = .next (((s.mirageBegin e m.header).mirageWait e).mirageRecord e m).finished :=
      congrArg finish ((if_pos he).trans (mirageCompare_running hrun hon))
    refine ⟨fun hbad => ?malformed, fun hgood hnone => ?absent, fun y r hgood hfound => ?found⟩
    case malformed => exact hexec.trans (congrArg finish (mirageRecord_bad hbad))
    case absent => exact hexec.trans (congrArg finish (mirageRecord_absent hgood hnone))
    case found =>
      rw [hfound]
      exact hexec.trans (congrArg finish (mirageRecord_found hgood hfound))
  case ended => exact congrArg finish ((if_pos he).trans (miragePassEnd_running hrun hon))

end Sys2Proof.Proofs
end

section
/-! SUPPORT. The vector recovery algorithm: what an accepted number leaves in its entry, and what that entry answers next (R226). -/

namespace Sys2Proof.Machine

/-- How far a sequence number lies ahead of the last one, modulo 2^16 and signed (R226). -/
def seqAhead (seq last : Nat) : Int := signed 16 ((seq + 65536 - last % 65536) % 65536)

theorem seqAhead_self {seq : Nat} (h : seq < 65536) : seqAhead seq seq = 0 := by
  rw [seqAhead, Nat.mod_eq_of_lt h, Nat.add_sub_cancel_left]; rfl

variable {h seq : Nat} {jump : Bool} {e : Entry}

theorem recover_of_invalid (hv : e.valid = false) :
    recover h seq jump e = (.accept, { e with last := seq, hist := 0, valid := true }) := by
  simp [recover, hv]

theorem recover_of_valid (hv : e.valid = true) : recover h seq jump e =
    let d := seqAhead seq e.last
    let n := d.natAbs
    if d = 0 then (.duplicate, e)
    else if 0 < d ∧ n ≤ h then (.accept, { e with hist := ((e.hist * 2 ^ n) ||| 2 ^ (n - 1)) % 2 ^ h, last := seq })
    else if d < 0 ∧ n ≤ h then
      if bit e.hist (n - 1) then (.duplicate, e) else (.outOfOrder, { e with hist := e.hist ||| 2 ^ (n - 1) })
    else if 0 < d ∧ jump then (.jump, { e with last := seq, hist := 0 })
    else (.rogue, e) := by
  simp [recover, hv, seqAhead]

/-- An accepted number becomes the last one, or it lay behind the last one by a bit of the history, which is set. -/
theorem recover_accepted (hacc : (recover h seq jump e).1.accepted = true) :
    (∃ g, g < 2 ^ h ∧ (recover h seq jump e).2 = { e with last := seq, hist := g, valid := true }) ∨
    (∃ k, k < h ∧ e.valid = true ∧ seqAhead seq e.last = -(k + 1 : Nat) ∧
      (recover h seq jump e).2 = { e with hist := e.hist ||| 2 ^ k }) := by
  have hbound : 0 < 2 ^ h := Nat.two_pow_pos h
  cases hv : e.valid with
  | false => exact .inl ⟨0, hbound, by rw [recover_of_invalid hv]⟩
  | true =>
    rw [recover_of_valid hv] at hacc ⊢
    dsimp only at hacc ⊢
    split_ifs at hacc ⊢ with hsame hin hout hseen hjump
    · cases hacc
    · exact .inl ⟨_, Nat.mod_lt _ hbound, by rw [hv]⟩
    · cases hacc
    · exact .inr ⟨(seqAhead seq e.last).natAbs - 1, by omega, rfl, by omega, by rw [hv]⟩
    · exact .inl ⟨0, hbound, by rw [hv]⟩
    · cases hacc

/-- The last number accepted is a duplicate. -/
theorem recover_last (hv : e.valid = true) (hlast : e.last = seq) (hseq : seq < 2 ^ 16) :
    (recover h seq jump e).1 = .duplicate := by
  rw [recover_of_valid hv]
  simp only [hlast, seqAhead_self hseq, if_true]

/-- So is a number behind it whose bit of the history is set. -/
theorem recover_behind {k : Nat} (hv : e.valid = true) (hk : k < h) (hbehind : seqAhead seq e.last = -(k + 1 : Nat))
    (hseen : bit e.hist k = true) : (recover h seq jump e).1 = .duplicate := by
  have habs : (-(k + 1 : Nat) : Int).natAbs = k + 1 := by omega
  have hneg : (-(k + 1 : Nat) : Int) < 0 := by omega
  rw [recover_of_valid hv]
  simp only [hbehind, habs, Nat.add_sub_cancel, hseen]
  rw [if_neg (by omega), if_neg (by omega), if_pos ⟨hneg, hk⟩, if_pos trivial]

end Sys2Proof.Machine
end

section
/-! SUPPORT. Claims and the forwarding state of a coupled pair (R244 to R247). -/

namespace Sys2Proof.Machine.State

variable {s : State}

/-! ### The forwarding state set -/

@[simp] theorem setForwarding_fwd (s : State) (v : Bool) : (s.setForwarding v).cvn.fwd = v := by
  unfold setForwarding
  split
  · assumption
  · simp [withCvn, setBit_eq]

@[simp] theorem setForwarding_dualAt (s : State) (v : Bool) : (s.setForwarding v).cvn.dualAt = s.cvn.dualAt := by
  unfold setForwarding
  split
  · rfl
  · simp [withCvn, setBit_eq]

/-! ### The rules by mode (R246, R247) -/

/-- The device wins where its own claim stands, is not 0, and beats every claim heard. -/
theorem wins_iff : s.wins = true ↔ s.cvn.ownAt.isSome = true ∧ s.ownClaim ≠ 0 ∧
    ∀ h, some h ∈ s.cvn.heard → h.claim < s.ownClaim ∨ (h.claim = s.ownClaim ∧ h.mac < s.deviceMac) := by
  simp only [wins, Bool.and_eq_true, bne_iff_ne, List.all_eq_true, and_assoc]
  refine and_congr_right fun _ => and_congr_right fun _ => ⟨fun hall h hmem => ?_, fun hall x hmem => ?_⟩
  · simpa [Nat.blt_eq] using hall _ hmem
  · cases x with
    | none => rfl
    | some h => simpa [Nat.blt_eq] using hall h hmem

/-- Uncoupled, the device forwards. -/
theorem coupleEval_uncoupled (h : s.coupleMode = 0) :
    s.coupleEval = (s.withCvn { s.cvn with win := s.wins, dualAt := none }).setForwarding true := by
  have hmode : (s.withCvn { s.cvn with win := s.wins }).coupleMode = 0 := h
  simp only [coupleEval, hmode]; rfl

theorem coupleEval_claim (h : s.coupleMode = 1) : s.coupleEval =
    (s.withCvn { s.cvn with win := s.wins, dualAt := none }).setForwarding (s.wins && s.cvn.silentAt.isNone) := by
  have hmode : (s.withCvn { s.cvn with win := s.wins }).coupleMode = 1 := h
  simp only [coupleEval, hmode]; rfl

/-- When the dual time began, once the rules of service mode are applied: now where the device has just lost (R247). -/
def dualSince (s : State) : Option Nat :=
  if s.wins then none
  else if (s.cvn.win && !s.wins) = true ∧ s.rf CVN_COUPLE_CTL 18 13 ≠ 0 then some (s.rawCount 0)
  else s.cvn.dualAt

/-- In service mode a device that has lost forwards on while the dual time runs. -/
theorem coupleEval_service (h : s.coupleMode = 2) : s.coupleEval =
    (s.withCvn { s.cvn with win := s.wins, dualAt := s.dualSince }).setForwarding (s.wins || s.dualSince.isSome) := by
  have hmode : (s.withCvn { s.cvn with win := s.wins }).coupleMode = 2 := h
  simp only [coupleEval, hmode]; rfl

/-! ### Stamps that run out (R246, R247) -/

theorem claimForget_heard {i : Nat} {h : Heard} (hh : s.cvn.heard.getD i none = some h) : s.claimForget i =
    let u := s.elapseToRaw (h.stamp + silence)
    (u.withCvn { u.cvn with heard := u.cvn.heard.set i none }).coupleEval := by
  simp only [claimForget, hh]

theorem ownClaimLapse_standing {t : Nat} (h : s.cvn.ownAt = some t) : s.ownClaimLapse =
    let u := s.elapseToRaw (t + silence)
    (u.withCvn { u.cvn with ownAt := none }).coupleEval := by
  simp only [ownClaimLapse, h]

theorem silenceEnd_silent {t : Nat} (h : s.cvn.silentAt = some t) : s.silenceEnd =
    let u := s.elapseToRaw (t + silence)
    (u.withCvn { u.cvn with silentAt := none }).coupleEval := by
  simp only [silenceEnd, h]

theorem dualExpire_running {t : Nat} (h : s.cvn.dualAt = some t) : s.dualExpire =
    let u := s.elapseToRaw (t + s.rf CVN_COUPLE_CTL 18 13 * 1000 * nsUnit)
    (u.withCvn { u.cvn with dualAt := none }).coupleEval := by
  simp only [dualExpire, h]

end Sys2Proof.Machine.State
end

section
/-! SUPPORT. The caravan's commands where each takes place: an offer (R218), a tick and its sweep (R230), a hold check and a probe
(R237, R241, R250). -/

namespace Sys2Proof.Machine.State

variable {s : State} {i x : Nat} {f : Frame}

/-! ### Offers, ticks and sweeps -/

theorem caravanOffer_decided {id : Nat} {parity : Option Bool} (hf : s.frame id = some f) (hdecided : f.stage = .decided)
    (hmode : s.mode ≠ .safe) (hfirst : s.caravanHeld f = false) (hon : s.awake domOasis = true) :
    s.caravanOffer id parity = (s.traceAt f.root 3 s.rawNs).offer f parity := by
  have hmay : ¬ (f.stage ≠ .decided ∨ s.mode = .safe ∨ s.caravanHeld f = true) := by simp [hdecided, hmode, hfirst]
  simp only [caravanOffer, hf, if_neg hmay, if_pos hon]

theorem sweepEnd_sweeping {t : Nat} (h : s.cvn.sweep = some t) (wait : Nat) : s.sweepEnd wait =
    let u := s.elapse (min wait 1250000)
    ((u.clrBit CVN_STATUS 0).setFld CVN_STATUS 16 16 (min 65535 (ceilDiv (u.time.clk - t) 250))).withCvn
      { u.cvn with sweep := none } := by
  simp only [sweepEnd, h]

/-! ### The caravan's vote (R250) -/

theorem whileOn_awake (h : s.awake domCaravan = true) (g : State → State) : s.whileOn g = (g (s.castCvn true)).castCvn false :=
  if_pos h

theorem whileOn_asleep (h : s.awake domCaravan = false) (g : State → State) : s.whileOn g = (s.castCvn true).wake domCaravan :=
  if_neg (by simp [h])

/-! ### Hold checks and probes -/

/-- The check of a pinned slot is work for which the caravan votes its domain ON. -/
theorem holdCheck_pinned (hmode : s.mode ≠ .safe) (hpin : s.pinValid i = true) :
    s.holdCheck i = s.whileOn fun s => (s.elapseToRaw (s.checkAt i)).holdCheckNow i :=
  if_neg (by simp [hmode, hpin])

/-- A probe of slot `i` by port `p` with a pinned frame: one copy of it at the tick or half tick, counted (R241). -/
def probeSent (s : State) (i p : Nat) (f : Frame) : State :=
  let u := (s.probeInstant i).forwardTarget { f with bank := s.crest.bank } 4 p
  (u.1.sendPinned f [{ u.2 with path := some (!bit (u.1.holdState i) 19) }]).bump CVN_PROBES_TX

/-- A pinned slot whose hold entry asks for probes by a port that exists is probed, while the caravan votes its domain ON. -/
theorem probe_pinned (hmode : s.mode ≠ .safe) (hpin : s.pinValid i = true) (hreload : s.caravanReload = false)
    (hx : s.crested s.crest.bank tblHold 4 i 128 = some x) (hf : (s.frames.find? fun f => f.pinned == some i) = some f)
    (hask : bit x 75 = true) (hport : s.portExists s.crest.bank (bits x 68 7) = true) :
    s.probe i = s.whileOn fun s => s.probeSent i (bits x 68 7) f := by
  have hmay : ¬ (s.mode = .safe ∨ ¬ s.pinValid i = true ∨ s.caravanReload = true) := by simp [hmode, hpin, hreload]
  have hprobes : ¬ (¬ bit x 75 = true ∨ ¬ s.portExists s.crest.bank (bits x 68 7) = true) := by simp [hask, hport]
  simp only [probe, if_neg hmay, hx, hf, if_neg hprobes]
  rfl

end Sys2Proof.Machine.State
end

section
/-! SUPPORT. The registers of the caravan and of packet memory over the bus (R248, R254, R261, R262, R265). -/

namespace Sys2Proof.Machine.State

variable {s : State} {rq : Requester}

/-! ### Writes -/

theorem plainReg_cvn : plainReg CVN_COUPLE_CTL = some (.cvn, 0x900000) ∧ plainReg CVN_COUPLE_CLAIM = some (.cvn, 0x900000) ∧
    ∀ r < 2, plainReg (CVN_RING_CTL r) = some (.cvn, 0x900000) := by decide +kernel

theorem plainReg_oas : plainReg OAS_ALLOC_REQ = some (.oas, 0x800000) ∧ plainReg OAS_FREE = some (.oas, 0x800000) ∧
    plainReg OAS_DFREE_LOG_CTL = some (.oas, 0x800000) := by decide +kernel

/-- A write of the caravan that the bus serves at once. -/
theorem busWrite_cvn {off : Nat} (hlo : 0x900000 ≤ off) (hp : plainReg off = some (.cvn, 0x900000))
    (h : s.accepts rq off true) (v : Word) : s.busWrite rq off v =
      ((s.arrived rq off 2).storing off v.toNat).cvnWritten (off - 0x900000) (s.arrived rq off 2).coupleMode :=
  busWrite_plain_of_not_ignored h hp (ignoresWrite_lne (Nat.le_trans (by decide) hlo)) v

/-- A write of packet memory that the bus serves at once. -/
theorem busWrite_oas {off : Nat} (hlo : 0x800000 ≤ off) (hp : plainReg off = some (.oas, 0x800000))
    (h : s.accepts rq off true) (v : Word) : s.busWrite rq off v =
      ((s.arrived rq off 2).storing off v.toNat).oasWritten rq (off - 0x800000) v.toNat :=
  busWrite_plain_of_not_ignored h hp (ignoresWrite_lne (Nat.le_trans (by decide) hlo)) v

/-- The control words of the two stale-stream rings are the ones whose writes enable a ring. -/
theorem cvnWritten_ringCtl {r : Nat} (hr : r < 2) (s : State) (mode : Nat) :
    s.cvnWritten (CVN_RING_CTL r - 0x900000) mode = s.ringEnable r := by
  have hplace : CVN_RING_CTL r - 0x900000 = 0x100 + r * 0x20 := by unfold CVN_RING_CTL CVN_RING; omega
  have hring : (0x100 + r * 0x20 - 0x100) / 0x20 = r := by omega
  rw [hplace, cvnWritten, if_neg (by omega), if_neg (by omega), if_pos (by omega), hring]

/-! ### The read of an allocation result (R265) -/

/-- A read in the normal view of a register that clears no field when read leaves only its effect. -/
theorem registerRead_of_no_rc {off base : Nat} {r : RegRow} {i : Nat} {b : Block} (hr : findReg off = some (r, i))
    (hb : blockOf off = some (b, base)) (hstays : r.fields.any (fun f => f.acc == .rc) = false) :
    (s.registerRead rq off false).1 = s.readEffect rq off := by
  simp [registerRead, hr, hb, hstays]

/-- OAS_ALLOC_RESULT is a listed register of packet memory that clears no field when read. -/
theorem findReg_allocResult : (findReg OAS_ALLOC_RESULT).any (fun x => !x.1.fields.any fun f => f.acc == .rc) = true := by
  decide +kernel

theorem busRead_allocResult (h : s.accepts rq OAS_ALLOC_RESULT false) : ∃ v, s.busRead rq OAS_ALLOC_RESULT =
    ((s.arrived rq OAS_ALLOC_RESULT 1).setAllocResult rq ((s.arrived rq OAS_ALLOC_RESULT 1).allocResult rq % 2 ^ 31)).readDone rq
      OAS_ALLOC_RESULT true v := by
  obtain ⟨⟨r, i⟩, hr, hstays⟩ := (Option.any_eq_true _ _).mp findReg_allocResult
  have hread := registerRead_of_no_rc (s := s.arrived rq OAS_ALLOC_RESULT 1) (rq := rq) hr (b := .oas) (base := 0x800000) rfl
    (by simpa using hstays)
  exact ⟨_, (busRead_served h).trans (congrArg (fun t : State => t.readDone rq OAS_ALLOC_RESULT true _) hread)⟩

@[simp] theorem setAllocResult_allocResult (s : State) (rq : Requester) (v : Nat) :
    (s.setAllocResult rq v).allocResult rq = v := by
  cases rq <;> rfl

@[simp] theorem setAllocResult_chains (s : State) (rq : Requester) (v : Nat) :
    (s.setAllocResult rq v).oas.chains = s.oas.chains := by
  cases rq <;> rfl

@[simp] theorem setAllocResult_free (s : State) (rq : Requester) (v : Nat) : (s.setAllocResult rq v).oas.free = s.oas.free := by
  cases rq <;> rfl

theorem arrived_oas (s : State) (rq : Requester) (off code : Nat) : (s.arrived rq off code).oas = s.oas := by
  obtain ⟨_, _, h⟩ := arrived_only s rq off code
  rw [h]; rfl

theorem arrived_allocResult (s : State) (rq q : Requester) (off code : Nat) :
    (s.arrived rq off code).allocResult q = s.allocResult q := by
  simp only [allocResult, arrived_oas]

/-- A read that completes and the end of its command leave packet memory. -/
theorem readDone_finished_oas (s : State) (rq : Requester) (addr : Nat) (ok : Bool) (v : Nat) :
    (s.readDone rq addr ok v).finished.oas = s.oas := rfl

theorem readDone_finished_allocResult (s : State) (rq q : Requester) (addr : Nat) (ok : Bool) (v : Nat) :
    (s.readDone rq addr ok v).finished.allocResult q = s.allocResult q := rfl

end Sys2Proof.Machine.State
end

section
/-! PROOFS. The caravan: the recovery algorithm, its commands, coupled pairs, and the registers of caravan and packet memory. -/

namespace Sys2Proof.Proofs

open Sys2Proof.Machine State

/-- Settles O31: an accepted number becomes the last one or a bit of the history, and either makes it a duplicate. -/
theorem recoveryOnce : Obligations.RecoveryOnce := by
  intro h seq jump e _ hseq hlast hhist hacc
  rcases recover_accepted hacc with ⟨g, hg, hnext⟩ | ⟨k, hk, hv, hbehind, hnext⟩
  · rw [hnext]
    exact ⟨recover_last rfl rfl hseq, hg, rfl, hseq⟩
  · have hset : bit (e.hist ||| 2 ^ k) k = true := by simp [bit]
    have hbits : e.hist ||| 2 ^ k < 2 ^ h := Nat.or_lt_two_pow hhist (Nat.pow_lt_pow_right (by decide) hk)
    rw [hnext]
    exact ⟨recover_behind hv hk hbehind hset, hbits, hv, hlast⟩

/-- Settles O34: the rules set the forwarding state of the mode in force, and winning is what R246 says. -/
theorem forwardingState : Obligations.ForwardingState := by
  refine fun s => ⟨fun h => ?uncoupled, fun h => ?claim, fun h => ?service, wins_iff⟩
  case uncoupled => rw [coupleEval_uncoupled h, setForwarding_fwd]
  case claim => rw [coupleEval_claim h, setForwarding_fwd]
  case service => rw [coupleEval_service h, setForwarding_fwd, setForwarding_dualAt]; rfl

/-- Settles O32: in the conditions of each clause the command takes place, and one that needs the domain wakes it first where it is
not ON. -/
theorem caravanCommands : Obligations.CaravanCommands := by
  refine fun s id i w x t parity bad f => ⟨fun hf hdecided hmode hfirst hon => ?offer, fun hmode => ?tick, fun h => ?sweepEnd,
    fun hi hmode hpin => ⟨fun hon => ?check, fun hoff => ?checkWakes, fun hreload hx hf hask hport =>
      ⟨fun hon => ?probe, fun hoff => ?probeWakes⟩⟩⟩
  case offer => exact congrArg finish (caravanOffer_decided hf hdecided hmode hfirst hon)
  case tick => exact congrArg finish (if_neg hmode)
  case sweepEnd => exact congrArg finish (sweepEnd_sweeping h w)
  case check =>
    exact congrArg finish ((if_pos hi).trans ((holdCheck_pinned hmode hpin).trans (whileOn_awake hon _)))
  case checkWakes =>
    exact congrArg finish ((if_pos hi).trans ((holdCheck_pinned hmode hpin).trans (whileOn_asleep hoff _)))
  case probe =>
    exact congrArg finish ((if_pos hi).trans ((probe_pinned hmode hpin hreload hx hf hask hport).trans (whileOn_awake hon _)))
  case probeWakes =>
    exact congrArg finish ((if_pos hi).trans ((probe_pinned hmode hpin hreload hx hf hask hport).trans (whileOn_asleep hoff _)))

/-- Settles O33: each command finds the stamp that it ends, and the rules are applied to what is left. -/
theorem claimCommands : Obligations.ClaimCommands := by
  refine fun s i t h => ⟨fun hrun => ?send, fun hh => ?forget, fun hown => ?lapse, fun hsilent => ?silence, fun hdual => ?dual⟩
  case send => exact congrArg finish (if_pos hrun)
  case forget => exact congrArg finish (claimForget_heard hh)
  case lapse => exact congrArg finish (ownClaimLapse_standing hown)
  case silence => exact congrArg finish (silenceEnd_silent hsilent)
  case dual => exact congrArg finish (dualExpire_running hdual)

/-- Settles O35: the writes are those of plain registers, each with the effect of its place in the block; the read takes the
requester's own result. -/
theorem caravanRegisters : Obligations.CaravanRegisters := by
  obtain ⟨hctl, hclaim, hring⟩ := plainReg_cvn
  obtain ⟨halloc, hfree, hlog⟩ := plainReg_oas
  refine fun s rq r v => ⟨fun h => ?ctl, fun h => ?claim, fun hr h => ?ring, fun h => ?alloc, fun h => ?result, fun h => ?free,
    fun h => ?log⟩
  case ctl => exact congrArg finish (busWrite_cvn (by decide) hctl h v)
  case claim => exact congrArg finish (busWrite_cvn (by decide) hclaim h v)
  case ring =>
    have hwrite := busWrite_cvn (Nat.le_add_right_of_le (by decide)) (hring r hr) h (v ||| 1)
    exact congrArg finish ((if_pos hr).trans (hwrite.trans (cvnWritten_ringCtl hr _ _)))
  case alloc => exact congrArg finish (busWrite_oas (by decide) halloc h v)
  case result =>
    obtain ⟨w, hread⟩ := busRead_allocResult h
    refine ⟨_, congrArg finish hread, ?_, ?_, ?_⟩
    · rw [readDone_finished_allocResult, setAllocResult_allocResult, arrived_allocResult]
    · rw [readDone_finished_oas, setAllocResult_chains, arrived_oas]
    · rw [readDone_finished_oas, setAllocResult_free, arrived_oas]
  case free => exact congrArg finish (busWrite_oas (by decide) hfree h v)
  case log => exact congrArg finish (busWrite_oas (by decide) hlog h 1)

end Sys2Proof.Proofs
end

section
/-! SUPPORT. The list of one pool replaced, and the turn of a pool below, above and at its target (R263, R283). -/

namespace Sys2Proof.Machine.State

variable {s b t : State} {n m : Nat}

/-! ### Cells given back -/

@[simp] theorem giveCells_pools (l : List Nat) : (s.giveCells l).oas.pools = s.oas.pools := rfl
@[simp] theorem giveCells_chains (l : List Nat) : (s.giveCells l).oas.chains = s.oas.chains := rfl
@[simp] theorem giveCells_copies (l : List Nat) : (s.giveCells l).oas.copies = s.oas.copies := rfl

/-! ### The list of one pool replaced -/

section
variable {bufs : List (List Nat)} (hset : t.oas.pools = s.oas.pools.set n bufs)
include hset

theorem poolFree_pools_set_other (hne : m ≠ n) : t.poolFree m = s.poolFree m := by
  rw [poolFree, hset, List.getD_eq_getElem?_getD, List.getElem?_set_ne hne.symm, ← List.getD_eq_getElem?_getD, poolFree]

theorem poolFree_pools_set_same (hn : n < s.oas.pools.length) : t.poolFree n = bufs := by
  rw [poolFree, hset, List.getD_eq_getElem?_getD, List.getElem?_set_self hn, Option.getD_some]

/-- With the same chains, what the pool has carved differs by its free buffers alone. -/
theorem carved_pools_set (hchains : t.oas.chains = s.oas.chains) (hn : n < s.oas.pools.length) :
    t.carved n + (s.poolFree n).length = s.carved n + bufs.length := by
  rw [carved, carved, hchains, poolFree_pools_set_same hset hn]
  omega

end

/-! ### The turn of a pool -/

theorem carve_below (hlow : s.carved n < s.poolTarget n) (hcells : poolCells n ≤ s.sharedFree) : s.carve n =
    s.setOas { s.oas with
      free := (takeCells (poolCells n) s.oas.free).2
      pools := s.oas.pools.set n (s.poolFree n ++ [(takeCells (poolCells n) s.oas.free).1]) } :=
  if_pos ⟨hlow, hcells⟩

theorem carve_above {l : List Nat} {r : List (List Nat)} (hhigh : s.poolTarget n < s.carved n) (hfree : s.poolFree n = l :: r) :
    s.carve n = (s.setOas { s.oas with pools := s.oas.pools.set n r }).giveCells l := by
  have hnot : ¬ (s.carved n < s.poolTarget n ∧ poolCells n ≤ s.sharedFree) := fun h => Nat.lt_asymm h.1 hhigh
  rw [carve, if_neg hnot, if_pos hhigh, hfree]

theorem carve_stays (h : s.carved n = s.poolTarget n ∨ s.carved n < s.poolTarget n ∧ s.sharedFree < poolCells n) :
    s.carve n = s := by
  have hgrow : ¬ (s.carved n < s.poolTarget n ∧ poolCells n ≤ s.sharedFree) := by omega
  have hshrink : ¬ s.poolTarget n < s.carved n := by omega
  rw [carve, if_neg hgrow, if_neg hshrink]

/-- A turn acts on the state in which the error found in the bitmap, if there is one, has had its effect. -/
theorem exec_poolCarve_of_bitmap {err : Option BitmapErr} {x : BitmapErr} (hn : n < 4)
    (hb : err = none ∧ b = s ∨ err = some x ∧ b = s.bitmapError x) :
    exec (.poolCarve ⟨n, err⟩) s = .next (b.carve n).finished := by
  rcases hb with ⟨rfl, rfl⟩ | ⟨rfl, rfl⟩
  · exact congrArg finish (if_pos hn)
  · exact congrArg finish (if_pos hn)

end Sys2Proof.Machine.State
end

section
/-! PROOFS. Packet memory: the turn of a pool. -/

namespace Sys2Proof.Proofs

open Sys2Proof.Machine State

/-- Settles O36: a turn replaces the list of its own pool and leaves the chains, so that what the pool has carved changes with the
length of that list. -/
theorem poolCarve : Obligations.PoolCarve := by
  intro s b n m err x hn hne hb
  have hexec : exec (.poolCarve ⟨n, err⟩) s = .next (b.carve n).finished := exec_poolCarve_of_bitmap hn hb
  refine ⟨fun hlow hcells => ?below, fun l r hhigh hfree => ?above, fun h => ?stays⟩
  case below =>
    intro k t
    have hset : t.oas.pools = b.oas.pools.set n (b.poolFree n ++ [k.1]) := rfl
    refine ⟨by rw [hexec, carve_below hlow hcells], poolFree_pools_set_other hset hne, fun hlen => ?_⟩
    have hcarved := carved_pools_set hset rfl (hlen ▸ hn)
    rw [List.length_append, List.length_singleton] at hcarved
    exact ⟨poolFree_pools_set_same hset (hlen ▸ hn), by omega⟩
  case above =>
    intro t
    have hset : t.oas.pools = b.oas.pools.set n r := giveCells_pools l
    have hchains : t.oas.chains = b.oas.chains := giveCells_chains l
    refine ⟨by rw [hexec, carve_above hhigh hfree], poolFree_pools_set_other hset hne, hchains, giveCells_copies l, fun hlen => ?_⟩
    have hcarved := carved_pools_set hset hchains (hlen ▸ hn)
    rw [hfree, List.length_cons] at hcarved
    exact ⟨poolFree_pools_set_same hset (hlen ▸ hn), by omega⟩
  case stays => rw [hexec, carve_stays h]

end Sys2Proof.Proofs
end

section
/-! SUPPORT. A gate interval in force, a vote due, and the bounds switched on: what each of the three commands then does (R294, R301,
R304). -/

namespace Sys2Proof.Machine.State

variable {s : State} {p d : Nat}

/-- A command of the gates of a port acts where the port can be gated and the gates are not held closed by SAFE. -/
theorem not_gateless (hp : p < 64) (hmode : s.mode ≠ .safe) : ¬ (64 ≤ p ∨ s.mode = .safe) :=
  not_or_intro (Nat.not_le_of_lt hp) hmode

/-- The new gates are those at the end of the interval; the old ones are those before time passed. -/
theorem gateChange_entry (hp : p < 64) (hmode : s.mode ≠ .safe) (hend : s.untilEntry p = some d) :
    let u := s.elapseTo (s.gateTb p) ((totalNs (s.count (s.gateTb p)) + d) * nsUnit)
    s.gateChange p = (u.gatesChanged p (s.gateStatus p).1 (u.gateStatus p).1).noteWithheld p := by
  simp only [gateChange, if_neg (not_gateless hp hmode), hend]

/-- Votes begin to stand: `l` holds them as port and class, `p * 8 + k`. -/
def castVotes (s : State) (l : List Nat) : State := { s with sched := { s.sched with voting := s.sched.voting ++ l } }

/-- Every class whose vote is due with the first one votes with it, before the domains are woken. -/
theorem prewakeVote_due (hp : p < 64) (hmode : s.mode ≠ .safe) (hdue : ((s.votesDue p).map (·.2)).min? = some d) :
    let u := s.elapseTo (s.gateTb p) (s.count (s.gateTb p) + d * nsUnit)
    let v := u.castVotes (((s.votesDue p).filter fun x => x.2 == d).map fun x => p * 8 + x.1)
    let w := v.each (v.prewakeDomains p) fun s dom => s.wake dom
    s.prewakeVote p = if w.cbit w.crest.bank (SCH_PORT_PREWAKE p) 30 then w.lpiLeave p else w := by
  refine (if_neg (not_gateless hp hmode)).trans ?_
  simp only [hdue]
  rfl

/-- The mode and the enable are read at the instant of the check. -/
theorem ageCheck_on {u : State} (hu : s.elapseToRaw ((s.rawNs / 10000 + 1) * 10000 * nsUnit) = u) (hmode : u.mode ≠ .safe)
    (hon : u.cbit u.crest.bank SCH_CFG 0 = true) :
    s.ageCheck = u.each ((u.oas.copies.filter fun c => c.linked && !c.started).map (·.queue)).eraseDups
      fun v q => v.ageHead ((s.rawNs / 10000 + 1) * 10000) q := by
  subst hu
  exact if_neg (not_or_intro hmode (not_not_intro hon))

end Sys2Proof.Machine.State
end

section
/-! PROOFS. Egress scheduling: the gates of a port, its pre-wake votes, and the age check. -/

namespace Sys2Proof.Proofs

open Sys2Proof.Machine State

/-- Settles O37: an interval in force has an end and a vote due has an instant, and the age check has its own; time passes to it, and
what the command does there is said of the state at that instant. -/
theorem gateCommands : Obligations.GateCommands := by
  refine fun s p d => ⟨fun hp hmode => ⟨fun hend => ?interval, fun hdue => ?vote⟩, fun hmode hon => ?bounds⟩
  case interval => exact congrArg finish (gateChange_entry hp hmode hend)
  case vote => exact congrArg finish (prewakeVote_due hp hmode hdue)
  case bounds => exact congrArg finish (ageCheck_on rfl hmode hon)

end Sys2Proof.Proofs
end

section
/-! SUPPORT. Every command ends the same way, and a cycle in which nothing is asked takes no vector into service (R364). -/

namespace Sys2Proof.Machine

/-- Every command ends with `finish`. -/
theorem exec_finishes (c : Instr) (s : State) : ∃ u, exec c s = finish u := by
  cases c <;> exact ⟨_, rfl⟩

/-- So does a step: with a command, or with one cycle of the clock. -/
theorem step_finishes (s : State) : ∃ u, step s = finish u := by
  unfold step
  split
  · exact ⟨_, rfl⟩
  · exact exec_finishes _ _

namespace State

variable (s : State)

theorem OnlyRegs.service {s t : State} (h : s.OnlyRegs t) : t.ifc.service = s.ifc.service := by
  obtain ⟨r, rfl⟩ := h; rfl

theorem each_service {α : Type} {f : State → α → State} (hf : ∀ s x, (f s x).ifc.service = s.ifc.service) (l : List α) :
    (s.each l f).ifc.service = s.ifc.service :=
  each_induct (P := fun t => t.ifc.service = s.ifc.service) (fun t x h => (hf t x).trans h) l s rfl

theorem event_service (u code n : Nat) (a : Attr) : (s.event u code n a).ifc.service = s.ifc.service :=
  (event_only s u code n a).service

theorem aoCarry_service : s.aoCarry.ifc.service = s.ifc.service :=
  each_induct (P := fun t => t.ifc.service = s.ifc.service) (fun t x h => by split <;> exact h) s.ifc.aoWrites s rfl

theorem setFld_service (off lo w v : Nat) : (s.setFld off lo w v).ifc.service = s.ifc.service := (rfl)

theorem setKeeper_service (sec ticks : Nat) : (s.setKeeper sec ticks).ifc.service = s.ifc.service := by
  simp only [setKeeper, setFld_service]

theorem keeperTicks_service (n : Nat) : (s.keeperTicks n).ifc.service = s.ifc.service := by
  unfold keeperTicks
  split
  · rfl
  · simp only [setKeeper_service]

theorem aoEdges_service (n : Nat) : (s.aoEdges n).ifc.service = s.ifc.service := by
  unfold aoEdges
  split
  · rfl
  · exact (keeperTicks_service _ n).trans s.aoCarry_service

theorem monCycles_service (n : Nat) : (s.monCycles n).ifc.service = s.ifc.service := by
  unfold monCycles
  split
  · rfl
  · refine each_service _ (fun t e => ?_) _
    dsimp only
    split
    · rw [event_service, event_service]
    · exact event_service ..

theorem monStalls_service (n : Nat) : (s.monStalls n).ifc.service = s.ifc.service := by
  unfold monStalls
  split
  · rfl
  · exact event_service ..

/-- Time that passes takes no vector into service, and none out of it. -/
theorem elapse_service (n : Nat) : (s.elapse n).ifc.service = s.ifc.service := by
  unfold elapse
  split
  · rfl
  · exact (monStalls_service _ n).trans ((monCycles_service _ n).trans (aoEdges_service _ _))

/-- The end of a command only takes vectors out of service. -/
theorem mem_of_mem_finished_service {s : State} {v : Nat} (h : v ∈ s.finished.ifc.service) : v ∈ s.ifc.service :=
  (List.mem_filter.mp h).1

end State
end Sys2Proof.Machine
end

section
/-! PROOFS. Every step answers, and keeps in service only what has its condition. -/

namespace Sys2Proof.Proofs

open Sys2Proof.Machine State

/-- Settles O59: every step ends with the settling of the vectors, and nothing that an idle cycle does before it adds one. -/
theorem servicesSound : Obligations.ServicesSound := by
  intro s
  obtain ⟨u, hu⟩ := step_finishes s
  refine ⟨⟨u.finished, hu⟩, fun t ht => finish_sound (hu.symm.trans ht), fun t hidle ht v hv => ?idle⟩
  case idle =>
    have hstep : step s = .next (s.elapse 1).finished := by simp only [step, hidle, finish_next]
    obtain rfl : (s.elapse 1).finished = t := by simpa using hstep.symm.trans ht
    exact s.elapse_service 1 ▸ mem_of_mem_finished_service hv

end Sys2Proof.Proofs
end


section
/-! SUPPORT. The power domains: idle times that run out, entries, wakes, the registers of votes and low states, and the performance
sequence (R314 to R330). -/

namespace Sys2Proof.Machine

/-- A field of a field cleared is clear. -/
theorem bits_setBits_zero {v lo w lo' w' : Nat} (hlo : lo ≤ lo') (hhi : lo' + w' ≤ lo + w) :
    bits (setBits v lo w 0) lo' w' = 0 := by
  refine Nat.eq_of_testBit_eq fun i => ?_
  simp only [bits, Nat.testBit_mod_two_pow, Nat.testBit_shiftRight, testBit_setBits, Nat.zero_testBit]
  by_cases h : i < w'
  · simp [show lo ≤ lo' + i ∧ lo' + i < lo + w by omega]
  · simp [h]

namespace State

variable {s : State}

/-! ### Time that has passed already -/

theorem elapse_zero (s : State) : s.elapse 0 = s := if_pos rfl

theorem elapseFrom_past {a n : Nat} (h : a + n ≤ s.time.clk) : s.elapseFrom a n = s := by
  rw [elapseFrom, Nat.sub_eq_zero_of_le h, elapse_zero]

/-! ### Entries and wakes -/

/-- The low state that the votes and LOW leave is the one entered, where the power controller runs and the lanes allow it. -/
theorem goalOf_allowed {d : Nat} (hrun : s.powerRuns = true) :
    let goal := if s.want d = 1 then storedLow d (min (s.lowOf d) 1) else s.lowOf d
    s.lanesAllow d goal = true → s.goalOf d = goal :=
  fun hlanes => if_pos ⟨hrun, hlanes⟩

theorem idleExpire_begins {d n g : Nat} (hend : s.idleEnd d = some n) (hgoal : (s.elapse (n - s.time.clk)).goalOf d = g)
    (hg : g ≠ 0) :
    let w := ((s.elapse (n - s.time.clk)).setPhase d 0 1).idleStop d
    s.idleExpire d = w.setPow { w.pow with goal := w.pow.goal.set d g } := by
  subst hgoal
  simp only [idleExpire, hend, if_neg hg]

theorem entryComplete_entering {d : Nat} (hphase : s.domPhase d = 1) (hmode : s.mode ≠ .safe) :
    let goal := s.pow.goal.getD d 1
    let u := s.elapseFrom (s.domSince d) (ceilDiv (entryNs d goal) 4)
    s.entryComplete d = if goal = 2 then u.domainOff d else u.setFld (PWR_D_STATUS d) 0 4 1 :=
  if_neg (by simp [hphase, hmode])

theorem wakeComplete_waking {d : Nat} {bad : List KeepErr} (hphase : s.domPhase d = 2) :
    let u := s.domainReady d bad
    let v := if d = domMgmt then u.wdogRestart else u
    let w := if v.pow.resetLate.contains d then
      (v.setPow { v.pow with resetLate := v.pow.resetLate.erase d }).blockReset d else v
    s.wakeComplete d bad = ((w.setIfc { w.ifc with reads := [] }).resumeBus).resumeRequests :=
  if_neg (not_not_intro hphase)

theorem stallTimeout_stalled {x : Stalled} {r : List Stalled} (h : s.pow.stalled = x :: r) :
    let u := s.elapseFrom x.since 25000
    let v := (u.setPow { u.pow with stalled := r }).setIfc { u.ifc with reads := [] }
    let w := ((v.bump PWR_STALL_TIMEOUTS).setBit PWR_IRQ_STATUS 1).raise 53 (domOfReg (viewOff x.addr)) x.addr
    s.stallTimeout = (w.accessFails x 2).takeWaiting r.length := by
  simp only [stallTimeout, h]

/-- The registers of a domain that becomes ready, its wake having begun at `began`. -/
def readyRegs (s : State) (d began : Nat) : State :=
  let u := (s.setFld (PWR_D_STATUS d) 0 4 0).bump (PWR_D_WAKES d)
  u.setFld (PWR_D_LAST_WAKE d) 0 20 (min (2 ^ 20 - 1) ((u.time.clk - began) * 4))

/-- The power controller forgets the signal that woke the domain, and the domain's idle time stops. -/
def readyPower (s : State) (d : Nat) : State :=
  (s.setPow { s.pow with signal := s.pow.signal.filter fun q => domQuad q != d }).idleStop d

/-- The order of what a wake does, where no word of the keep list is wrong. -/
theorem domainReady_steps (s : State) (d : Nat) : s.domainReady d [] =
    let t := ((s.elapseFrom (s.domSince d) (ceilDiv (readyNs d (s.domState d)) 4)).readyRegs d (s.domSince d)).readyPower d
    let v := if s.domState d = 2 then t.afterOff d else t
    if 6 ≤ d ∧ d < 10 then ((v.scanFromNow (d - 6)).ergPoint (d - 6)).perfCheck else v := rfl

/-- A domain without an erg that leaves RET, its time past, changes its own registers and the state of the power controller. -/
theorem domainReady_retention {d : Nat} (hstate : s.domState d = 1) (herg : d < 6 ∨ 10 ≤ d)
    (hpast : s.domSince d + ceilDiv (readyNs d 1) 4 ≤ s.time.clk) :
    s.domainReady d [] = (s.readyRegs d (s.domSince d)).readyPower d := by
  rw [domainReady_steps, hstate, elapseFrom_past hpast]
  exact (if_neg (by omega)).trans (if_neg (by decide))

theorem readyPower_reg (s : State) (d x : Nat) : (s.readyPower d).reg x = s.reg x := (rfl)

theorem readyPower_time (s : State) (d : Nat) : (s.readyPower d).time = s.time := (rfl)

section
variable {d began : Nat}

theorem readyRegs_time (s : State) : (s.readyRegs d began).time = s.time := by
  simp only [readyRegs, setFld_time, bump_time]

theorem readyRegs_status (s : State) :
    (s.readyRegs d began).reg (PWR_D_STATUS d) = setBits (s.reg (PWR_D_STATUS d)) 0 4 0 := by
  have hother : PWR_D_STATUS d ≠ PWR_D_LAST_WAKE d ∧ PWR_D_STATUS d ≠ PWR_D_WAKES d := by
    unfold PWR_D_STATUS PWR_D_LAST_WAKE PWR_D_WAKES; omega
  simp only [readyRegs, bump_eq, reg_setFld, if_neg hother.1, if_neg hother.2, if_true]

theorem readyRegs_wakes (s : State) :
    bits ((s.readyRegs d began).reg (PWR_D_WAKES d)) 0 32 = min (2 ^ 32 - 1) (bits (s.reg (PWR_D_WAKES d)) 0 32 + 1) := by
  have hother : PWR_D_WAKES d ≠ PWR_D_LAST_WAKE d ∧ PWR_D_WAKES d ≠ PWR_D_STATUS d := by
    unfold PWR_D_STATUS PWR_D_LAST_WAKE PWR_D_WAKES; omega
  simp only [rf, readyRegs, bump_eq, reg_setFld, if_neg hother.1, if_neg hother.2, if_true, bits_setBits_same, satAdd_mod]
  simp only [satAdd]

/-- CFG and the votes of every domain stand below its status, and stay. -/
theorem readyRegs_reg_votes {e k : Nat} (hk : k < 0x0C) : (s.readyRegs d began).reg (PWR_D e + k) = s.reg (PWR_D e + k) := by
  have hother : PWR_D e + k ≠ PWR_D_LAST_WAKE d ∧ PWR_D e + k ≠ PWR_D_WAKES d ∧ PWR_D e + k ≠ PWR_D_STATUS d := by
    unfold PWR_D_STATUS PWR_D_LAST_WAKE PWR_D_WAKES PWR_D; omega
  obtain ⟨hlast, hwakes, hstatus⟩ := hother
  simp only [readyRegs, bump_eq, reg_setFld, if_neg hstatus, if_neg hwakes, if_neg hlast]
end

/-! ### Writes of the power registers -/

section
variable {rq : Requester} {d e : Nat}

/-- Of the power registers the votes alone are refused, each to the other side (R317). -/
theorem ignoresWrite_pwr {off : Nat} (hlo : 0x30000 ≤ off) (hhi : off < 0x40000) : s.ignoresWrite rq off =
    if 0x30100 ≤ off ∧ off < 0x303C0 ∧ off % 0x20 = 0x04 then rq == .mgmt
    else if 0x30100 ≤ off ∧ off < 0x303C0 ∧ off % 0x20 = 0x08 then rq == .host else false := by
  have hchannel : channelOf off = none := if_neg (by omega)
  simp only [ignoresWrite, hchannel, GLB_FW_VERSION, NVM, FLT, HST, GLB_TEST_CTL]
  rw [if_neg (show ¬ (off = 0x00020 ∨ off = 0x60000 + 0x010 ∨ off = 0x40000 + 0x054 ∨ off = 0x40000 + 0x024) by omega),
    if_neg (show ¬ (off = 0x50000 + 0x040 ∨ off = 0x00014) by omega), if_neg (show ¬ (0x61000 ≤ off ∧ off < 0x62040) by omega)]

theorem plainReg_domain : ∀ d < 22, plainReg (PWR_D_CFG d) = some (.pwr, 0x30000) ∧
    plainReg (PWR_D_VOTE_HOST d) = some (.pwr, 0x30000) ∧ plainReg (PWR_D_VOTE_FW d) = some (.pwr, 0x30000) := by decide +kernel

theorem plainReg_perfReq : ∀ e < 4, plainReg (PWR_ERG_PERF_REQ e) = some (.pwr, 0x30000) := by decide +kernel

/-- A write of a power register that the bus serves at once and that is not the other side's. -/
theorem busWrite_pwr {off : Nat} (hp : plainReg off = some (.pwr, 0x30000)) (h : s.accepts rq off true)
    (hi : s.ignoresWrite rq off = false) (v : Word) :
    s.busWrite rq off v = ((s.arrived rq off 2).storing off v.toNat).pwrWritten (off - 0x30000) :=
  busWrite_plain_of_not_ignored h hp hi v

/-- A write of CFG or of a vote of a domain weighs its votes again. -/
theorem pwrWritten_domain {k : Nat} (hd : d < 22) (hk : k < 0x0C) : s.pwrWritten (PWR_D d + k - 0x30000) = s.voted d := by
  have hoff : PWR_D d + k - 0x30000 = 0x100 + d * 0x20 + k := by unfold PWR_D; omega
  have hdom : (0x100 + d * 0x20 + k - 0x100) / 0x20 = d := by omega
  rw [hoff, pwrWritten, if_neg (by omega), if_neg (by omega), if_pos (by omega), if_pos (by omega), hdom]

theorem pwrWritten_perfReq (he : e < 4) : s.pwrWritten (PWR_ERG_PERF_REQ e - 0x30000) = s.perfAsk := by
  have hoff : PWR_ERG_PERF_REQ e - 0x30000 = 0x400 + e * 0x10 := by unfold PWR_ERG_PERF_REQ; omega
  rw [hoff, pwrWritten, if_neg (by omega), if_neg (by omega), if_neg (by omega), if_pos (by omega)]

/-- The register of the votes of a requester. -/
def voteReg (rq : Requester) (d : Nat) : Nat := match rq with | .host => PWR_D_VOTE_HOST d | .mgmt => PWR_D_VOTE_FW d

theorem busWrite_vote (hd : d < 22) (h : s.accepts rq (voteReg rq d) true) (v : Word) :
    s.busWrite rq (voteReg rq d) v = ((s.arrived rq (voteReg rq d) 2).storing (voteReg rq d) v.toNat).voted d := by
  obtain ⟨_, hhost, hmgmt⟩ := plainReg_domain d hd
  cases rq with
  | host =>
    have hi : s.ignoresWrite .host (PWR_D_VOTE_HOST d) = false := by
      rw [PWR_D_VOTE_HOST, PWR_D, ignoresWrite_pwr (by omega) (by omega), if_pos (by omega)]; rfl
    exact (busWrite_pwr hhost h hi v).trans (pwrWritten_domain hd (by decide))
  | mgmt =>
    have hi : s.ignoresWrite .mgmt (PWR_D_VOTE_FW d) = false := by
      rw [PWR_D_VOTE_FW, PWR_D, ignoresWrite_pwr (by omega) (by omega), if_neg (by omega), if_pos (by omega)]; rfl
    exact (busWrite_pwr hmgmt h hi v).trans (pwrWritten_domain hd (by decide))

theorem busWrite_low (hd : d < 22) (h : s.accepts rq (PWR_D_CFG d) true) (v : Word) :
    s.busWrite rq (PWR_D_CFG d) v = ((s.arrived rq (PWR_D_CFG d) 2).storing (PWR_D_CFG d) v.toNat).voted d := by
  have hi : s.ignoresWrite rq (PWR_D_CFG d) = false := by
    rw [PWR_D_CFG, PWR_D, ignoresWrite_pwr (by omega) (by omega), if_neg (by omega), if_neg (by omega)]
  exact (busWrite_pwr (plainReg_domain d hd).1 h hi v).trans (pwrWritten_domain (k := 0) hd (by decide))

theorem busWrite_perfReq (he : e < 4) (h : s.accepts rq (PWR_ERG_PERF_REQ e) true) (v : Word) :
    s.busWrite rq (PWR_ERG_PERF_REQ e) v =
      ((s.arrived rq (PWR_ERG_PERF_REQ e) 2).storing (PWR_ERG_PERF_REQ e) v.toNat).perfAsk := by
  have hi : s.ignoresWrite rq (PWR_ERG_PERF_REQ e) = false := by
    rw [PWR_ERG_PERF_REQ, ignoresWrite_pwr (by omega) (by omega), if_neg (by omega), if_neg (by omega)]
  exact (busWrite_pwr (plainReg_perfReq e he) h hi v).trans (pwrWritten_perfReq he)
end

/-! ### The performance sequence -/

section
variable {e mv : Nat}

/-- The erg runs at the point of the sequence, with no change pending. -/
def switched (s : State) (e : Nat) : State := (s.setPoint e (s.pow.points.getD e 0)).clrBit (PWR_ERG_PERF_STATUS e) 2

theorem clockSwitch_falls (havs : s.pow.avs = 1) (he : s.pow.falling.contains e = true) :
    let w := (s.switched e).setPow { s.pow with falling := s.pow.falling.erase e }
    s.clockSwitch e = if (s.pow.falling.erase e).isEmpty then w.perfVolt.perfAgain else w :=
  if_pos ⟨havs, he⟩

theorem clockSwitch_rises (havs : s.pow.avs = 5) (he : s.pow.rising.contains e = true) :
    let w := (s.switched e).setPow { s.pow with rising := s.pow.rising.erase e }
    s.clockSwitch e = if (s.pow.rising.erase e).isEmpty then w.perfEnd.perfAgain else w :=
  (if_neg (by simp [havs])).trans (if_pos ⟨havs, he⟩)

theorem avsWrite_due (hon : s.avsOn = true) (havs : s.pow.avs = 2) : s.avsWrite =
    (s.setFld PWR_AVS_STATUS 0 10 s.seqTarget).setPow { s.pow with avs := 3, avsAt := s.time.clk } :=
  if_neg (by simp [hon, havs])

theorem avsReadback_volts (hon : s.avsOn = true) (havs : s.pow.avs = 3)
    (htime : s.time.clk + 800 ≤ s.pow.avsAt + s.rf PWR_AVS_CFG 8 8 * 250) :
    let u := (s.elapse 800).setFld PWR_AVS_STATUS 16 10 mv
    let t := u.rf PWR_AVS_STATUS 0 10
    s.avsReadback (.volts mv) = if mv ≤ t + 5 ∧ t ≤ mv + 5
      then u.setPow { u.pow with avs := 4, avsAt := u.time.clk, avsBad := false } else u := by
  have hin : ¬ (s.pow.avs ≠ 3 ∨ s.pow.avsAt + s.avsLimit < s.time.clk + 800) := by
    rw [avsLimit]; omega
  exact (if_neg (not_not_intro hon)).trans (if_neg hin)

theorem avsReadback_fault (hon : s.avsOn = true) (havs : 2 ≤ s.pow.avs ∧ s.pow.avs ≤ 4) :
    s.avsReadback .fault = s.avsFailed :=
  (if_neg (not_not_intro hon)).trans (if_pos havs)

theorem avsTimeout_waiting (hon : s.avsOn = true) (havs : s.pow.avs = 3) :
    s.avsTimeout = (s.elapseFrom s.pow.avsAt (s.rf PWR_AVS_CFG 8 8 * 250)).avsFailed :=
  if_neg (by simp [hon, havs])

theorem avsSettled_settling (havs : s.pow.avs = 4) :
    s.avsSettled = ((s.elapseFrom s.pow.avsAt (s.rf PWR_AVS_CFG 16 8 * 250)).perfRise).perfAgain :=
  if_neg (not_not_intro havs)
end

end State

end Sys2Proof.Machine
end

section
/-! PROOFS. The power domains: what a wake leaves, the registers of votes, entries and wakes, and the performance sequence. -/

namespace Sys2Proof.Proofs

open Sys2Proof.Machine State

/-- Settles O39: a wake from RET writes three registers of its own domain, none of which is CFG or a vote. -/
theorem domainReady : Obligations.DomainReady := by
  intro s d e _ _ hstate herg hpast
  simp only [domainReady_retention hstate herg hpast, domState, domPhase, rf, readyPower_reg, readyPower_time]
  refine ⟨?state, ?phase, ?wakes, readyRegs_reg_votes (k := 0) (by decide), readyRegs_reg_votes (by decide),
    readyRegs_reg_votes (by decide), s.readyRegs_time⟩
  case state => rw [readyRegs_status, bits_setBits_zero (by decide) (by decide)]
  case phase => rw [readyRegs_status, bits_setBits_zero (by decide) (by decide)]
  case wakes => exact s.readyRegs_wakes

/-- Settles O40: each is a write of a plain register that the writer may write, with the effect of its place in the block. -/
theorem powerRegisters : Obligations.PowerRegisters := by
  intro s rq d e v hd he
  refine ⟨fun h => ?vote, fun h => ?low, fun h => ?perf⟩
  case vote => exact congrArg finish ((if_pos hd).trans (busWrite_vote hd h v))
  case low => exact congrArg finish ((if_pos hd).trans (busWrite_low hd h v))
  case perf => exact congrArg finish ((if_pos he).trans (busWrite_perfReq he h v))

/-- Settles O38: an idle time there is, an entry, a wake or a stall in progress is what each command ends. -/
theorem domainCommands : Obligations.DomainCommands := by
  intro s d n bad x r
  refine ⟨fun hd hend hrun hlanes hgoal => ?expire, fun hd hphase hmode => ?entry, fun hd hphase => ?wake,
    fun hstalled => ?stall⟩
  case expire => exact congrArg finish ((if_pos hd).trans (idleExpire_begins hend (goalOf_allowed hrun hlanes) hgoal))
  case entry => exact congrArg finish ((if_pos hd).trans (entryComplete_entering hphase hmode))
  case wake => exact congrArg finish ((if_pos hd).trans (wakeComplete_waking hphase))
  case stall => exact congrArg finish (stallTimeout_stalled hstalled)

/-- Settles O41: the phase of the sequence decides what each command does; a time-out and a fault fail in one way. -/
theorem perfSequence : Obligations.PerfSequence := by
  intro s e mv fault
  refine ⟨⟨fun havs he => ?falls, fun havs he => ?rises⟩, fun hon => ⟨fun havs => ?write, fun havs htime => ?readback,
    fun hfail => ?failed⟩, fun havs => ?settled⟩
  case falls => exact congrArg finish (clockSwitch_falls havs he)
  case rises => exact congrArg finish (clockSwitch_rises havs he)
  case write => exact congrArg finish (avsWrite_due hon havs)
  case readback => exact congrArg finish (avsReadback_volts hon havs htime)
  case failed =>
    have hexec : exec (if fault then .avsReadback .fault else .avsTimeout) s =
        finish (if fault then s else s.elapseFrom s.pow.avsAt (s.rf PWR_AVS_CFG 8 8 * 250)).avsFailed := by
      cases fault with
      | true => exact congrArg finish (avsReadback_fault hon hfail)
      | false => exact congrArg finish (avsTimeout_waiting hon hfail)
    exact hexec
  case settled => exact congrArg finish (avsSettled_settling havs)

end Sys2Proof.Proofs
end


section
/-! SUPPORT. The supplies (R331, R332), and the fault collector beside its occurrences: records, self-faults, the watchdog, the
sensors, the sideband, and the writes of its registers (R340 to R345, R432). -/

namespace Sys2Proof.Machine.State

variable {s : State}

/-! ### The main supply and the backup -/

/-- What a loss of the main supply counts and shows of the keeper's seconds. -/
def lossTimed (s : State) : State :=
  let u := { s with mainLost := true, held := { s.held with loss := true, aoLost := false } }
  ((u.satFld PWR_MAINLOSS_COUNT 0 16 1).setReg PWR_MAINLOSS_SEC_HI (s.rf TMB_KEEPER_SEC_HI 0 16)).setReg
    PWR_MAINLOSS_SEC_LO (s.rf TMB_KEEPER_SEC_LO 0 32)

/-- What it leaves where the backup stands: the keeper's ticks, and the bits of the loss. -/
def lossShown (s : State) : State :=
  ((s.lossTimed.setReg PWR_MAINLOSS_TICKS (s.rf TMB_KEEPER_TICKS 0 15)).setBit TMB_KEEPER_STATUS 1).setBit PWR_SUPPLY 1

theorem lossTimed_reg_other {x : Nat} (hx : x < PWR_MAINLOSS_COUNT) : s.lossTimed.reg x = s.reg x := by
  simp only [PWR_MAINLOSS_COUNT] at hx
  unfold lossTimed
  rw [reg_setReg_other _ (by unfold PWR_MAINLOSS_SEC_LO; omega), reg_setReg_other _ (by unfold PWR_MAINLOSS_SEC_HI; omega), satFld_eq,
    reg_setFld, if_neg (by unfold PWR_MAINLOSS_COUNT; omega)]
  rfl

theorem lossTimed_ticks : s.lossTimed.rf TMB_KEEPER_TICKS 0 15 = s.rf TMB_KEEPER_TICKS 0 15 :=
  congrArg (bits · 0 15) (lossTimed_reg_other (by decide))

/-- A loss leaves BAK_OK. -/
theorem lossShown_bakOk : s.lossShown.rbit PWR_SUPPLY 2 = s.rbit PWR_SUPPLY 2 := by
  unfold lossShown
  rw [rbit, setBit_eq, reg_setReg_same, bit_setBits, if_neg (by decide), reg_setBit_other (by decide), reg_setReg_other _ (by decide),
    lossTimed_reg_other (by decide), rbit]

theorem supplyLoss_supplied (h : s.mainLost = false) :
    s.supplyLoss = if s.rbit PWR_SUPPLY 2 then s.lossShown else s.lossShown.aoReset := by
  have hsteps : s.supplyLoss =
      let v := ((s.lossTimed.setReg PWR_MAINLOSS_TICKS (s.lossTimed.rf TMB_KEEPER_TICKS 0 15)).setBit TMB_KEEPER_STATUS 1).setBit
        PWR_SUPPLY 1
      if v.rbit PWR_SUPPLY 2 then v else v.aoReset := if_neg (by simp [h])
  rw [hsteps, lossTimed_ticks]
  exact if_congr (iff_of_eq (congrArg (· = true) lossShown_bakOk)) rfl rfl

/-- The instant at which the main supply returns. -/
def restoreTimed (s : State) : State :=
  ((s.setReg PWR_RESTORE_SEC_HI (s.rf TMB_KEEPER_SEC_HI 0 16)).setReg PWR_RESTORE_SEC_LO (s.rf TMB_KEEPER_SEC_LO 0 32)).setReg
    PWR_RESTORE_TICKS (s.rf TMB_KEEPER_TICKS 0 15)

/-- It, and the report where the always-on domain was lost in the loss. -/
def restoreShown (s : State) : State := if s.held.aoLost then s.restoreTimed.setBit PWR_SUPPLY 3 else s.restoreTimed

theorem restoreTimed_held : s.restoreTimed.held = s.held := by rw [restoreTimed, setReg_held, setReg_held, setReg_held]

theorem restoreShown_held : s.restoreShown.held = s.held := by
  unfold restoreShown
  split
  · rw [setBit_eq, setReg_held, restoreTimed_held]
  · exact restoreTimed_held

theorem supplyRestore_lost (h : s.mainLost = true) (ticks : Nat) :
    let u := s.elapse (ceilDiv (ticks * keeperTick) 256)
    s.supplyRestore ticks = { u.restoreShown with mainLost := false, held := { u.held with aoLost := false } } := by
  intro u
  have hshown : (if u.restoreTimed.held.aoLost then u.restoreTimed.setBit PWR_SUPPLY 3 else u.restoreTimed) = u.restoreShown := by
    rw [restoreTimed_held, restoreShown]
  rw [← restoreShown_held (s := u), ← hshown]
  exact if_neg (not_not_intro h)

/-- MAIN_OK shows the main supply. -/
theorem showPwr_mainOk (v : Nat) : bit (s.showPwr 0x008 v) 0 = !s.mainLost := by
  have hshow : s.showPwr 0x008 v = v / 2 * 2 + b2n !s.mainLost := if_pos rfl
  rw [hshow, bit, Nat.testBit_zero]
  cases s.mainLost <;> simp [b2n]

theorem bakFall_eq (h : s.rbit PWR_SUPPLY 2 = true) : s.bakFall =
    if s.mainLost then (s.clrBit PWR_SUPPLY 2).aoReset
    else if s.inReset then (s.clrBit PWR_SUPPLY 2).setBit PWR_SUPPLY 3
    else (((s.clrBit PWR_SUPPLY 2).setBit PWR_SUPPLY 3).setBit PWR_IRQ_STATUS 3).raise 52 :=
  if_neg (not_not_intro h)

/-! ### Records and self-faults -/

/-- The slot of the log that a record's number gives it, filled with its words. -/
def recordStored (s : State) (n : Nat) (b : Bytes) : State :=
  s.each (List.range 32) fun s i => s.setReg (0x48000 + 128 * (n % 256) + 4 * i) (ofLe ((b.drop (4 * i)).take 4))

theorem recordStored_flt (n : Nat) (b : Bytes) : (s.recordStored n b).flt = s.flt :=
  each_induct (P := fun t => t.flt = s.flt) (fun t _ h => (setReg_flt t _ _).trans h) (List.range 32) s rfl

theorem recordWrite_queued {n : Nat} {b : Bytes} {q : List (Nat × Bytes)} (h : s.flt.queue = (n, b) :: q) :
    s.recordWrite = ((((s.recordStored n b).setFlt { s.flt with queue := q }).wrapFld (FLT 0x034) 0 32).setReg (FLT 0x030)
      ((n + 1) % 256)) := by
  have hsteps : s.recordWrite = (((s.recordStored n b).setFlt { (s.recordStored n b).flt with queue := q }).wrapFld (FLT 0x034) 0
      32).setReg (FLT 0x030) ((n + 1) % 256) := by
    simp only [recordWrite, h]
    rfl
  rw [hsteps, recordStored_flt]

theorem selfFault_live (h : s.timeHeld = false) (src d0 : Nat) :
    let w := s.draw.1.toNat
    let u := { s.draw.2 with grave := true }.setBit (FLT 0x004) 3
    let fl := w % 4 + b2n (s.mode != .safe) * 4 + 8
    let taken := if s.mode = .safe then 0 else (w / 4 &&& 0x17) ||| 0x20
    s.selfFault src d0 = ((u.countClass (w % 4)).queueRecord src fl taken { src, d0 }).enterSafe src :=
  if_neg (by simp [h])

theorem raiseLive_eq (h : s.timeHeld = false) (src d0 : Nat) : s.raiseLive src d0 = s.raise src d0 := if_neg (by simp [h])

/-! ### The watchdog, the sensors and the sideband -/

theorem wdogExpire_running (hen : s.rbit (FLT 0x050) 0 = true) (hrun : s.wdogSuspended = false) (hnew : s.flt.expired = false)
    (hreset : s.inReset = false) :
    let u := s.elapseFrom s.flt.kickAt (s.rf (FLT 0x050) 16 14 * 250000)
    s.wdogExpire = (u.draw.2.setFlt { u.flt with expired := true }).raise 10 u.draw.1.toNat :=
  if_neg (by simp [hen, hrun, hnew, hreset])

theorem railOut_outside {i mv : Nat} (h : s.timeHeld = false) (hi : i < 6) (hmv : mv < 4096) :
    let w := railWindow (if s.rbit PWR_AVS_CFG 0 then s.rf PWR_AVS_STATUS 0 10 else 800) i
    mv < w.1 ∨ w.2 < mv → s.railOut i mv =
      ((s.setFld (FLT (0x070 + 4 * i)) 0 12 mv).setBit (FLT (0x070 + 4 * i)) (if w.2 < mv then 17 else 16)).raise 3 i mv := by
  intro w hout
  have hlive : ¬ (s.timeHeld = true ∨ 6 ≤ i ∨ 4096 ≤ mv ∨ ¬ (Nat.blt mv w.1 = true ∨ Nat.blt w.2 mv = true)) := by
    simp only [Nat.blt_eq, h, Bool.false_eq_true, false_or]
    rintro (h6 | h4096 | hin)
    · exact absurd h6 (by omega)
    · exact absurd h4096 (by omega)
    · exact hin hout
  refine (if_neg hlive).trans ?_
  simp only [Nat.blt_eq]
  rfl

theorem sbRead_present (h : s.held.mainPor = false) (ptr n : Nat) : s.sbRead (ptr % 65536) n = s.setIfc { s.ifc with
    sbData := (List.range n).map fun i => s.sbByte ((ptr + i) % 65536)
    sbPtr := (ptr + n) % 65536 } := by
  simp only [sbRead, h, Nat.mod_add_mod, Bool.false_eq_true, if_false]

theorem sbWrite_present (h : s.held.mainPor = false) {data : Bytes} (hlen : 2 ≤ data.length) :
    s.sbWrite data = s.setIfc { s.ifc with sbPtr := be16 data 0 } :=
  (if_neg (by simp [h])).trans (if_neg (by omega))

/-! ### Writes of the collector's registers -/

section
variable {rq : Requester} {off : Nat}

/-- A write that the bus serves at once and that a rule ignores leaves what its arrival left. -/
theorem busWrite_ignored (h : s.accepts rq off true) (hview : viewOff off = off) (hself : selfCounted off = false)
    (hi : s.ignoresWrite rq off = true) (v : Word) : s.busWrite rq off v = s.arrived rq off 2 := by
  rw [busWrite_served h (hview.symm ▸ hself), hview]
  exact if_pos ((arrived_ignoresWrite s rq off 2).trans hi)

theorem plainReg_flt : plainReg (FLT 0x054) = some (.flt, 0x40000) ∧ plainReg (FLT 0x020) = some (.flt, 0x40000) ∧
    plainReg (FLT 0x024) = some (.flt, 0x40000) ∧ plainReg (FLT 0x000) = some (.flt, 0x40000) := by decide +kernel

theorem busWrite_flt (hp : plainReg off = some (.flt, 0x40000)) (h : s.accepts rq off true) (hi : s.ignoresWrite rq off = false)
    (v : Word) : s.busWrite rq off v =
      ((s.arrived rq off 2).storing off v.toNat).fltWritten (off - 0x40000) ((s.arrived rq off 2).reg off) v.toNat :=
  busWrite_plain_of_not_ignored h hp hi v

theorem busWrite_kick (h : s.accepts .mgmt (FLT 0x054) true) (v : Word) :
    let u := (s.arrived .mgmt (FLT 0x054) 2).storing (FLT 0x054) v.toNat
    s.busWrite .mgmt (FLT 0x054) v = if v.toNat % 65536 = 0xA5C3 then u.wdogRestart else u :=
  busWrite_flt plainReg_flt.1 h rfl v

theorem busWrite_inject (h : s.accepts rq (FLT 0x020) true) (v : Word) :
    let u := (s.arrived rq (FLT 0x020) 2).storing (FLT 0x020) v.toNat
    s.busWrite rq (FLT 0x020) v =
      if u.rbit (FLT 0x000) 0 then u.occur { src := v.toNat % 64, injected := true } else u :=
  busWrite_flt plainReg_flt.2.1 h rfl v

theorem busWrite_report (h : s.accepts .mgmt (FLT 0x024) true) (v : Word) : s.busWrite .mgmt (FLT 0x024) v =
    ((s.arrived .mgmt (FLT 0x024) 2).storing (FLT 0x024) v.toNat).raise 0 (v.toNat % 65536) :=
  busWrite_flt plainReg_flt.2.2.1 h rfl v

/-- A write of FLT_CTL: what its two clears do. -/
theorem busWrite_fltCtl (h : s.accepts rq (FLT 0x000) true) (v : Word) :
    let u := (s.arrived rq (FLT 0x000) 2).storing (FLT 0x000) v.toNat
    let w := if bit v.toNat 1 then u.setReg (FLT 0x03C) 0 else u
    s.busWrite rq (FLT 0x000) v = if bit v.toNat 2 then w.setFld (FLT 0x064) 8 8 (w.rf (FLT 0x064) 0 8) else w :=
  busWrite_flt plainReg_flt.2.2.2 h rfl v

/-- The words that are written back to FLT_CTL: INJECT_EN with CLASS_CLEAR, and with MAX_CLEAR. -/
theorem fltCtl_words (x : Nat) :
    (BitVec.ofNat 32 (x % 2 + 2)).toNat = x % 2 + 2 ∧ bit (x % 2 + 2) 1 = true ∧ bit (x % 2 + 2) 2 = false ∧
    (BitVec.ofNat 32 (x % 2 + 4)).toNat = x % 2 + 4 ∧ bit (x % 2 + 4) 1 = false ∧ bit (x % 2 + 4) 2 = true := by
  rcases Nat.mod_two_eq_zero_or_one x with h | h <;> rw [h] <;> decide

theorem busWrite_classClear (h : s.accepts rq (FLT 0x000) true) (x : Nat) :
    s.busWrite rq (FLT 0x000) (BitVec.ofNat 32 (x % 2 + 2)) =
      ((s.arrived rq (FLT 0x000) 2).storing (FLT 0x000) (x % 2 + 2)).setReg (FLT 0x03C) 0 := by
  obtain ⟨hword, hclass, hmax, _⟩ := fltCtl_words x
  rw [busWrite_fltCtl h, hword, if_pos hclass, if_neg (by simp [hmax])]

theorem busWrite_maxClear (h : s.accepts rq (FLT 0x000) true) (x : Nat) :
    let u := (s.arrived rq (FLT 0x000) 2).storing (FLT 0x000) (x % 2 + 4)
    s.busWrite rq (FLT 0x000) (BitVec.ofNat 32 (x % 2 + 4)) = u.setFld (FLT 0x064) 8 8 (u.rf (FLT 0x064) 0 8) := by
  obtain ⟨_, _, _, hword, hclass, hmax⟩ := fltCtl_words x
  simp only [busWrite_fltCtl h, hword, hclass, hmax, if_true, Bool.false_eq_true, if_false]
end

end Sys2Proof.Machine.State
end

section
/-! PROOFS. The supplies and the fault collector. -/

namespace Sys2Proof.Proofs

open Sys2Proof.Machine State

/-- Settles O47: where the main supply stands decides what a loss, a return and a fall of the backup do. -/
theorem supplyCommands : Obligations.SupplyCommands := by
  intro s ticks
  refine ⟨fun hmain => ?loss, fun hlost => ?restore, s.showPwr_mainOk _, fun hbak => ⟨fun hlost => ?aoLost,
    fun hmain hreset => ?reported, fun hmain hreset => ?inReset⟩, rfl⟩
  case loss => exact congrArg finish (supplyLoss_supplied hmain)
  case restore => exact congrArg finish (supplyRestore_lost hlost ticks)
  case aoLost => exact congrArg finish ((bakFall_eq hbak).trans (if_pos hlost))
  case reported => exact congrArg finish ((bakFall_eq hbak).trans ((if_neg (by simp [hmain])).trans (if_neg (by simp [hreset]))))
  case inReset => exact congrArg finish ((bakFall_eq hbak).trans ((if_neg (by simp [hmain])).trans (if_pos hreset)))

/-- Settles O43: each command is what its source does where the collector is out of power-on reset. -/
theorem faultCommands : Obligations.FaultCommands := by
  intro s n r i mv now a ptr len b data q corrected
  refine ⟨fun hqueue => ?record, fun hlive => ⟨⟨?parity, ?clockLoss⟩, ?temp, fun hi hmv hout => ?rail, ?refclk, ?xtal,
    fun hi => ?pll, fun ha => ?ecc⟩, fun hen hrun hnew hreset => ?watchdog, fun hpor => ⟨?sbRead, fun hlen => ?sbWrite⟩, rfl⟩
  case record => exact congrArg finish (recordWrite_queued hqueue)
  case parity => exact congrArg finish (selfFault_live hlive 0xFF r)
  case clockLoss => exact congrArg finish (selfFault_live hlive 0xFE 0)
  case temp => exact congrArg finish (if_neg (by simp [hlive]))
  case rail => exact congrArg finish (railOut_outside hlive hi hmv hout)
  case refclk => exact congrArg finish (raiseLive_eq hlive 7 0)
  case xtal => exact congrArg finish (raiseLive_eq hlive 9 0)
  case pll => exact congrArg finish ((if_pos hi).trans (raiseLive_eq hlive 8 i))
  case ecc => exact congrArg finish ((if_pos ha).trans (raiseLive_eq hlive _ a))
  case watchdog => exact congrArg finish (wdogExpire_running hen hrun hnew hreset)
  case sbRead => exact congrArg finish (sbRead_present hpor ptr len)
  case sbWrite => exact congrArg finish (sbWrite_present hpor hlen)

/-- Settles O44: each is a write of a plain register, with the effect of its place in the block or, by the host, with none. -/
theorem faultRegisters : Obligations.FaultRegisters := by
  intro s rq v
  refine ⟨fun h => ?kick, fun h => ?hostKick, fun h => ?inject, fun h => ?report, fun h => ?hostReport,
    fun h => ⟨?classClear, ?maxClear⟩⟩
  case kick => exact congrArg finish (busWrite_kick h v)
  case hostKick => exact congrArg finish (busWrite_ignored h rfl rfl rfl v)
  case inject => exact congrArg finish (busWrite_inject h v)
  case report => exact congrArg finish (busWrite_report h v)
  case hostReport => exact congrArg finish (busWrite_ignored h rfl rfl rfl v)
  case classClear => exact congrArg finish (busWrite_classClear h _)
  case maxClear => exact congrArg finish (busWrite_maxClear h _)

end Sys2Proof.Proofs
end


section
/-! SUPPORT. The monitors: dump records, their ring and the internal buffer, the tracers, and the writes of their registers (R397 to
R407). -/

namespace Sys2Proof.Machine.State

variable {s : State}

/-! ### What a transfer leaves of the monitors -/

theorem dmaWrite_mon (sram : Bool) (a : Nat) (b : Bytes) : (s.dmaWrite sram a b).mon = s.mon := by
  cases sram with
  | true => rfl
  | false =>
    show (s.hostWrite a b).mon = s.mon
    unfold hostWrite
    split <;> rfl

theorem dmaMoved_mon (chan n : Nat) : (s.dmaMoved chan n).mon = s.mon := by
  obtain ⟨r, h⟩ := event_only s 6 5 n { master := 2 + chan }
  rw [dmaMoved, h]

theorem setFld_mon (off lo w v : Nat) : (s.setFld off lo w v).mon = s.mon := (rfl)

/-! ### Records of the dumps -/

section
variable {b : Bytes}

theorem dumpWrite_buffer (hrec : s.mon.record = some b) (hmode : s.mode ≠ .safe) (hbuf : s.rbit MON_DUMP_CFG 1 = true) :
    let prod := s.rf MON_DUMP_PROD 0 17 % 170
    let u := s.setMon { s.mon with record := none, buffer := s.mon.buffer.writeAll (prod * 384) b }
    s.dumpWrite false = (u.setFld MON_DUMP_PROD 0 17 ((prod + 1) % 170)).setIfc { s.ifc with pulse := true } := by
  simp only [dumpWrite, hrec, if_neg hmode, hbuf, if_true]
  rfl

theorem dumpWrite_ring (hrec : s.mon.record = some b) (hmode : s.mode ≠ .safe) (hbuf : s.rbit MON_DUMP_CFG 1 = false) :
    s.dumpWrite false = s.dumpToRing b false := by
  simp only [dumpWrite, hrec, if_neg hmode, hbuf, Bool.false_eq_true, if_false]

/-- A ring that is full loses the record; one that has room takes it, and PROD moves on. -/
theorem dumpToRing_lost (hrun : s.rbit MON_DUMP_CFG 16 = false)
    (hfull : (s.rf MON_DUMP_PROD 0 17 % 2 ^ s.rf MON_DUMP_CFG 3 5 + 1) % 2 ^ s.rf MON_DUMP_CFG 3 5 =
      s.rf MON_DUMP_CONS 0 17 % 2 ^ s.rf MON_DUMP_CFG 3 5) :
    s.dumpToRing b false = ((s.bump MON_DUMP_LOST).setBit MON_IRQ_STATUS 7).setMon { s.mon with record := none } :=
  (if_neg (by simp [hrun])).trans (if_pos hfull)

@[inherit_doc dumpToRing_lost]
theorem dumpToRing_written (hrun : s.rbit MON_DUMP_CFG 16 = false)
    (hroom : (s.rf MON_DUMP_PROD 0 17 % 2 ^ s.rf MON_DUMP_CFG 3 5 + 1) % 2 ^ s.rf MON_DUMP_CFG 3 5 ≠
      s.rf MON_DUMP_CONS 0 17 % 2 ^ s.rf MON_DUMP_CFG 3 5) :
    let size := 2 ^ s.rf MON_DUMP_CFG 3 5
    let prod := s.rf MON_DUMP_PROD 0 17 % size
    let sram := s.rbit MON_DUMP_CFG 2
    let a := s.baseAddr (MON 0x028) (MON 0x02C) sram + prod * 384
    let u := ((s.dmaWrite sram a b).dmaMoved 36 384).setFld MON_DUMP_PROD 0 17 ((prod + 1) % size)
    sramBeyond sram a 384 = false → s.dumpToRing b false = u.setMon { u.mon with record := none } := by
  intro size prod sram a u hin
  have hmon : u.mon = s.mon := (setFld_mon _ _ _ _).trans ((dmaMoved_mon _ _).trans (dmaWrite_mon _ _ _))
  rw [hmon]
  exact (if_neg (by simp [hrun])).trans ((if_neg hroom).trans (if_neg (by simpa using hin)))
end

/-! ### Records of the tracers -/

section
variable {t : Traced}

/-- The first loss of a ring that is full raises fault 25 (R406). -/
def traceLost (s : State) (t : Traced) : State :=
  let u := (s.bump MON_TRC_LOST).setBit MON_IRQ_STATUS 9
  (if s.mon.overran then u else (u.setMon { u.mon with overran := true }).raise 25 t.erg).traceLeaves t

theorem traceWrite_lost (ht : s.mon.traced.find? (fun x => x.outcome.isSome) = some t) (hmode : s.mode ≠ .safe)
    (hrun : s.rbit MON_TRC_RING 16 = false)
    (hfull : (s.rf MON_TRC_PROD 0 17 % 2 ^ s.rf MON_TRC_RING 1 5 + 1) % 2 ^ s.rf MON_TRC_RING 1 5 =
      s.rf MON_TRC_CONS 0 17 % 2 ^ s.rf MON_TRC_RING 1 5) : s.traceWrite false = s.traceLost t := by
  have hmon : ((s.bump MON_TRC_LOST).setBit MON_IRQ_STATUS 9).mon = s.mon := by rw [setBit, setFld_mon, bump_eq, setFld_mon]
  have hstopped : ¬ (s.mode = .safe ∨ s.rbit MON_TRC_RING 16 = true) := by simp [hmode, hrun]
  simp only [traceWrite, ht, if_neg hstopped, if_pos hfull, hmon, traceLost]

theorem traceWrite_written (ht : s.mon.traced.find? (fun x => x.outcome.isSome) = some t) (hmode : s.mode ≠ .safe)
    (hrun : s.rbit MON_TRC_RING 16 = false)
    (hroom : (s.rf MON_TRC_PROD 0 17 % 2 ^ s.rf MON_TRC_RING 1 5 + 1) % 2 ^ s.rf MON_TRC_RING 1 5 ≠
      s.rf MON_TRC_CONS 0 17 % 2 ^ s.rf MON_TRC_RING 1 5) :
    let size := 2 ^ s.rf MON_TRC_RING 1 5
    let prod := s.rf MON_TRC_PROD 0 17 % size
    let sram := s.rbit MON_TRC_RING 0
    let a := s.baseAddr (MON 0x08C) (MON 0x090) sram + prod * 64
    sramBeyond sram a 64 = false → s.traceWrite false = ((((s.dmaWrite sram a (traceBytes s.mon.seq t)).dmaMoved 37 64).setFld
      MON_TRC_PROD 0 17 ((prod + 1) % size)).bump MON_TRC_RECORDS).traceLeaves t := by
  intro size prod sram a hin
  have hstopped : ¬ (s.mode = .safe ∨ s.rbit MON_TRC_RING 16 = true) := by simp [hmode, hrun]
  have hinside : ¬ (false = true ∨ sramBeyond sram a 64 = true) := by simp [hin]
  rw [traceWrite, ht]
  exact (if_neg hstopped).trans ((if_neg hroom).trans (if_neg hinside))
end

/-! ### The registers of the monitors -/

section
variable {rq : Requester} {off : Nat}

theorem plainReg_mon : plainReg MON_DUMP_CFG = some (.mon, 0x70000) ∧ plainReg MON_TRC_CFG = some (.mon, 0x70000) := by
  decide +kernel

theorem busWrite_mon (hp : plainReg off = some (.mon, 0x70000)) (h : s.accepts rq off true) (hi : s.ignoresWrite rq off = false)
    (v : Word) : s.busWrite rq off v =
      ((s.arrived rq off 2).storing off v.toNat).monWritten (off - 0x70000) ((s.arrived rq off 2).reg off) v.toNat :=
  busWrite_plain_of_not_ignored h hp hi v

theorem busWrite_dumpCfg (h : s.accepts rq MON_DUMP_CFG true) (v : Word) : s.busWrite rq MON_DUMP_CFG v =
    ((s.arrived rq MON_DUMP_CFG 2).storing MON_DUMP_CFG v.toNat).dumpConfig ((s.arrived rq MON_DUMP_CFG 2).reg MON_DUMP_CFG) :=
  busWrite_mon plainReg_mon.1 h rfl v

theorem busWrite_trcCfg (h : s.accepts rq MON_TRC_CFG true) (v : Word) : s.busWrite rq MON_TRC_CFG v =
    ((s.arrived rq MON_TRC_CFG 2).storing MON_TRC_CFG v.toNat).tracerConfig :=
  busWrite_mon plainReg_mon.2 h rfl v

theorem findReg_dumpBufData : (findReg (MON 0x044)).map (fun x => x.1.fields) = some [ro 0 32 0] := by decide +kernel

/-- A whole word reads as it is shown. -/
theorem readValue_word (v : Nat) : readValue [ro 0 32 0] v % 2 ^ 32 = v % 2 ^ 32 := by
  simp only [readValue, ro, bits, List.foldl_cons, List.foldl_nil, reduceCtorEq, if_false, Nat.shiftRight_eq_div_pow,
    Nat.shiftLeft_eq]
  omega

theorem registerRead_dumpBufData : s.registerRead rq (MON 0x044) false =
    (s.wrapFld MON_DUMP_BUF_ADDR 2 14, readValue [ro 0 32 0] s.bufferWord) := by
  obtain ⟨⟨r, i⟩, hr, hfields⟩ := Option.map_eq_some_iff.mp findReg_dumpBufData
  have hf : r.fields = [ro 0 32 0] := hfields
  have hb : blockOf (MON 0x044) = some (.mon, 0x70000) := rfl
  have heffect : s.readEffect rq (MON 0x044) = s.wrapFld MON_DUMP_BUF_ADDR 2 14 := by
    rw [readEffect, if_neg (by decide), if_neg (by decide), if_pos rfl]
  have hshow : ∀ v, s.showWord rq .mon (MON 0x044 - 0x70000) v = s.bufferWord := fun v => by
    rw [showWord, showMon, if_pos (by decide)]
  have hstays : [ro 0 32 0].any (fun f => f.acc == .rc) = false := rfl
  simp only [registerRead, hr, hb, hf, hshow, hstays, heffect, Bool.false_eq_true, if_false]

theorem busRead_dumpBufData (h : s.accepts rq (MON 0x044) false) :
    let u := s.arrived rq (MON 0x044) 1
    s.busRead rq (MON 0x044) = (u.wrapFld MON_DUMP_BUF_ADDR 2 14).setIfc { u.ifc with
      reads := [{ rq, addr := MON 0x044, ok := true, value := u.bufferWord % 2 ^ 32 }] } := by
  intro u
  have hview : viewOff (MON 0x044) = MON 0x044 ∧ inMirror (MON 0x044) = false := by decide
  have hifc : (u.wrapFld MON_DUMP_BUF_ADDR 2 14).ifc = u.ifc := by rw [wrapFld_eq, setFld_ifc]
  rw [busRead_served h, hview.1, hview.2, registerRead_dumpBufData, readValue_word, readDone, hifc,
    show u.ifc.reads = [] from arrived_reads s rq _ 1, List.nil_append]
end

/-! ### A count wider than its register -/

/-- The device in RUN with bit 32 of the word of MON_U0_COUNT0 set: as `wideTrim`, a state of the model that no register of 32 bits
(R350) can hold. -/
def wideCount : State := { State.reset with mode := .run, regs := [(MON_U_COUNT 0 0, 2 ^ 32)] }

theorem wideCount_accepts : wideCount.accepts .host (MON_U_COUNT 0 0) true := by
  unfold State.accepts; decide +kernel

/-- A write of 0 leaves the bit in the word. -/
theorem wideCount_stored :
    ((wideCount.accessing (MON_U_COUNT 0 0)).storing (MON_U_COUNT 0 0) 0).reg (MON_U_COUNT 0 0) = 2 ^ 32 := by
  decide +kernel

end Sys2Proof.Machine.State
end

section
/-! PROOFS. The monitors: their counters, dumps and tracers. -/

namespace Sys2Proof.Proofs

open Sys2Proof.Machine State

/-- Refutes O55, in its clause on a counter's write: the write replaces the 32 bits of COUNT, so where the word before it has a bit
above them, as `wideCount` has, the word is not the value written. The clause lacks the premise that COUNT is a word of 32 bits. -/
theorem not_monitorCommands : ¬ Obligations.MonitorCommands := by
  intro h
  obtain ⟨_, hcount, _⟩ := h wideCount .host 0 0 0 false false false 0 []
  obtain ⟨_, hreg, _⟩ := hcount (by decide) (by decide) wideCount_accepts
  exact absurd (wideCount_stored.symm.trans hreg) (by decide)

/-- Settles O56: where the record goes, and whether its ring has room, decide what becomes of it; the registers are plain ones. -/
theorem dumpsAndTracers : Obligations.DumpsAndTracers := by
  intro s rq v b t
  refine ⟨fun h => ?enable, fun hrec hmode => ⟨fun hbuf => ?buffer, fun hbuf hrun => ⟨fun hfull => ?lost, fun hroom hin => ?ring⟩⟩,
    fun h => ?bufRead, fun h => ⟨?trcEnable, ?trcDisable⟩, fun ht hmode hrun => ⟨fun hfull => ?traceLost,
    fun hroom hin => ?traceRing⟩⟩
  case enable => exact congrArg finish (busWrite_dumpCfg h _)
  case buffer => exact congrArg finish (dumpWrite_buffer hrec hmode hbuf)
  case lost => exact congrArg finish ((dumpWrite_ring hrec hmode hbuf).trans (dumpToRing_lost hrun hfull))
  case ring => exact congrArg finish ((dumpWrite_ring hrec hmode hbuf).trans (dumpToRing_written hrun hroom hin))
  case bufRead => exact congrArg finish (busRead_dumpBufData h)
  case trcEnable => exact congrArg finish (busWrite_trcCfg h v)
  case trcDisable => exact congrArg finish (busWrite_trcCfg h _)
  case traceLost => exact congrArg finish (traceWrite_lost ht hmode hrun hfull)
  case traceRing => exact congrArg finish (traceWrite_written ht hmode hrun hroom hin)

end Sys2Proof.Proofs
end


section
/-! SUPPORT. The host interface: channels and their registers, transmit descriptors, deliveries to the CPU, the PCIe endpoint, the
vectors' messages and the mailbox (R346, R347, R356 to R364, R379). -/

namespace Sys2Proof.Machine.State

variable {s : State}

/-! ### Transmit descriptors (R359) -/

section
variable {tx : TxFetch}

theorem txFetch_turn {u : State} (hu : s.elapse tx.wait = u) (hfwd : u.forwarding = true) (hturn : u.nextTxRing = some tx.ring) :
    s.txFetch tx = u.txTake tx := by
  subst hu
  exact if_pos ⟨hfwd, hturn⟩

variable {w : State} (hw : s.setIfc { s.ifc with turn := (tx.ring + 1) % 16 } = w)
include hw

/-- A good frame goes to the data plane from the state in which its buffer was tried: the data plane takes the buffer itself. -/
theorem txTake_sent {t : State} {b p : Nat} (hlost : tx.lost = false)
    (hin : sramBeyond (w.chanSram (16 + tx.ring)) (w.chanDesc (16 + tx.ring) 32) 32 = false)
    (h : (w.ignoredRequest (txDesc tx.desc)).txRefused (txDesc tx.desc) = none)
    (hbuf : (w.ignoredRequest (txDesc tx.desc)).allocBuffer ((txDesc tx.desc).len + 4) ringClient = (t, some (b, p)))
    (hread : tx.fail = false) (hlen : tx.bytes.length = (txDesc tx.desc).len)
    (hframe : sramBeyond ((w.ignoredRequest (txDesc tx.desc)).chanSram (16 + tx.ring)) (txDesc tx.desc).addr
      (txDesc tx.desc).len = false) :
    s.txTake tx = ((w.ignoredRequest (txDesc tx.desc)).txInject (txDesc tx.desc) tx.bytes ringClient).txEnds (16 + tx.ring)
      (txDesc tx.desc) 0 := by
  simp only [txTake, hw, hlost, hin, h, hbuf, hread, hlen, hframe, ne_eq, not_true_eq_false, Bool.false_eq_true, false_or, if_false]
end

/-! ### A frame for the last buffer -/

/-- The device in RUN with one free buffer of 192 bytes, and transmit ring 15 enabled with one descriptor posted. -/
def lastBuffer : State :=
  ({ State.reset with mode := .run, oas := { pools := [[[0]], [], [], []], free := [(1, 196608)] } }.setReg (chanBase 31) 0x19).setReg
    (chanBase 31 + 0x10) 1

/-- A descriptor of transmit ring 15: a frame of 60 bytes for erg 0. -/
def lastFetch : TxFetch :=
  { ring := 15, wait := 0, desc := 60 * 2 ^ 64, lost := false, bytes := List.replicate 60 0, fail := false }

/-- The state in which its buffer is tried, and the one that the trial leaves. -/
def lastTried : State := (lastBuffer.setIfc { lastBuffer.ifc with turn := 0 }).ignoredRequest (txDesc lastFetch.desc)

@[inherit_doc lastTried] def lastTaken : State := (lastTried.allocBuffer 64 ringClient).1

theorem lastBuffer_turn : lastBuffer.forwarding = true ∧ lastBuffer.nextTxRing = some 15 ∧
    sramBeyond ((lastBuffer.setIfc { lastBuffer.ifc with turn := 0 }).chanSram 31)
      ((lastBuffer.setIfc { lastBuffer.ifc with turn := 0 }).chanDesc 31 32) 32 = false ∧
    lastTried.txRefused (txDesc lastFetch.desc) = none ∧ lastTried.allocBuffer 64 ringClient = (lastTaken, some (0, 0)) ∧
    sramBeyond (lastTried.chanSram 31) 0 60 = false := by decide +kernel

/-- The frame reaches erg 0 with the last buffer, and does not where the buffer is gone. -/
theorem lastFrame_injected :
    ((lastTried.txInject (txDesc lastFetch.desc) lastFetch.bytes ringClient).txEnds 31
      (txDesc lastFetch.desc) 0).finished.frames.length = 1 ∧
    ((lastTaken.txInject (txDesc lastFetch.desc) lastFetch.bytes ringClient).txEnds 31
      (txDesc lastFetch.desc) 0).finished.frames.length = 0 := by
  decide +kernel

/-! ### Messages, the link and configuration (R346, R364) -/

section
variable {n : Nat}

/-- The instant from which MIN_US since the vector's last message lets it send. -/
def vecDue (s : State) (n : Nat) : State :=
  let l := sparseGet (fun _ => 0) n s.ifc.last
  if l = 0 then s else s.elapse (l - 1 + s.rf (HST (0x100 + 4 * n)) 0 16 * 250 - s.time.clk)

theorem msixMessage_ready (hmode : s.mode ≠ .safe) (hready : s.vecReady n = true) :
    s.msixMessage n = ((s.vecDue n).vecSend n).vecSettle := if_neg (by simp [hmode, hready])

theorem pcieError_live (h : s.inReset = false) (down : Bool) (st : Nat) : s.pcieError down st =
    ((if down then s.clrBit (HST 0x000) 8 else s).setBit (HST 0x020) 2).raise 17 st := if_neg (by simp [h])

theorem pcieUp_live {st : Nat} (h : s.inReset = false) (hlo : 1 ≤ n) (hhi : n ≤ 3) (hst : st = 1 ∨ st = 2) : s.pcieUp n st =
    ((s.setFld (HST 0x000) 0 2 n).setFld (HST 0x000) 4 2 st).setBit (HST 0x000) 8 :=
  if_neg (by simp only [h, hst, not_true_eq_false, or_false, Bool.false_eq_true, false_or]; omega)

theorem pcieConfig_live (h : s.inReset = false) (bme msix fm : Bool) :
    let u := ((s.putBit (HST 0x000) 9 bme).putBit (HST 0x000) 10 msix).setIfc { s.ifc with fmask := fm }
    s.pcieConfig bme msix fm = if bme then u.flushPosted else u := if_neg (by simp [h])
end

/-! ### VEC_REARM and the mailbox (R364, R379) -/

section
variable {rq : Requester}

theorem plainReg_rearm : ∀ hi : Bool, plainReg (HST (if hi then 0x04C else 0x048)) = some (.hst, 0x50000) := by decide +kernel

theorem busWrite_hst {off : Nat} (hp : plainReg off = some (.hst, 0x50000)) (h : s.accepts rq off true)
    (hi : s.ignoresWrite rq off = false) (v : Word) : s.busWrite rq off v =
      ((s.arrived rq off 2).storing off v.toNat).hstWritten (off - 0x50000) ((s.arrived rq off 2).reg off) v.toNat :=
  busWrite_plain_of_not_ignored h hp hi v

theorem hstWritten_rearm (hi : Bool) (old v : Nat) :
    s.hstWritten (HST (if hi then 0x04C else 0x048) - 0x50000) old v = s.rearm (if hi then 32 else 0) v := by
  have hplace : HST (if hi then 0x04C else 0x048) - 0x50000 = if hi then 0x04C else 0x048 := Nat.add_sub_cancel_left _ _
  have hchannel : channelOf (HST (if hi then 0x04C else 0x048)) = none := by cases hi <;> rfl
  rw [hplace, hstWritten, hchannel]
  cases hi with
  | false => exact (if_neg (by decide)).trans (if_pos rfl)
  | true => exact (if_neg (by decide)).trans ((if_neg (by decide)).trans (if_pos rfl))

theorem busWrite_rearm (hi : Bool) (h : s.accepts rq (HST (if hi then 0x04C else 0x048)) true) (v : Word) :
    s.busWrite rq (HST (if hi then 0x04C else 0x048)) v = ((s.arrived rq (HST (if hi then 0x04C else 0x048)) 2).storing
      (HST (if hi then 0x04C else 0x048)) v.toNat).rearm (if hi then 32 else 0) v.toNat := by
  have hi' : s.ignoresWrite rq (HST (if hi then 0x04C else 0x048)) = false := by
    cases hi with
    | false => exact (rfl : s.ignoresWrite rq (HST 0x048) = false)
    | true => exact (rfl : s.ignoresWrite rq (HST 0x04C) = false)
  exact (busWrite_hst (plainReg_rearm hi) h hi' v).trans (hstWritten_rearm hi _ v.toNat)

theorem plainReg_mailbox : plainReg (NVM 0x020) = some (.nvm, 0x60000) := by decide +kernel

theorem busWrite_post (h : s.accepts rq (NVM 0x020) true) :
    let u := (s.arrived rq (NVM 0x020) 2).storing (NVM 0x020) 1
    s.busWrite rq (NVM 0x020) 1 = if s.mode = .load ∨ u.rbit (NVM 0x020) 1 = true then u.bump (NVM 0x108)
      else ((u.setBit (NVM 0x020) 1).setPow { u.pow with mgmtEvent := true }).revote domMgmt := by
  intro u
  have hmode : u.mode = s.mode := (storing_mode _ _ _).trans (arrived_mode s rq _ 2)
  have hpost : s.busWrite rq (NVM 0x020) 1 = u.mailboxPost := busWrite_plain_of_not_ignored h plainReg_mailbox rfl 1
  rw [hpost, mailboxPost, hmode]
end

end Sys2Proof.Machine.State
end

section
/-! PROOFS. The host interface: rings, messages, the PCIe link and the mailbox. -/

namespace Sys2Proof.Proofs

open Sys2Proof.Machine State

/-- Refutes O50, in its clause on a good frame: it injects the frame in the state that has given the buffer away, while in the model
the data plane takes the buffer when it injects the frame, in the state before. `lastBuffer` has one buffer: there the frame goes to
erg 0, and the state of the clause holds none. -/
theorem not_ringCommands : ¬ Obligations.RingCommands := by
  intro h
  obtain ⟨hfwd, hturn, hin, hok, hbuf, hframe⟩ := lastBuffer_turn
  have hzero : lastBuffer.elapse lastFetch.wait = lastBuffer := elapse_zero lastBuffer
  obtain ⟨_, _, htx, _⟩ := h lastBuffer .host 0 0 lastFetch ⟨0, 0, false, .good⟩
    { id := 0, frame := 0, port := 0, queue := 0, kind := 0, bank := false }
    { id := 0, port := 0, bytes := [], bank := false, cnt := [], raw := [], order := 0 }
  rw [hzero] at htx
  obtain ⟨_, hclause⟩ := htx hfwd hturn
  have hsent := (hclause rfl hin).2 lastTaken 0 0 hok hbuf rfl rfl hframe
  have hexec : exec (.txDescriptorFetch lastFetch) lastBuffer = finish
      ((lastTried.txInject (txDesc lastFetch.desc) lastFetch.bytes ringClient).txEnds 31 (txDesc lastFetch.desc) 0) :=
    congrArg finish ((txFetch_turn hzero hfwd hturn).trans (txTake_sent rfl rfl hin hok hbuf rfl rfl hframe))
  have hstate := Host.Outcome.next.inj (hexec.symm.trans hsent)
  have hframes := lastFrame_injected.1.symm.trans ((congrArg (fun u => u.frames.length) hstate).trans lastFrame_injected.2)
  exact absurd hframes (by decide)

/-- Settles O51: each command is what the endpoint, the vector or the mailbox does out of reset; settling after a message changes
nothing of its end. -/
theorem hostCommands : Obligations.HostCommands := by
  intro s rq n st v down bme msix fm hi
  refine ⟨fun hmode hready => ?message, fun h => ?rearm, fun hreset => ⟨?down, fun hlo hhi hst => ?up, ?config⟩, fun h => ?post⟩
  case message =>
    exact (congrArg finish (msixMessage_ready hmode hready)).trans (congrArg Host.Outcome.next (vecSettle_finished _))
  case rearm => exact congrArg finish (busWrite_rearm hi h v)
  case down => exact congrArg finish (pcieError_live hreset down st)
  case up => exact congrArg finish (pcieUp_live hreset hlo hhi hst)
  case config => exact congrArg finish (pcieConfig_live hreset bme msix fm)
  case post => exact congrArg finish (busWrite_post h)

end Sys2Proof.Proofs
end


section
/-! SUPPORT. Messages: what is next, how it is checked, and what an accepted one does in RUN (R377 to R390). -/

namespace Sys2Proof.Machine.State

variable {s t : State} {m : Msg}

/-! ### The next message and its checks (R378, R379, R382, R390) -/

/-- The status that a message is refused with before it is understood. -/
def checkStatus (s : State) (m : Msg) : Option Nat :=
  if s.mode = .handover ∨ s.boot.paused = true ∨ s.boot.handover.isSome = true then some 9
  else match s.msgError m with
    | some st => some st
    | none => if s.mode = .recovery ∧ m.type ∉ recoveryTypes then some 11 else none

/-- A message is dealt with: an event stands while others wait on the in-band path. -/
def messageDone (s : State) : State := s.setPow { s.pow with mgmtEvent := !s.boot.inband.isEmpty }

theorem checkStatus_ne_zero {st : Nat} (h : s.checkStatus m = some st) : st ≠ 0 := by
  unfold checkStatus msgError at h
  grind

theorem checkStatus_accepted (hmode : s.mode = .run) (hpaused : s.boot.paused = false) (hhandover : s.boot.handover = none)
    (hgood : s.msgError m = none) : s.checkStatus m = none := by
  simp [checkStatus, hmode, hpaused, hhandover, hgood]

/-- The mailbox keeps its message until the reply. -/
theorem nextMessage_mailbox (h : s.nextMessage = some (m, t)) (hvia : m.asked.via = none) : t = s := by
  unfold nextMessage at h
  split at h
  · simp_all
  · split at h
    · simp_all
    · split at h <;> cases h <;> simp [readMsg] at hvia

/-! ### A reply in the mailbox changes neither the part nor the session (R378, R379) -/

/-- What a refusal leaves as it was: the part, the boot state with the session, and the last accepted counter. -/
def updateView (s : State) : Memory × Boot × Nat := (s.nvm, s.boot, s.reg (NVM 0x024))

theorem setReg_updateView {off v : Nat} (h : NVM 0x024 ≠ off) : (s.setReg off v).updateView = s.updateView := by
  simp only [updateView, setReg_nvm, setReg_boot, reg_setReg_other s h]

theorem drawBytes_updateView (n : Nat) : ∀ s : State, (s.drawBytes n).1.updateView = s.updateView := by
  induction n with
  | zero => exact fun s => rfl
  | succ n ih => exact fun s => ih s.draw.2

theorem replyBytes_updateView (a : Asked) (st : Nat) (payload : Bytes) :
    (s.replyBytes a st payload).1.updateView = s.updateView := by
  unfold replyBytes
  split
  · rfl
  · exact drawBytes_updateView 32 s

theorem mailboxReply_updateView (b : Bytes) : (s.mailboxReply b).updateView = s.updateView := by
  unfold mailboxReply
  rw [setBit_eq, setReg_updateView (by decide), setBit_eq, setReg_updateView (by decide), clrBit_eq, setReg_updateView (by decide)]
  exact each_induct (P := fun t => t.updateView = s.updateView)
    (fun t i h => (setReg_updateView (by unfold NVM; omega)).trans h) (List.range 32) s rfl

/-- A refusal to the mailbox: its fault, its count and its reply. -/
theorem refuse_updateView (hvia : m.asked.via = none) {st : Nat} (hst : st ≠ 0) : (s.refuse m st).updateView = s.updateView := by
  have hreply : ∀ u : State, (u.reply m.asked st []).updateView = u.updateView := fun u => by
    simp only [reply, hvia]
    exact (mailboxReply_updateView _).trans (replyBytes_updateView _ _ _)
  unfold refuse answer
  rw [hreply, if_neg hst]
  split
  · rfl
  · have hraise : ∀ (u : State) (n d0 d1 : Nat), (u.raise n d0 d1).updateView = u.updateView := fun u n d0 d1 => (rfl)
    rw [hraise, setBit_eq, setReg_updateView (by decide), bump_eq]
    exact setReg_updateView (by decide)

section
variable {mine : Msg → Bool} {f : State → Msg → State}

theorem takeMessage_other (hrun : s.engineRuns = true) (hnext : s.nextMessage = some (m, t)) (h : mine m = false) :
    s.takeMessage mine f = s := by
  simp [takeMessage, hrun, hnext, h]

variable (hrun : s.engineRuns = true) (hnext : s.nextMessage = some (m, t)) (hmine : mine m = true)
include hrun hnext hmine

theorem takeMessage_own : s.takeMessage mine f =
    (if m.asked.via.isSome ∧ s.inbandOn = false then t
      else match t.checkStatus m with
        | some st => t.refuse m st
        | none => f t m).messageDone := by
  simp only [takeMessage, hrun, hnext, hmine, messageDone, checkStatus, not_true_eq_false, if_false, Bool.not_eq_true]
  by_cases hbusy : t.mode = .handover ∨ t.boot.paused = true ∨ t.boot.handover.isSome = true
  · simp only [if_pos hbusy]
  simp only [if_neg hbusy]
  cases t.msgError m with
  | some st => rfl
  | none =>
    by_cases htype : t.mode = .recovery ∧ m.type ∉ recoveryTypes
    · simp [htype]
    · simp [htype]

/-- What a message leaves that the checks end: nothing where its path is off, else the reply with their status. -/
def afterChecks (s t : State) (m : Msg) : State :=
  match t.checkStatus m with
  | some st => if m.asked.via.isSome ∧ s.inbandOn = false then t else t.refuse m st
  | none => t

theorem takeMessage_checked (h : ¬ (m.asked.via = none ∨ s.inbandOn = true) ∨ (t.checkStatus m).isSome = true) :
    s.takeMessage mine f = (s.afterChecks t m).messageDone := by
  rw [takeMessage_own hrun hnext hmine, afterChecks]
  cases hstatus : t.checkStatus m with
  | some st => rfl
  | none =>
    have hoff : m.asked.via.isSome ∧ s.inbandOn = false := by
      simpa [hstatus, Option.isSome_iff_ne_none] using h
    exact congrArg messageDone (if_pos hoff)

theorem takeMessage_accepted (hon : m.asked.via = none ∨ s.inbandOn = true) (h : t.checkStatus m = none) :
    s.takeMessage mine f = (f t m).messageDone := by
  have hpath : ¬ (m.asked.via.isSome ∧ s.inbandOn = false) := by
    rcases hon with hon | hon <;> simp [hon]
  rw [takeMessage_own hrun hnext hmine, h, if_neg hpath]

end

/-- The checks of a message in the mailbox leave the part, the session and the last accepted counter. -/
theorem afterChecks_updateView (hnext : s.nextMessage = some (m, t)) (hvia : m.asked.via = none) :
    (s.afterChecks t m).updateView = s.updateView := by
  obtain rfl := nextMessage_mailbox hnext hvia
  unfold afterChecks
  split
  next st hstatus =>
    rw [if_neg (by simp [hvia])]
    exact refuse_updateView hvia (checkStatus_ne_zero hstatus)
  next => rfl

/-! ### What an accepted message does (R380 to R389) -/

theorem doOpen_target {j : Nat} {base : Option Nat} (hclosed : s.boot.session = none) (htarget : s.openTarget m = some (j, base))
    (hlen : m.payload.length = 12) (hfits : ofLe ((m.payload.drop 8).take 4) ≤ s.slotSize j)
    (hbase : ∀ i, base = some i → s.hash8 i = m.payload.take 8) :
    let u := s.accepted m
    let w := u.rewriteHeader [stateAt j slotBuilding, (28, leBytes 4 (u.reg (NVM 0x024)))]
    let y : Session :=
      { id := m.session, kind := m.kind, slot := j, base := base.getD j, length := ofLe ((m.payload.drop 8).take 4), last := w.time.clk }
    s.doOpen m false = (w.setBoot { w.boot with session := some y }).answerOk m [] := by
  have hgood : ¬ (m.payload.length ≠ 12 ∨ s.slotSize j < ofLe ((m.payload.drop 8).take 4) ∨
      base.any (fun i => s.hash8 i != m.payload.take 8) = true) := by
    cases base <;> simp_all
  unfold doOpen
  rw [hclosed, htarget]
  exact (if_neg Bool.false_ne_true).trans ((if_neg hgood).trans (if_neg Bool.false_ne_true))

section
variable {x : Session} (hsession : s.sessionOf m = some x)
include hsession

theorem doBlock_due {b : Bytes} (hrun : s.mode = .run) (hoffset : m.offset = x.received)
    (hdelta : s.deltaFrom x true m.payload.length x.written m.payload = some b) :
    s.doBlock m false = (s.output x b m.payload.length).answerOk m [] := by
  have hcopies : (s.mode == .run) = true := by rw [hrun]; rfl
  simp only [doBlock, hsession, hoffset, Nat.lt_irrefl, hcopies, hdelta, if_false, Bool.false_eq_true]

theorem doBlock_again (hoffset : m.offset < x.received) : s.doBlock m false =
    (s.setBoot { s.boot with session := some { x with last := s.time.clk } }).answerOk m [] := by
  simp only [doBlock, hsession, Nat.not_lt_of_gt hoffset, hoffset, if_false, if_true]

theorem doClose_whole (hwhole : x.written = x.length) : s.doClose m false = (s.stage x).answerOk m [] := by
  simp only [doClose, hsession, hwhole, ne_eq, not_true_eq_false, if_false, Bool.false_eq_true]
end

section
variable {j : Nat} (hclosed : s.boot.session = none) (hslot : s.activateSlot m = some j) (hstaged : s.slotState j = slotStaged)
include hclosed hslot hstaged

theorem activateFirmware_staged (hrun : s.mode = .run) :
    let u := s.accepted m
    s.activateFirmware m = (u.setBoot { u.boot with handover := some { slot := j, cause := 0, asked := some m.asked } }).setMode
      .handover := by
  unfold activateFirmware
  rw [hclosed, hslot]
  exact (if_neg Bool.false_ne_true).trans ((if_neg fun h => h.2 hstaged).trans (if_pos hrun))

theorem activateCrest_staged (hlen : m.payload.length = 10) (hheader : crestHeaderGood (s.slotBytes j) = true)
    (hgood : (sectionsFrom (s.slotBytes j) (ofLe (((s.slotBytes j).drop 20).take 4)) 64).all (·.good) = true)
    (hopened : s.crest.phase = .opened) (hmode : s.commitMode = true) :
    let secs := sectionsFrom (s.slotBytes j) (ofLe (((s.slotBytes j).drop 20).take 4)) 64
    let w := (((s.accepted m).clearPending.each secs pendingSection).crestIds (s.slotBytes j)).askCommit (ofLe (m.payload.take 6))
      (ofLe ((m.payload.drop 6).take 4))
    s.activateCrest m = w.setBoot { w.boot with atCommit := some { asked := m.asked, slot := some j, payload := [] } } := by
  unfold activateCrest
  rw [hclosed, hslot]
  exact (if_neg Bool.false_ne_true).trans ((if_neg (not_not_intro hstaged)).trans ((if_neg (not_not_intro hlen)).trans
    ((if_neg (by simp [hheader, hgood])).trans (if_neg (by simp [hopened, hmode])))))
end

theorem doRevert_window (h : s.boot.confirmAt.isSome = true) : s.doRevert m = (s.answerOk m []).goBack 2 slotStaged :=
  if_neg (by simpa [Option.isSome_iff_ne_none] using h)

section
variable {a : Admission} (hnumber : ofLe (m.payload.take 2) = 1) (hlen : 22 ≤ m.payload.length)
include hnumber hlen

theorem doService_refusal (h : a.result ≠ 0) :
    s.doService m a = s.answerOk m (admissionReply m a ++ List.replicate 10 0) :=
  (if_neg (by simp only [hnumber]; omega)).trans ((if_neg (by omega)).trans (if_pos h))

theorem doService_admission (h : a.result = 0) (hopened : s.crest.phase = .opened) (hmode : s.commitMode = true) :
    let v := (s.accepted m).each a.regs fun s x => s.registerWrite .mgmt x.1 x.2.toNat
    let w := (v.each a.tabs admissionEntry).crestGo 1
    s.doService m a = w.setBoot { w.boot with atCommit := some { asked := m.asked, slot := none, payload := admissionReply m a } } :=
  (if_neg (by simp only [hnumber]; omega)).trans ((if_neg (by omega)).trans ((if_neg (not_not_intro h)).trans
    (if_neg (by simp [hopened, hmode]))))
end

end Sys2Proof.Machine.State
end

section
/-! PROOFS. The update engine's messages. -/

namespace Sys2Proof.Proofs

open Sys2Proof.Machine State

/-- Settles O52: the engine takes the next message where the command is about its type, and ends it where a check does. -/
theorem messageChecks : Obligations.MessageChecks := by
  intro s t m err a hrun hnext
  refine ⟨fun hend => ⟨fun ht => ?opened, fun ht => ?block, fun ht => ?close, fun ht => ?activate, fun ht => ?revert,
    fun ht => ?service, fun ht => ?status, fun _ hvia => ?kept⟩, fun ht => ?notOpen, fun ht => ?notBlock, fun ht => ?notClose,
    fun ht => ?notRevert⟩
  case opened => exact congrArg finish (takeMessage_checked hrun hnext (by simp [ofType, ht]) hend)
  case block => exact congrArg finish (takeMessage_checked hrun hnext (by simp [ofType, ht]) hend)
  case close => exact congrArg finish (takeMessage_checked hrun hnext (by simp [ofType, ht]) hend)
  case activate =>
    by_cases hk : m.kind = kindCrest
    · rw [if_pos hk]
      exact congrArg finish (takeMessage_checked hrun hnext (by simp [activates, ht, hk]) hend)
    · rw [if_neg hk]
      exact congrArg finish (takeMessage_checked hrun hnext (by simp [activates, ht, hk]) hend)
  case revert => exact congrArg finish (takeMessage_checked hrun hnext (by simp [ofType, ht]) hend)
  case service => exact congrArg finish (takeMessage_checked hrun hnext (by simp [ofType, ht]) hend)
  case status => exact congrArg finish (takeMessage_checked hrun hnext (by simp [ht]) hend)
  case kept =>
    have h := afterChecks_updateView hnext hvia
    exact ⟨congrArg (·.1) h, congrArg (·.2.1.session) h, congrArg (·.2.2) h⟩
  case notOpen => exact congrArg finish (takeMessage_other hrun hnext (by simp [ofType, ht]))
  case notBlock => exact congrArg finish (takeMessage_other hrun hnext (by simp [ofType, ht]))
  case notClose => exact congrArg finish (takeMessage_other hrun hnext (by simp [ofType, ht]))
  case notRevert => exact congrArg finish (takeMessage_other hrun hnext (by simp [ofType, ht]))

/-- Settles O53: the engine hands a message that passes its checks to its type's effect, whose conditions the clause states. -/
theorem messageEffects : Obligations.MessageEffects := by
  intro s t m x a j b hrun hnext hon hgood hmode hpaused hhandover
  have htaken : ∀ {mine : Msg → Bool} {f : State → Msg → State} {w : State}, mine m = true → f t m = w →
      finish (s.takeMessage mine f) = .next w.messageDone.finished := fun hmine hw =>
    congrArg finish ((takeMessage_accepted hrun hnext hmine hon (checkStatus_accepted hmode hpaused hhandover hgood)).trans
      (congrArg messageDone hw))
  refine ⟨fun base ht hclosed htarget hlen hfits hbase => ?opened,
    fun ht hsession => ⟨fun hoffset hdelta => ?due, fun hoffset => ?again⟩, fun ht hsession hwhole => ?close,
    fun ht hclosed hslot hstaged => ⟨fun hk => ?firmware, fun hk hlen hheader hsecs hopened hcommit => ?crest⟩,
    fun ht hwindow => ?revert, fun ht hnumber hlen => ⟨fun hresult => ?refusal, fun hresult hopened hcommit => ?admission⟩,
    fun ht => ?status⟩
  case opened => exact htaken (by simp [ofType, ht]) (doOpen_target hclosed htarget hlen hfits hbase)
  case due => exact htaken (by simp [ofType, ht]) (doBlock_due hsession hmode hoffset hdelta)
  case again => exact htaken (by simp [ofType, ht]) (doBlock_again hsession hoffset)
  case close => exact htaken (by simp [ofType, ht]) (doClose_whole hsession hwhole)
  case firmware =>
    exact htaken (by simp [activates, ht, hk]) ((if_pos hk).trans (activateFirmware_staged hclosed hslot hstaged hmode))
  case crest =>
    exact htaken (by simp [activates, ht, hk])
      ((if_pos hmode).trans (activateCrest_staged hclosed hslot hstaged hlen hheader hsecs hopened hcommit))
  case revert => exact htaken (by simp [ofType, ht]) (doRevert_window hwindow)
  case refusal => exact htaken (by simp [ofType, ht]) (doService_refusal hnumber hlen hresult)
  case admission => exact htaken (by simp [ofType, ht]) (doService_admission hnumber hlen hresult hopened hcommit)
  case status => exact htaken (by simp [ht]) (if_pos ht)

end Sys2Proof.Proofs
end


section
/-! SUPPORT. The update engine's events: idle sessions, the activation's check, the handover and the way back from it
(R380 to R386). -/

namespace Sys2Proof.Machine.State

variable {s : State}

/-! ### Sessions that idle -/

theorem sessionExpire_open {x : Session} (hopen : s.boot.session = some x) (hrun : s.engineRuns = true) :
    s.sessionExpire = (s.elapseFrom x.last (s.rf (NVM 0x018) 0 16 * 250000000)).abandon x := by
  simp only [sessionExpire, hopen, hrun, not_true_eq_false, if_false]

/-! ### The activation's check and the handover (R383 to R386) -/

theorem checkDone_begun {h : Handover} {c : State} {good : Bool} (hhandover : s.boot.handover = some h) (hpassed : h.passed = false)
    (hrun : s.engineRuns = true) (hmode : s.mode ≠ .recovery) (hcheck : s.imageCheck h.slot (!s.boot.areaB) false = (c, good)) :
    s.checkDone false = if good then c.activationPasses h else c.activationFails h := by
  have hkept : c.mode = s.mode := congrArg (fun p : State × Bool => p.1.mode) hcheck.symm
  have hmode' : c.mode ≠ .recovery := hkept ▸ hmode
  simp only [checkDone, hhandover, hpassed, hrun, hcheck, hmode', not_true_eq_false, Bool.false_eq_true, or_false, if_false]

theorem controlPass_due {h : Handover} (hhandover : s.boot.handover = some h) (hpassed : h.passed = true)
    (hmode : s.mode = .handover) (hreset : s.inReset = false) :
    let u := (s.sendClaim.showFwSlot h.slot).setMode .run
    s.controlPass = u.setBoot { u.boot with
      handover := none
      areaB := !u.boot.areaB
      confirmAt := if h.cause = 0 ∧ u.twoSlot = true then some u.time.clk else none } := by
  simp only [controlPass, hhandover]
  exact if_neg (by simp [hpassed, hmode, hreset])

theorem servicesResume_run (hpaused : s.boot.paused = true) (hmode : s.mode = .run) (hhandover : s.boot.handover = none) :
    s.servicesResume = s.setBoot { s.boot with paused := false } := if_pos ⟨hpaused, hmode, by simp [hhandover]⟩

/-! ### Confirmation and the way back (R385) -/

theorem plainReg_confirm : plainReg (NVM 0x010) = some (.nvm, 0x60000) := by decide +kernel

theorem busWrite_confirm (h : s.accepts .mgmt (NVM 0x010) true) {v : Word} (hbit : bit v.toNat 0 = true)
    (hkey : bits v.toNat 16 16 = 0xC0F1) :
    s.busWrite .mgmt (NVM 0x010) v = ((s.arrived .mgmt (NVM 0x010) 2).storing (NVM 0x010) v.toNat).confirm :=
  (busWrite_plain_of_not_ignored h plainReg_confirm rfl v).trans (if_pos ⟨hbit, hkey⟩)

theorem confirm_pending {t j : Nat} (hwindow : s.boot.confirmAt = some t) (hslot : s.slotIn kindFw slotPending = some j) :
    s.confirm = ((s.setSlots [(j, slotActive)]).setBoot { s.boot with confirmAt := none }).clrBit (NVM 0) 5 := by
  simp only [confirm, hwindow, hslot]

/-- The slots are read from the part, the boot state and NVM_STATUS. -/
theorem slotIn_congr {u : State} (hnvm : u.nvm = s.nvm) (hboot : u.boot = s.boot) (hreg : u.reg (NVM 0) = s.reg (NVM 0))
    (kind st : Nat) : u.slotIn kind st = s.slotIn kind st := by
  have hfield : ∀ o n, u.headerField o n = s.headerField o n := fun o n => by
    simp only [headerField, header, nvmLe, nvmBytes, rbit, hnvm, hboot, hreg]
  have hgood : u.slotGood = s.slotGood := funext fun j => by
    simp only [slotGood, slotBase, slotSize, slotField, rf, hfield, hreg]
  have hstate : u.slotState = s.slotState := funext fun j => by simp only [slotState, slotField, hgood, hfield]
  simp only [slotIn, slotsOf, slotField, hfield, hstate]

theorem windowExpire_pending {t j : Nat} (hwindow : s.boot.confirmAt = some t) (hmode : s.mode = .run)
    (hreset : s.inReset = false) {u : State} (hu : s.elapseFrom t (s.rf (NVM 0x008) 0 12 * 250000000) = u)
    (hpending : u.slotIn kindFw slotPending = some j) :
    s.windowExpire = ((u.setBit (NVM 0x030) 2).raise 22 (u.slotField j 2 1)).goBack 1 slotBad := by
  simp only [windowExpire, hwindow, hmode, hreset, hu, hpending, ne_eq, not_true_eq_false, Bool.false_eq_true, or_false, if_false]

theorem goBack_previous {i j : Nat} (hpending : s.slotIn kindFw slotPending = some j) (hprevious : s.slotIn kindFw slotPrevious = some i)
    (cause st : Nat) :
    let z := ((s.setSlots [(j, st), (i, slotActive)]).bump (NVM 0x110)).setMode .handover
    s.goBack cause st = (z.setBoot { z.boot with confirmAt := none }).pauseServices { slot := i, cause, asked := none } := by
  simp only [goBack, hpending, hprevious]

/-- The fault of the window's end changes no slot. -/
theorem slotIn_reported (n kind st : Nat) : ((s.setBit (NVM 0x030) 2).raise 22 n).slotIn kind st = s.slotIn kind st :=
  slotIn_congr (by rw [raise_nvm, setBit_eq, setReg_nvm]) (by rw [raise_boot, setBit_eq, setReg_boot])
    ((raise_reg _ _ _ _ _ _ _).trans (reg_setBit_other (by decide))) kind st

/-! ### LLDP (R374) -/

theorem lldpSend_live {p : Nat} (hrun : s.servicesRun = true) (hp : p < 64) (hport : s.portExists s.crest.bank p = true)
    (hreset : s.inReset = false) (tlvs : Bytes) : s.lldpSend p tlvs =
      s.sendDirect (beBytes 6 0x0180C200000E ++ beBytes 6 s.deviceMac ++ beBytes 2 0x88CC ++ tlvs) p 7 6 none false :=
  if_neg (by simp only [hrun, hport, hreset]; simp; omega)

end Sys2Proof.Machine.State
end

section
/-! PROOFS. The update engine's events. -/

namespace Sys2Proof.Proofs

open Sys2Proof.Machine State

/-- Settles O54: each event finds the state that its clause names, and nothing on the way to it changes what it reads. -/
theorem updateEvents : Obligations.UpdateEvents := by
  intro s x h p t0 i j tlvs v
  refine ⟨fun hopen hrun => ?idle, fun hhandover hpassed hrun hmode => ?check, fun hhandover hpassed hmode hreset => ?control,
    fun hpaused hmode hhandover => ?resume, fun hacc hbit hkey hwindow hslot => ?confirm, fun hacc => ?ignored,
    fun hwindow hmode hreset hpending hprevious => ?window, fun hrun hp hport hreset => ?lldp⟩
  case idle => exact congrArg finish (sessionExpire_open hopen hrun)
  case check => exact congrArg finish (checkDone_begun hhandover hpassed hrun hmode rfl)
  case control => exact congrArg finish (controlPass_due hhandover hpassed hmode hreset)
  case resume => exact congrArg finish (servicesResume_run hpaused hmode hhandover)
  case confirm => exact congrArg finish ((busWrite_confirm hacc hbit hkey).trans (confirm_pending hwindow hslot))
  case ignored => exact congrArg finish (busWrite_ignored hacc rfl rfl rfl v)
  case window =>
    exact congrArg finish ((windowExpire_pending hwindow hmode hreset rfl hpending).trans
      (goBack_previous ((slotIn_reported _ _ _).trans hpending) ((slotIn_reported _ _ _).trans hprevious) 1 slotBad))
  case lldp => exact congrArg finish (lldpSend_live hrun hp hport hreset tlvs)

end Sys2Proof.Proofs
end
